-- ==== Sys2Proof/Word.lean ====
section
/-! DEFINITION. The machine's plainest words: a tag, a moment of the yard clock, a line of characters.
Nothing of the Corthine YC-740's behaviour stands here. -/

namespace Sys2Proof

/-- A vehicle's identity (00_scope.md, Quantities and units): 40 bits, matched under a mask (R88). -/
abbrev Tag := BitVec 40

/-- A moment of the yard clock: whole seconds since 2000-01-01 00:00:00 (R165). -/
abbrev YardTime := Nat

/-- The characters of a line, a layout line or a name, in order. -/
abbrev Text := List Char

end Sys2Proof
end

