-- ==== Sys2Proof/Config.lean ====
section
/-! DEFINITION. What the manual fixes for every part (table sizes, limits) and the values it leaves
open: an open value is an opaque constant, so that nothing can be proved about which value it is. -/

namespace Sys2Proof.Config

/-- The silicon revision that PART ID? shows, one capital letter (R202); the manual gives no value. -/
opaque siliconRevision : Fin 26

/-- The parameter of ATTACHED when the yard clock stands before `detached since` (R193 states no
value there, log entry 4); applied to `detached since` and the clock. -/
opaque attachedBackward : Nat → Nat → Nat

/-- The balance a settlement starts from when its visit's account has been deleted (R135 lets that happen
before the visit opens and R144 names no figure, log entry 47); applied to the account's number. -/
opaque missingBalance : Nat → Int

/-- The credit limit a settlement is judged by when its visit's account has been deleted (R135, R145, log
entry 47); applied to the account's number. -/
opaque missingLimit : Nat → Nat

/-- R125, R90: the visit table holds at most 64 visits. -/
def visitCapacity : Nat := 64
/-- R130: the tare table holds at most 256 entries. -/
def tareCapacity : Nat := 256
/-- R135: the account table holds at most 128 entries. -/
def accountCapacity : Nat := 128
/-- R203: the outcome queue holds at most 64 records. -/
def outcomeCapacity : Nat := 64
/-- R206: the report queue holds at most 48 reports. -/
def reportCapacity : Nat := 48
/-- R173: a printer's job queue holds at most 4 jobs. -/
def jobCapacity : Nat := 4
/-- R147: the store holds 64 pages. -/
def pageCount : Nat := 64
/-- R147: a page holds 256 slots. -/
def slotsPerPage : Nat := 256
/-- R149: the last journal sequence, 4,294,967,295. -/
def lastSequence : Nat := 4294967295
/-- R165: the last second of the yard clock, 2099-12-31 23:59:59. -/
def lastSecond : Nat := 3155759999
/-- R3: the magnitude at which a conversion is saturated. -/
def saturation : Nat := 8380000
/-- R15: the divisor of the span computation, 2^24. -/
def spanUnit : Nat := 16777216
/-- R10: a trim of gain one, 2^14. -/
def unityTrim : Nat := 16384
/-- R15: the limit at which a weight is clamped. -/
def weightLimit : Int := 999999
/-- Chapter 7, R136: the limit of a balance either way. -/
def balanceLimit : Int := 999999999
/-- R185: the receive buffer's length. -/
def bufferLength : Nat := 200

end Sys2Proof.Config
end

