-- ==== Sys2Proof/Syntax.lean ====
section
/-! DEFINITION. The commands of the YC-740: one constructor of `Instr` for each row of
spec/opcode_table.json, and the operand types. Three kinds of sender use them (INVENTORY.md, Agents):
the field wiring (events on inputs), the part itself (its timers and the steps it takes when they are
due) and the host (command lines that the link unit takes).

A host command carries what its line holds after the subject, index and action keyword have been read
(R187): the index, and its parameters as `Option`; `none` stands for parameters of the wrong form or
number (R189), which the meaning answers at its own place in the order of judgement (R190). -/

namespace Sys2Proof

/-- The two weighbridge decks. -/
inductive Deck where
  | a | b
  deriving DecidableEq, Repr

/-- The number of an end of a deck. -/
inductive EndNo where
  | one | two
  deriving DecidableEq, Repr

/-- The four ends, A1, A2, B1 and B2. -/
inductive EndId where
  | a1 | a2 | b1 | b2
  deriving DecidableEq, Repr

/-- The deck an end belongs to. -/
def EndId.deck : EndId → Deck
  | .a1 | .a2 => .a
  | .b1 | .b2 => .b

/-- The number of an end. -/
def EndId.no : EndId → EndNo
  | .a1 | .b1 => .one
  | .a2 | .b2 => .two

/-- The other end of the same deck. -/
def EndId.other : EndId → EndId
  | .a1 => .a2
  | .a2 => .a1
  | .b1 => .b2
  | .b2 => .b1

/-- The end of a deck with a given number. -/
def Deck.endAt : Deck → EndNo → EndId
  | .a, .one => .a1
  | .a, .two => .a2
  | .b, .one => .b1
  | .b, .two => .b2

/-- The four cell channels of a deck. -/
inductive Chan where
  | c1 | c2 | c3 | c4
  deriving DecidableEq, Repr

/-- The 24 fault sources (00_scope.md, Naming). -/
inductive FaultSource where
  | cell (d : Deck) (c : Chan)
  | bar (e : EndId)
  | loop (e : EndId)
  | rdr (e : EndId)
  | prn (d : Deck)
  | journal
  | clock
  deriving DecidableEq, Repr

/-- A barrier's two feedback inputs (R58). -/
inductive FeedbackInput where
  | up | down
  deriving DecidableEq, Repr

/-- The lines of an end that carry a polarity setting (R58). -/
inductive EndLine where
  | raise | lower | red | green | up | down | approach | safety | loopfault
  deriving DecidableEq, Repr

/-- The lines of a deck that carry a polarity setting (R58). -/
inductive DeckLine where
  | beam1 | beam2 | busy | paper | taken
  deriving DecidableEq, Repr

/-- The part's own lines that carry a polarity setting (R58). -/
inductive PartLine where
  | cal | attn
  deriving DecidableEq, Repr

/-- A polarity setting (R58). -/
inductive Polarity where
  | high | low
  deriving DecidableEq, Repr

/-- A barrier's drive mode (R62). -/
inductive DriveMode where
  | pulse | hold | confirmed
  deriving DecidableEq, Repr

/-- The unknown-tag policy (R97). -/
inductive Policy where
  | refer | refuse
  deriving DecidableEq, Repr

/-- A deck's inbound direction (R101). -/
inductive Direction where
  | oneToTwo | twoToOne
  deriving DecidableEq, Repr

/-- A deck mode that DECK x OPEN may give (R101, R103). -/
inductive OpenMode where
  | inOnly | outOnly | both
  deriving DecidableEq, Repr

/-- A deck's release condition (R117). -/
inductive Release where
  | atSettle | atPrinted | atTaken
  deriving DecidableEq, Repr

/-- The status that ACCOUNT n STATUS sets (R137). -/
inductive StatusWord where
  | open | stopped | closed
  deriving DecidableEq, Repr

/-- The preferred requester (R153). -/
inductive Prefer where
  | none | deckA | deckB
  deriving DecidableEq, Repr

/-- The parity of the host line (R184). -/
inductive Parity where
  | none | even
  deriving DecidableEq, Repr

/-- The report groups that have a mode (R207). -/
inductive ReportGroup where
  | traffic | weighing | journal | faults
  deriving DecidableEq, Repr

/-- The modes of a report group (R207). -/
inductive ReportMode where
  | all | exceptions | none
  deriving DecidableEq, Repr

/-- The value given for a numeric setting (R189): a number, or MIN, MAX or DEF. -/
inductive SetArg where
  | num (n : Int)
  | min | max | dflt
  deriving DecidableEq, Repr

/-- The value given for the silence time (R192). -/
inductive SilenceArg where
  | off
  | time (v : SetArg)
  deriving DecidableEq, Repr

/-- The terms of END xn ADMIT (R92). -/
structure AdmitArgs where
  account : Int
  cls : Int
  onePass : Bool
  deriving DecidableEq, Repr

/-- What follows the mask in TAG i SET (R97). -/
inductive TagAction where
  | allow (account cls : Int) (onePass : Bool)
  | refer
  | refuse
  deriving DecidableEq, Repr

/-- The parameters of TAG i SET (R97). -/
structure TagSetArgs where
  pattern : Tag
  mask : Tag
  action : TagAction
  deriving DecidableEq, Repr

/-- The parameters of CLOCK SET (R166): well formed, not yet judged against the calendar. -/
structure ClockArgs where
  year : Nat
  month : Nat
  day : Nat
  hour : Nat
  minute : Nat
  second : Nat
  deriving DecidableEq, Repr

/-- A character received at a tag reader's port: its code, or one with a framing error (R83). -/
inductive RxChar where
  | good (c : Char)
  | error
  deriving DecidableEq, Repr

/-- A character on the host line (R184, R185): the code of its 8 data bits, its parity bit (none on a line
without parity), and whether its stop bit is there. The link unit judges it by the line's parity. -/
structure LineChar where
  code : Char
  parity : Option Bool
  stop : Bool
  deriving DecidableEq, Repr

/-- The readings of one end's inputs, after polarity (R59). -/
structure EndReadings where
  approach : Bool
  safety : Bool
  loopfault : Bool
  up : Bool
  down : Bool
  deriving DecidableEq, Repr

/-- The readings of one deck's inputs, after polarity (R59, R172). -/
structure DeckReadings where
  beam1 : Bool
  beam2 : Bool
  busy : Bool
  paper : Bool
  taken : Bool
  deriving DecidableEq, Repr

/-- One thing of each deck. -/
structure PerDeck (α : Type) where
  a : α
  b : α
  deriving DecidableEq, Repr

/-- One thing of each end. -/
structure PerEnd (α : Type) where
  a1 : α
  a2 : α
  b1 : α
  b2 : α
  deriving DecidableEq, Repr

/-- One thing of each cell channel of a deck. -/
structure PerChan (α : Type) where
  c1 : α
  c2 : α
  c3 : α
  c4 : α
  deriving DecidableEq, Repr

/-- What the qualified input lines show at a moment (R59: at power-on and RESET ALL each reading
starts at the level its line shows; CAL waits for R44's comparison). -/
structure Readings where
  ends : PerEnd EndReadings
  decks : PerDeck DeckReadings
  deriving DecidableEq, Repr

/-- An end with every input inactive. -/
def EndReadings.quiet : EndReadings := ⟨false, false, false, false, false⟩

/-- A deck with every input inactive. -/
def DeckReadings.quiet : DeckReadings := ⟨false, false, false, false, false⟩

/-- Every input inactive: what the field shows at `State.reset` (log entry 5). -/
def Readings.quiet : Readings :=
  { ends := ⟨.quiet, .quiet, .quiet, .quiet⟩, decks := ⟨.quiet, .quiet⟩ }

/-- What comes with the return of power: the lines, what the yard clock shows (`none`: it did not
keep its count, R165) and the battery monitor. -/
structure PowerUp where
  lines : Readings
  clock : Option YardTime
  batteryLow : Bool
  deriving DecidableEq, Repr

/-- The commands, one constructor per row of spec/opcode_table.json, in the table's order but for its
last two rows, which stand with the printer's. -/
inductive Instr where
  | powerOn (p : PowerUp)
  | conversionResult (d : Deck) (c : Chan) (count : Int)
  | slotEnd (d : Deck)
  | captureGrant (d : Deck)
  | lampFlashToggle (d : Deck)
  | calSwitchOn
  | calSwitchOff
  | calPowerUpCompare (on : Bool)
  | approachOccupied (e : EndId)
  | approachClear (e : EndId)
  | safetyOccupied (e : EndId)
  | safetyClear (e : EndId)
  | loopfaultActive (e : EndId)
  | loopfaultInactive (e : EndId)
  | feedbackChange (e : EndId) (inp : FeedbackInput) (atPosition : Bool)
  | beamChange (d : Deck) (n : EndNo) (interrupted : Bool)
  | travelTimerExpiry (e : EndId)
  | pulseTimerExpiry (e : EndId)
  | pendingRaise (e : EndId)
  | pendingLower (e : EndId)
  | readReceived (e : EndId) (read : List RxChar)
  | readerErrorRun (e : EndId)
  | readerGoodRun (e : EndId)
  | holdRetest (e : EndId)
  | identificationTimerExpiry (e : EndId)
  | decisionTimerExpiry (e : EndId)
  | clearTimerExpiry (e : EndId)
  | arbiterOffer (d : Deck)
  | passageComplete (d : Deck)
  | closeComplete (d : Deck)
  | tailgateTimerExpiry (d : Deck)
  | weighingTimerExpiry (d : Deck)
  | takeTimerExpiry (d : Deck)
  | settleReserve (d : Deck)
  | appendComplete
  | writeFailure
  | journalGrant
  | eraseStart
  | eraseComplete
  | eraseFailure
  | journalScanComplete (readable : Bool)
  | clockSecond
  | batteryMonitorChange (low : Bool)
  | printerJobStart (d : Deck)
  | printerCharacterSent (d : Deck)
  | printerLastCharacterSent (d : Deck)
  | printerEndTimerExpiry (d : Deck)
  | busyChange (d : Deck) (active : Bool)
  | paperChange (d : Deck) (active : Bool)
  | takeEvent (d : Deck)
  | takenInactive (d : Deck)
  | uncollectedTimerExpiry (d : Deck)
  | stuckTimerExpiry (d : Deck)
  | lineComplete (chars : List LineChar)
  | replySent (lines : Readings)
  | silenceTimerExpiry
  | partScan (rate : Option SetArg)
  | partScanQuery
  | deckFilter (d : Deck) (n : Option SetArg)
  | deckFilterQuery (d : Deck)
  | deckStability (d : Deck) (mb : Option (SetArg × SetArg))
  | deckStabilityQuery (d : Deck)
  | deckTrack (d : Deck) (on : Option Bool)
  | deckTrackQuery (d : Deck)
  | deckZero (d : Deck)
  | deckWeightQuery (d : Deck)
  | deckCellsQuery (d : Deck)
  | deckReset (d : Deck)
  | deckStaged (d : Deck) (yes : Option Bool)
  | deckStagedQuery (d : Deck)
  | deckBeamsQuery (d : Deck)
  | deckCaptureQuery (d : Deck)
  | calMax (d : Deck) (kg : Option Int)
  | calInterval (d : Deck) (e : Option Int)
  | calTrim (d : Deck) (ng : Option (Int × Int))
  | calCells (d : Deck) (ns : Option (List Int))
  | calZero (d : Deck)
  | calSpan (d : Deck) (m : Option Int)
  | calK (d : Deck) (k : Option Int)
  | calZ0 (d : Deck) (z : Option Int)
  | metroLock
  | metroQuery
  | calParamQuery (d : Deck)
  | endPolarity (e : EndId) (p : Option (EndLine × Polarity))
  | endPolarityQuery (e : EndId) (l : Option EndLine)
  | deckPolarity (d : Deck) (p : Option (DeckLine × Polarity))
  | deckPolarityQuery (d : Deck) (l : Option DeckLine)
  | partPolarity (p : Option (PartLine × Polarity))
  | partPolarityQuery (l : Option PartLine)
  | barrierMode (e : EndId) (m : Option DriveMode)
  | barrierModeQuery (e : EndId)
  | barrierPulse (e : EndId) (ms : Option SetArg)
  | barrierPulseQuery (e : EndId)
  | barrierTravel (e : EndId) (sec : Option SetArg)
  | barrierTravelQuery (e : EndId)
  | barrierRaise (e : EndId)
  | barrierLower (e : EndId)
  | barrierQuery (e : EndId)
  | endPresent (e : EndId) (tag : Option Tag)
  | endAdmit (e : EndId) (p : Option AdmitArgs)
  | endRefuse (e : EndId)
  | tagSet (i : Int) (p : Option TagSetArgs)
  | tagClear (i : Int)
  | tagQuery (i : Int)
  | tagPolicy (p : Option Policy)
  | tagPolicyQuery
  | tagMatchQuery (tag : Option Tag)
  | endIdtime (e : EndId) (sec : Option SetArg)
  | endIdtimeQuery (e : EndId)
  | endDecide (e : EndId) (sec : Option SetArg)
  | endDecideQuery (e : EndId)
  | endCleartime (e : EndId) (sec : Option SetArg)
  | endCleartimeQuery (e : EndId)
  | endQuery (e : EndId)
  | deckInbound (d : Deck) (dir : Option Direction)
  | deckInboundQuery (d : Deck)
  | deckOpen (d : Deck) (m : Option OpenMode)
  | deckClose (d : Deck)
  | deckModeQuery (d : Deck)
  | deckCancel (d : Deck)
  | deckRelease (d : Deck)
  | deckStreak (d : Deck) (n : Option SetArg)
  | deckStreakQuery (d : Deck)
  | deckTailgate (d : Deck) (sec : Option SetArg)
  | deckTailgateQuery (d : Deck)
  | deckTimeout (d : Deck) (sec : Option SetArg)
  | deckTimeoutQuery (d : Deck)
  | deckTaketime (d : Deck) (sec : Option SetArg)
  | deckTaketimeQuery (d : Deck)
  | deckExit (d : Deck) (r : Option Release)
  | deckExitQuery (d : Deck)
  | deckQuery (d : Deck)
  | visitOverstay (h : Option SetArg)
  | visitOverstayQuery
  | tareSet (p : Option (Tag × Int))
  | tareClear (tag : Option Tag)
  | tareFindQuery (tag : Option Tag)
  | tareIndexQuery (i : Int)
  | tareCountQuery
  | tareExpiry (days : Option SetArg)
  | tareExpiryQuery
  | visitClose (n : Option Int)
  | visitQuery (n : Int)
  | visitFindQuery (tag : Option Tag)
  | visitNextQuery (n : Option Int)
  | visitCountQuery
  | accountAdd (n : Int) (p : Option (Int × List Int))
  | accountDelete (n : Int)
  | accountCredit (n : Int) (amount : Option Int)
  | accountLimit (n : Int) (amount : Option Int)
  | accountClasses (n : Int) (cs : Option (List Int))
  | accountStatus (n : Int) (w : Option StatusWord)
  | accountQuery (n : Int)
  | accountNextQuery (n : Option Int)
  | accountCountQuery
  | className (c : Int) (text : Text)
  | classRates (c : Int) (p : Option (Int × Int))
  | classMinimum (c : Int) (amount : Option Int)
  | classLayout (c : Int) (n : Option Int)
  | classStages (c : Int) (n : Option Int)
  | classOnepass (c : Int) (yes : Option Bool)
  | classTareupdate (c : Int) (yes : Option Bool)
  | classQuery (c : Int)
  | journalPrefer (p : Option Prefer)
  | journalPreferQuery
  | journalLow (n : Option SetArg)
  | journalLowQuery
  | journalExported (q : Option Int)
  | journalExportedQuery
  | journalRetain (days : Option SetArg)
  | journalRetainQuery
  | journalPurgeEnable
  | journalPurge (n : Option Int)
  | journalQuery
  | journalPageQuery (p : Option Int)
  | journalRead (q : Option Int)
  | journalNextQuery
  | clockSet (p : Option ClockArgs)
  | clockQuery
  | layoutLine (n : Int) (k : Option Int) (text : Text)
  | layoutClear (n : Int)
  | layoutLineQuery (n : Int) (k : Option Int)
  | ticketUncollected (d : Deck) (sec : Option SetArg)
  | ticketUncollectedQuery (d : Deck)
  | ticketReprint (d : Deck) (q : Option Int)
  | ticketQuery (d : Deck)
  | linkBaud (b : Option SetArg)
  | linkBaudQuery
  | linkParity (p : Option Parity)
  | linkParityQuery
  | linkSilence (v : Option SilenceArg)
  | linkSilenceQuery
  | partStart
  | partStop
  | partAutostart (yes : Option Bool)
  | partAutostartQuery
  | partReset
  | partIdQuery
  | linkQuery
  | outcomeQuery
  | outcomeTake (q : Option Int)
  | outcomeCountQuery
  | outcomeHigh (n : Option SetArg)
  | outcomeHighQuery
  | outcomeAttn (n : Option SetArg)
  | outcomeAttnQuery
  | reportQuery
  | reportTake (n : Option Int)
  | reportCountQuery
  | reportMode (p : Option (ReportGroup × ReportMode))
  | reportModeQuery (g : Option ReportGroup)
  | faultQuery
  | faultSourceQuery (src : Option FaultSource)
  | faultClear (src : Option FaultSource)
  deriving DecidableEq, Repr

end Sys2Proof
end

