-- ==== Sys2Proof/WellFormed.lean ====
section
/-! DEFINITION. Which commands can arrive at all: a conversion result lies in the converter's range,
received characters have codes of eight bits, texts taken from a correctly framed line are printable,
and a kept clock lies on the yard clock's calendar. Values a host may legally send out of range are
well formed: the part answers them (R191). -/

namespace Sys2Proof

/-- A character that can stand in a correctly framed line: a code from space to tilde (R185). -/
def printable (c : Char) : Bool := 32 ≤ c.toNat && c.toNat ≤ 126

/-- A character a reader's port can deliver: an eight-bit code, or a framing error. -/
def RxChar.wf : RxChar → Bool
  | .good c => c.toNat ≤ 255
  | .error => true

/-- A character the host line can deliver: an eight-bit code. -/
def LineChar.wf (c : LineChar) : Bool := c.code.toNat ≤ 255

/-- A character within a line: a CR or LF received whole ends a line and is no part of it (R185). One with
a parity bit may be in error, which the line's parity decides. -/
def LineChar.inLine (c : LineChar) : Bool :=
  !(c.stop && c.parity.isNone && (c.code == '\r' || c.code == '\n'))

/-- A conversion result is a signed 24-bit value (00_scope.md, Quantities and units). -/
def countWf (n : Int) : Bool := -8388608 ≤ n && n ≤ 8388607

/-- A clock that kept its count shows a moment of the calendar (R165). -/
def PowerUp.wf (p : PowerUp) : Bool :=
  match p.clock with
  | none => true
  | some t => t ≤ Config.lastSecond

/-- A date and time as the line spells it: four digits and two digits (R189). -/
def ClockArgs.wf (a : ClockArgs) : Bool :=
  a.year ≤ 9999 && a.month ≤ 99 && a.day ≤ 99 && a.hour ≤ 99 && a.minute ≤ 99 && a.second ≤ 99

/-- The commands that can arrive. -/
def WellFormed (i : Instr) : Bool :=
  match i with
  | .powerOn p => p.wf
  | .conversionResult _ _ n => countWf n
  | .readReceived _ cs => cs.all RxChar.wf
  | .lineComplete cs => cs.all fun c => c.wf && c.inLine
  | .className _ t => t.all printable
  | .layoutLine _ _ t => t.all printable
  | .clockSet (some a) => a.wf
  | _ => true

end Sys2Proof
end

