-- ==== Sys2Proof/Decode.lean ====
section
/-! DEFINITION. The commands a word spells. spec/opcode_table.json gives no row any bits: every command
of the YC-740 is an event or a line of characters (Machine/Parse.lean reads a line), so no word spells
one. -/

namespace Sys2Proof

/-- The command a word spells by the table's bits: none, because no row of the table has bits. -/
def decodeTableWord (_nbits _w : Nat) : Option Instr := none

end Sys2Proof
end

