-- ==== Sys2Proof/Machine/State.lean ====
section
/-! DEFINITION. The state of the YC-740: every table, queue, register, mode, timer and pin that the
manual names, as plain data, with the state right after reset. Readings are after polarity (R58); the
lamp, ATTN and line levels are views computed from this state (Machine/Flags.lean). -/

namespace Sys2Proof.Machine

/-- What stops the part: nothing does. Every fault of the manual is an entry of the part's own fault
table and a state it goes on from (R209 to R211), so that no constructor is needed. -/
inductive Fault where
  deriving DecidableEq, Repr

/-- What the model does not answer. -/
inductive Refusal where
  /-- Raised by `exec` for a row that has no meaning yet (safe). No arm is left that does. -/
  | notModelled (mnemonic : String)
  deriving DecidableEq, Repr

/-- What one command, and one step, answers. -/
abbrev Result (σ : Type) := Host.Outcome σ Fault Refusal

/-- A timer: stopped, running with its whole seconds left, or expired (R94, R177: expiry is remembered).
The seconds left are what the queries show (log entry 3). -/
inductive Timer where
  | stopped
  | running (left : Nat)
  | expired
  deriving DecidableEq, Repr

/-! ### Chapters 1 to 3: deck weighing, capture, calibration -/

/-- The CAU's state of one cell channel (section 1.1). `inForce` is the enabled setting the CAU works
by until the next slot end (R5); `inSlot` says a conversion arrived in the present slot (R4);
`resignal` that a DECK x RESET emptied the entry of a condition that may still be present (R8). -/
structure Channel where
  inForce : Bool
  count : Int
  age : Nat
  delivered : Bool
  inSlot : Bool
  condition : Bool
  goodRun : Nat
  saturated : Bool
  resignal : Bool
  deriving DecidableEq, Repr

/-- The published status of the latest set (R9, R16, R17, R19). -/
structure Published where
  sum : Int
  a : Int
  w : Int
  disp : Int
  invalid : Bool
  overload : Bool
  underload : Bool
  occupied : Bool
  empty : Bool
  stable : Bool
  deriving DecidableEq, Repr

/-- A deck's WCU (section 1.2). -/
structure Wcu where
  filterWin : List Int
  stabWin : List Int
  latest : Option Published
  zero : Int
  filterLen : Nat
  stabLen : Nat
  band : Nat
  track : Bool
  deriving DecidableEq, Repr

/-- The metrological parameters of a deck (R45). -/
structure Params where
  max : Nat
  interval : Nat
  span : Nat
  z0 : Int
  trims : PerChan Nat
  cells : PerChan Bool
  deriving DecidableEq, Repr

/-- The parameter names of R45, in R54's order. -/
inductive ParamName where
  | max | e | k | z0 | g1 | g2 | g3 | g4 | cells
  deriving DecidableEq, Repr

/-- The role of a transaction (R107). -/
inductive Role where
  | first | onePass | second | pass
  deriving DecidableEq, Repr

/-- A blocking word (R29, R42). -/
inductive BlockWord where
  | next | append | noset | oos | barrier | invalid | overload | underload | unstable | light | heavy
  | motion | diff | beam | total
  deriving DecidableEq, Repr

/-- The states of a capture logic (section 2.1). -/
inductive CaptureState where
  | idle | waiting | stageWrite | weighWrite
  deriving DecidableEq, Repr

/-- What the sequencer asks a weighing for (R27). -/
structure CaptureRequest where
  role : Role
  tag : Tag
  visit : Nat
  cls : Nat
  deriving DecidableEq, Repr

/-- One stage granted: its value, and its STAGE sequence once written (section 2.1). -/
structure StageEntry where
  value : Int
  seq : Option Nat
  deriving DecidableEq, Repr

/-- A capture logic (section 2.1). `grantDue` holds the D of a set that passed the grant test and
whose grant is the next step (log entry 2); `orphan` says that an append requested before a
withdrawal or reset has not completed (R27, R39, R40); `weighValue` is the weighing value R36 fixes. -/
structure Capture where
  state : CaptureState
  request : Option CaptureRequest
  stageCount : Nat
  stage : Nat
  stages : List StageEntry
  motion : Bool
  blocking : Option BlockWord
  drawForward : Bool
  flashLit : Bool
  staged : Bool
  grantDue : Option Int
  weighValue : Int
  orphan : Bool
  deriving DecidableEq, Repr

/-! ### Chapter 4: barriers, lamps, detectors -/

/-- A barrier's state (section 4.3). -/
inductive BarrierState where
  | down | raising | up | lowering | fault
  deriving DecidableEq, Repr

/-- A commanded position. -/
inductive Position where
  | up | down
  deriving DecidableEq, Repr

/-- A request accepted but not yet executed. -/
inductive PendingMove where
  | none | raise | lower
  deriving DecidableEq, Repr

/-- Why a driver entered FAULT. -/
inductive BarrierCause where
  | none | notUp | notDown | left | both
  deriving DecidableEq, Repr

/-- A barrier driver (section 4.3). `condition` is its BAR condition (R73). -/
structure Driver where
  state : BarrierState
  commanded : Position
  pending : PendingMove
  cause : BarrierCause
  condition : Bool
  travel : Timer
  pulsing : Bool
  raiseOut : Bool
  lowerOut : Bool
  mode : DriveMode
  pulseWidth : Nat
  travelTime : Nat
  deriving DecidableEq, Repr

/-- The polarity settings of an end's lines (R58); `true` is HIGH. -/
structure EndPolarity where
  raise : Polarity
  lower : Polarity
  red : Polarity
  green : Polarity
  up : Polarity
  down : Polarity
  approach : Polarity
  safety : Polarity
  loopfault : Polarity
  deriving DecidableEq, Repr

/-- The polarity settings of a deck's lines (R58). -/
structure DeckPolarity where
  beam1 : Polarity
  beam2 : Polarity
  busy : Polarity
  paper : Polarity
  taken : Polarity
  deriving DecidableEq, Repr

/-! ### Chapter 5: ends -/

/-- The states of an end machine (section 5.1). -/
inductive EndState where
  | idle | identifying | referred | held | ready | active | refused
  deriving DecidableEq, Repr

/-- A movement (R82). -/
inductive Movement where
  | inbound | outbound
  deriving DecidableEq, Repr

/-- A reason of an end (R85 to R96). -/
inductive Reason where
  | none
  | noTag | tagConflict | visitBusy | noVisit | duplicate | listed | unknown
  | noAccount | accountStopped | classDenied | funds
  | cal | yardFull | journalLow | outcomeHigh
  | host | timeout | detached | closed
  deriving DecidableEq, Repr

/-- The kind of a visit, and the kind a settlement by weighing has (chapter 7). -/
inductive VisitKind where
  | twoPass | onePass
  deriving DecidableEq, Repr

/-- The terms on which an inbound vehicle is admitted (section 5.1). -/
structure Admission where
  account : Nat
  cls : Nat
  kind : VisitKind
  manual : Bool
  deriving DecidableEq, Repr

/-- An end machine with its reader port and settings (sections 5.1, 5.2, R98). -/
structure EndMachine where
  state : EndState
  movement : Option Movement
  tag : Option Tag
  reason : Reason
  prior : Reason
  admission : Option Admission
  visit : Option Nat
  idTimer : Timer
  decideTimer : Timer
  clearTimer : Timer
  wrongWay : Bool
  heldRead : Option Tag
  conflict : Bool
  rdrCondition : Bool
  idTime : Nat
  decideTime : Nat
  clearTime : Nat
  deriving DecidableEq, Repr

/-- Everything that stands at one end: its inputs, their polarity, its driver and its end machine. -/
structure Station where
  lines : EndReadings
  polarity : EndPolarity
  driver : Driver
  machine : EndMachine
  deriving DecidableEq, Repr

/-- The action of an admission entry (R97). -/
inductive AdmitAction where
  | empty | allow | refer | refuse
  deriving DecidableEq, Repr

/-- An entry of the admission table (R97). -/
structure AdmitEntry where
  pattern : Tag
  mask : Tag
  action : AdmitAction
  account : Nat
  cls : Nat
  onePass : Bool
  deriving DecidableEq, Repr

/-! ### Chapter 7: visits, tares, accounts, classes -/

/-- A weighing committed (R37): what the capture logic hands the sequencer. -/
structure Committed where
  value : Int
  seq : Nat
  deck : Deck
  count : Nat
  staged : Bool
  deriving DecidableEq, Repr

/-- Where a tare came from. -/
inductive TareSource where
  | weighed | preset
  deriving DecidableEq, Repr

/-- The tare a ONE_PASS visit uses (R129). -/
structure TareUsed where
  value : Nat
  source : TareSource
  stored : YardTime
  count : Nat
  deriving DecidableEq, Repr

/-- An entry of the tare table (section 7.2). -/
structure TareEntry where
  tag : Tag
  value : Nat
  stored : YardTime
  source : TareSource
  count : Nat
  deriving DecidableEq, Repr

/-- The states of a visit (R126). -/
inductive VisitState where
  | admitted | onSite | leaving | settled
  deriving DecidableEq, Repr

/-- The block working on a visit (R127). -/
inductive Holder where
  | none
  | atEnd (e : EndId)
  | deck (d : Deck)
  | link
  deriving DecidableEq, Repr

/-- How the kind of a visit came to be (section 7.1). -/
inductive VisitNote where
  | none | tareMissing | classTwoPass | tareConflict
  deriving DecidableEq, Repr

/-- A visit (section 7.1). -/
structure Visit where
  number : Nat
  tag : Tag
  account : Nat
  cls : Nat
  kind : VisitKind
  state : VisitState
  holder : Holder
  opened : YardTime
  manual : Bool
  note : VisitNote
  first : Option Committed
  tare : Option TareUsed
  overstay : Bool
  deriving DecidableEq, Repr

/-- The status of an account with its stop cause (section 7.4). -/
inductive AccountStatus where
  | open | stoppedLimit | stoppedHost | closed
  deriving DecidableEq, Repr

/-- An account (section 7.4). -/
structure Account where
  number : Nat
  balance : Int
  limit : Nat
  status : AccountStatus
  classes : List Nat
  pendingCharge : Nat
  deriving DecidableEq, Repr

/-- A waste class (section 7.5). -/
structure WasteClass where
  name : Text
  inRate : Nat
  outRate : Nat
  minimum : Nat
  layout : Nat
  stages : Nat
  onePassOk : Bool
  updateTare : Bool
  deriving DecidableEq, Repr

/-! ### Chapter 8: the journal -/

/-- The seven requesters, in their fixed order (section 8.3). -/
inductive Requester where
  | capture (d : Deck)
  | settle (d : Deck)
  | metrology
  | clock
  | link
  deriving DecidableEq, Repr

/-- The settlement kinds (R140). -/
inductive SettleKind where
  | twoPass | onePass | abandoned
  deriving DecidableEq, Repr

/-- The direction of a settlement (R141). -/
inductive FlowDir where
  | inward | outward | none
  deriving DecidableEq, Repr

/-- The flags of a settlement (R145). -/
structure SettleFlags where
  staged : Bool
  presetTare : Bool
  calChanged : Bool
  limit : Bool
  manual : Bool
  detached : Bool
  deckChange : Bool
  deriving DecidableEq, Repr

/-- The contents of a SETTLE record (R140, R150). -/
structure Settlement where
  visit : Nat
  tag : Tag
  account : Nat
  cls : Nat
  kind : SettleKind
  first : Int × Nat
  second : Option (Int × Nat)
  tare : Option (Nat × TareSource)
  net : Nat
  dir : FlowDir
  charge : Nat
  balanceAfter : Int
  flags : SettleFlags
  tareUpdate : Option (Nat × Nat)
  deriving DecidableEq, Repr

/-- The cause of a CALIB record (R54, R56). -/
inductive CalibCause where
  | switch | lock
  deriving DecidableEq, Repr

/-- The contents of a CALIB record: its cause and the changed names of each deck. -/
structure CalibBody where
  cause : CalibCause
  names : PerDeck (List ParamName)
  deriving DecidableEq, Repr

/-- The contents of a record, by kind (R150). A CLOCK record's old date and time is its stamp's time
(R166). -/
inductive Body where
  | weigh (value : Int) (role : Role) (tag : Tag) (visit : Nat) (stages : List Nat)
  | stage (value : Int) (index : Nat) (tag : Tag) (visit : Nat)
  | settle (c : Settlement)
  | calib (c : CalibBody)
  | clock (new : YardTime)
  deriving DecidableEq, Repr

/-- The stamp of a record (R149). -/
structure Stamp where
  time : YardTime
  deck : Option Deck
  count : Nat
  lock : Bool
  deriving DecidableEq, Repr

/-- A record of the journal, and an outcome record (R150, R203). -/
structure Record where
  seq : Nat
  stamp : Stamp
  body : Body
  deriving DecidableEq, Repr

/-- A used slot (R147); the slots of a page beyond its used ones are EMPTY. -/
inductive Slot where
  | written (r : Record)
  | void
  deriving DecidableEq, Repr

/-- The states of a page (R147). -/
inductive PageState where
  | erased | current | filled | erasing
  deriving DecidableEq, Repr

/-- A page: its state and its used slots in ascending order (R147). -/
structure Page where
  state : PageState
  used : List Slot
  deriving DecidableEq, Repr

/-- A request with the write arbiter: its record's contents and its attempt number (R152). -/
structure Request where
  requester : Requester
  deck : Option Deck
  body : Body
  attempt : Nat
  deriving DecidableEq, Repr

/-- An append in progress with the stamp taken when the store took it (R154). -/
structure Append where
  request : Request
  stamp : Stamp
  deriving DecidableEq, Repr

/-- The erase of the head ERASING page (section 8): none begun, running, or suspended. -/
inductive EraseState where
  | none | running | suspended
  deriving DecidableEq, Repr

/-- The journal controller and its store (chapter 8). `newest` is the page R148 calls so; `cutSlot`
says that a power loss or RESET ALL cut off a write whose slot the scan makes VOID; `scanDone` that
the scan of R164 is complete. -/
structure Journal where
  pages : List Page
  newest : Nat
  nextSeq : Nat
  exported : Nat
  fault : Bool
  scanDone : Bool
  cutSlot : Bool
  pending : List Request
  inProgress : Option Append
  lastGranted : Requester
  erase : EraseState
  eraseFailed : Bool
  purgeLatch : Bool
  readPointer : Nat
  prefer : Prefer
  low : Nat
  retain : Nat
  deriving DecidableEq, Repr

/-! ### Chapter 9: printers -/

/-- A ticket job: its SETTLE record's values, its layout and its copy flag (R173). -/
structure Job where
  seq : Nat
  layout : Nat
  copy : Bool
  stamp : Stamp
  values : Settlement
  deriving DecidableEq, Repr

/-- Where the port stands in a job: the line, and the characters still to go of it. The last line's
characters end with the form feed; none are left once it has been sent (R172, log entry 20). -/
structure SendPosition where
  line : Nat
  rest : Text
  deriving DecidableEq, Repr

/-- The states of a printer (section 9.3). -/
inductive PrinterState where
  | ready | printing | waitTake | fault
  deriving DecidableEq, Repr

/-- A printer (section 9.3). `charGoing` says a character is going out (R172: the next waits while BUSY
reads active); `condition` is the PRN condition (R178). -/
structure Printer where
  state : PrinterState
  queue : List Job
  presented : Option Job
  send : Option SendPosition
  charGoing : Bool
  busyAfterEnd : Bool
  endTimer : Timer
  uncollected : Timer
  stuck : Timer
  condition : Bool
  uncollectedTime : Nat
  deriving DecidableEq, Repr

/-! ### Chapter 6: sequencers and arbiters -/

/-- The modes of a deck (section 6.1). -/
inductive DeckMode where
  | inOnly | outOnly | both | closed
  deriving DecidableEq, Repr

/-- The states of a sequencer (section 6.4). -/
inductive SeqState where
  | idle | entering | weighing | committing | settling | ticketing | departing | ejecting
  deriving DecidableEq, Repr

/-- The progress of a settlement's ticket (section 6.4). -/
inductive TicketProgress where
  | queued | missing | printed | taken
  deriving DecidableEq, Repr

/-- A settlement's ticket: its SETTLE sequence and its progress. -/
structure Ticket where
  seq : Nat
  progress : TicketProgress
  deriving DecidableEq, Repr

/-- A deck sequencer's transaction record (section 6.4). `unmarked` says that an ejection came from
ENTERING with its passage mark clear (R120); `release` is the release condition read at entry to
TICKETING (R117); `orphanSettle` that a SETTLE append requested before a DECK x RESET, with the place
reserved for it, has not completed (R123). -/
structure Sequencer where
  state : SeqState
  role : Option Role
  approach : Option EndId
  tag : Tag
  visit : Nat
  weighing : Option Committed
  reservation : Bool
  ticket : Option Ticket
  passage : Option EndId
  passageMark : Bool
  lowerRequested : Bool
  tailgateMark : Bool
  unmarked : Bool
  release : Release
  tailgate : Timer
  weighTimer : Timer
  take : Timer
  orphanSettle : Bool
  deriving DecidableEq, Repr

/-- The settings of section 6.1. -/
structure DeckSettings where
  mode : DeckMode
  closePending : Bool
  inbound : Direction
  streakLimit : Nat
  tailgateTime : Nat
  weighingTime : Nat
  release : Release
  takeTime : Nat
  deriving DecidableEq, Repr

/-- Everything one deck has. -/
structure DeckUnit where
  channels : PerChan Channel
  wcu : Wcu
  params : Params
  capture : Capture
  settings : DeckSettings
  streak : Nat
  notClear : Bool
  seq : Sequencer
  lines : DeckReadings
  polarity : DeckPolarity
  printer : Printer
  deriving DecidableEq, Repr

/-! ### Chapter 3: the metrology block -/

/-- The changed flags of a deck (R53). -/
structure ChangedFlags where
  max : Bool
  e : Bool
  k : Bool
  z0 : Bool
  trims : PerChan Bool
  cells : Bool
  deriving DecidableEq, Repr

/-- The metrology block (section 3.1). `compareDue` says that the comparison of R44 is still to come. -/
structure Metro where
  switchOn : Bool
  compareDue : Bool
  snapshot : PerDeck Params
  changed : PerDeck ChangedFlags
  count : Nat
  lock : Bool
  inProgress : Option CalibBody
  waiting : Option CalibBody
  deriving DecidableEq, Repr

/-! ### Chapter 11: reports and faults -/

/-- The report kinds (R207). -/
inductive ReportKind where
  | wrongWay | refer | admitted | refused | held | departed | tailgate | deckNotClear | overstay
  | captured | stage | settled | weighTimeout | tareReplaced | accountStopped | ticketPrinted
  | ticketNotTaken | noTicket
  | journalLow | journalFull | eraseDone | purgeStop
  | fault | faultGone
  | powerUp | deckReset | detached | attached | calOn | calOff
  deriving DecidableEq, Repr

/-- The subject of a report (section 11.2). -/
inductive Subject where
  | none
  | deck (d : Deck)
  | atEnd (e : EndId)
  | source (f : FaultSource)
  deriving DecidableEq, Repr

/-- A report (section 11.2). -/
structure Report where
  number : Nat
  time : YardTime
  kind : ReportKind
  subject : Subject
  lost : Nat
  params : List String
  deriving DecidableEq, Repr

/-- The report queue with its modes (R206, R207). -/
structure Reports where
  queue : List Report
  next : Nat
  lost : Nat
  traffic : ReportMode
  weighing : ReportMode
  journal : ReportMode
  faults : ReportMode
  deriving DecidableEq, Repr

/-- The states of a fault entry (section 11.3). -/
inductive EntryState where
  | clear | active | latched
  deriving DecidableEq, Repr

/-- An entry of the fault table; a CLEAR entry has count 0, no read flag and no time (section 11.3). -/
structure FaultEntry where
  state : EntryState
  read : Bool
  first : YardTime
  count : Nat
  deriving DecidableEq, Repr

/-- The fault table: one entry for each of the 24 sources. -/
structure FaultTable where
  cells : PerDeck (PerChan FaultEntry)
  bar : PerEnd FaultEntry
  loop : PerEnd FaultEntry
  rdr : PerEnd FaultEntry
  prn : PerDeck FaultEntry
  journal : FaultEntry
  clock : FaultEntry
  deriving DecidableEq, Repr

/-- The outcome queue and its settings (section 11.1); the reservations stand with their producers. -/
structure Outcomes where
  queue : List Record
  high : Nat
  attn : Nat
  deriving DecidableEq, Repr

/-! ### Chapter 10: link, part, clock -/

/-- The codes of an error reply (R190). -/
inductive ErCode where
  | syntaxError | param | state | busy | locked | notFound | full | mismatch | unread | active
  | line | long | refused
  deriving DecidableEq, Repr

/-- A reply (R190): OK with its fields, OK CLAMPED with the values used, or ER with its reason words. -/
inductive Reply where
  | ok (fields : List String)
  | clamped (fields : List String)
  | er (code : ErCode) (reason : List String)
  deriving DecidableEq, Repr

/-- A completed line that is to be answered (R185). -/
inductive Line where
  | framed (t : Text)
  | spoiled
  | overlong
  deriving DecidableEq, Repr

/-- The receive buffer with its marks (section 10.1). -/
structure RxBuffer where
  chars : Text
  spoiled : Bool
  overflow : Bool
  deriving DecidableEq, Repr

/-- The link unit (section 10.1). `lineBaud` and `lineParity` are the settings in force on the line,
which follow the stored ones when the reply has been sent (R184); `resetAsked` that a PART RESET waits
for its reply to be sent (R199); `closing` the visit whose VISIT CLOSE is pending, with its
reservation (R132). -/
structure Link where
  baud : Nat
  parity : Parity
  lineBaud : Nat
  lineParity : Parity
  lineChange : Bool
  rx : RxBuffer
  held : Option Line
  refusals : Nat
  reply : Option Reply
  silence : Nat
  silenceTimer : Timer
  attended : Bool
  detachedSince : Option YardTime
  resetAsked : Bool
  closing : Option Nat
  deriving DecidableEq, Repr

/-- The part's mode and part-wide settings (R2, R58, R197). -/
structure Part where
  run : Bool
  autostart : Bool
  scanRate : Nat
  calPolarity : Polarity
  attnPolarity : Polarity
  deriving DecidableEq, Repr

/-- The yard clock (R165). -/
structure YardClock where
  now : YardTime
  valid : Bool
  batteryLow : Bool
  deriving DecidableEq, Repr

/-- The visit table with its counter and overstay time (section 7.1). -/
structure Visits where
  table : List Visit
  next : Nat
  overstay : Nat
  deriving DecidableEq, Repr

/-- The tare table with its expiry (section 7.2); `none` is a free index. -/
structure Tares where
  table : List (Option TareEntry)
  expiry : Nat
  deriving DecidableEq, Repr

/-- The admission table with the unknown-tag policy (R97). -/
structure AdmissionTable where
  entries : List AdmitEntry
  policy : Policy
  deriving DecidableEq, Repr

/-- The state of the YC-740, and the queue of the commands that wait (`pending`, first in, first out),
which is the model's own. -/
structure State where
  pending : List Instr
  part : Part
  clock : YardClock
  link : Link
  decks : PerDeck DeckUnit
  ends : PerEnd Station
  metro : Metro
  admission : AdmissionTable
  visits : Visits
  tares : Tares
  accounts : List Account
  classes : List WasteClass
  journal : Journal
  layouts : List (List Text)
  outcomes : Outcomes
  reports : Reports
  faults : FaultTable
  deriving DecidableEq, Repr

/-! ### Reset -/

/-- A channel that has converted nothing since power-on (R8). -/
def Channel.fresh : Channel :=
  { inForce := true, count := 0, age := 0, delivered := false, inSlot := false, condition := false,
    goodRun := 0, saturated := false, resignal := false }

/-- The delivered metrological parameters (R45). -/
def Params.delivered : Params :=
  { max := 60000, interval := 20, span := 16777216, z0 := 0,
    trims := ⟨16384, 16384, 16384, 16384⟩, cells := ⟨true, true, true, true⟩ }

/-- A WCU after a restart with its default settings (R13, R14, R18, R22); the zero is Z0's. -/
def Wcu.delivered : Wcu :=
  { filterWin := [], stabWin := [], latest := none, zero := 0, filterLen := 8, stabLen := 8,
    band := 1, track := true }

/-- An idle capture logic with the default setting (R28, R40). -/
def Capture.delivered : Capture :=
  { state := .idle, request := none, stageCount := 1, stage := 1, stages := [], motion := false,
    blocking := none, drawForward := false, flashLit := false, staged := false, grantDue := none,
    weighValue := 0, orphan := false }

/-- The default polarities of an end's lines (R58). -/
def EndPolarity.delivered : EndPolarity :=
  ⟨.high, .high, .high, .high, .high, .high, .high, .high, .high⟩

/-- The default polarities of a deck's lines (R58). -/
def DeckPolarity.delivered : DeckPolarity := ⟨.high, .high, .high, .high, .high⟩

/-- A driver at power-on over a clear safety loop, in HOLD mode with the default times: driven down
(R62, R63, R64, R80). -/
def Driver.atReset : Driver :=
  { state := .lowering, commanded := .down, pending := .none, cause := .none, condition := false,
    travel := .running 8, pulsing := false, raiseOut := false, lowerOut := false, mode := .hold,
    pulseWidth := 500, travelTime := 8 }

/-- An end machine at power-on over a clear approach loop (R98, R100). -/
def EndMachine.atReset : EndMachine :=
  { state := .idle, movement := none, tag := none, reason := .none, prior := .none,
    admission := none, visit := none, idTimer := .stopped, decideTimer := .stopped,
    clearTimer := .running 3, wrongWay := false, heldRead := none, conflict := false,
    rdrCondition := false, idTime := 10, decideTime := 120, clearTime := 3 }

/-- A station at reset. -/
def Station.atReset : Station :=
  { lines := .quiet, polarity := .delivered, driver := .atReset, machine := .atReset }

/-- A printer at power-on (R177, R183). -/
def Printer.atReset : Printer :=
  { state := .ready, queue := [], presented := none, send := none, charGoing := false,
    busyAfterEnd := false, endTimer := .stopped, uncollected := .stopped, stuck := .stopped,
    condition := false, uncollectedTime := 60 }

/-- A cleared transaction record (R123, R124). The fields that are absent in IDLE and carry no
`Option` hold 0 and the default (log entry 6). -/
def Sequencer.cleared : Sequencer :=
  { state := .idle, role := none, approach := none, tag := 0, visit := 0, weighing := none,
    reservation := false, ticket := none, passage := none, passageMark := false,
    lowerRequested := false, tailgateMark := false, unmarked := false, release := .atPrinted,
    tailgate := .stopped, weighTimer := .stopped, take := .stopped, orphanSettle := false }

/-- The default settings of section 6.1. -/
def DeckSettings.delivered : DeckSettings :=
  { mode := .closed, closePending := false, inbound := .oneToTwo, streakLimit := 3,
    tailgateTime := 20, weighingTime := 180, release := .atPrinted, takeTime := 60 }

/-- A deck at reset. -/
def DeckUnit.atReset : DeckUnit :=
  { channels := ⟨.fresh, .fresh, .fresh, .fresh⟩, wcu := .delivered, params := .delivered,
    capture := .delivered, settings := .delivered, streak := 0, notClear := false,
    seq := .cleared, lines := .quiet, polarity := .delivered, printer := .atReset }

/-- No changed flag set (R52). -/
def ChangedFlags.none : ChangedFlags := ⟨false, false, false, false, ⟨false, false, false, false⟩, false⟩

/-- The metrology block as delivered; the snapshot of a switch never yet taken ON holds the delivered
parameters (log entry 6). -/
def Metro.delivered : Metro :=
  { switchOn := false, compareDue := true, snapshot := ⟨.delivered, .delivered⟩,
    changed := ⟨.none, .none⟩, count := 0, lock := false, inProgress := .none, waiting := .none }

/-- A CLEAR fault entry (section 11.3). -/
def FaultEntry.clear : FaultEntry := { state := .clear, read := false, first := 0, count := 0 }

/-- Every entry CLEAR (R211). -/
def FaultTable.empty : FaultTable :=
  { cells := ⟨⟨.clear, .clear, .clear, .clear⟩, ⟨.clear, .clear, .clear, .clear⟩⟩,
    bar := ⟨.clear, .clear, .clear, .clear⟩, loop := ⟨.clear, .clear, .clear, .clear⟩,
    rdr := ⟨.clear, .clear, .clear, .clear⟩, prn := ⟨.clear, .clear⟩, journal := .clear,
    clock := .clear }

/-- An EMPTY admission entry (R97). -/
def AdmitEntry.empty : AdmitEntry :=
  { pattern := 0, mask := 0, action := .empty, account := 0, cls := 0, onePass := false }

/-- A class as delivered (section 7.5). -/
def WasteClass.delivered (name : Text) : WasteClass :=
  { name := name, inRate := 0, outRate := 0, minimum := 0, layout := 0, stages := 1,
    onePassOk := false, updateTare := false }

/-- The delivered names of the 16 classes (section 7.5). -/
def WasteClass.names : List Text :=
  ["CLASS 0".toList, "CLASS 1".toList, "CLASS 2".toList, "CLASS 3".toList, "CLASS 4".toList,
   "CLASS 5".toList, "CLASS 6".toList, "CLASS 7".toList, "CLASS 8".toList, "CLASS 9".toList,
   "CLASS 10".toList, "CLASS 11".toList, "CLASS 12".toList, "CLASS 13".toList, "CLASS 14".toList,
   "CLASS 15".toList]

/-- Layout 0 as delivered (R169). -/
def deliveredLayout : List Text :=
  ["WEIGHBRIDGE TICKET ~X".toList, "TICKET ~Q  VISIT ~V".toList, "DATE ~D  TIME ~H".toList,
   "VEHICLE ~P  ACCOUNT ~A".toList, "CLASS ~K".toList, "FIRST  KG ~G".toList,
   "SECOND KG ~T".toList, "NET    KG ~N".toList, "CHARGE    ~C".toList, "BALANCE   ~B".toList,
   "FLAGS ~S  CAL ~Z".toList] ++ List.replicate 13 []

/-- An empty layout: 24 lines of no characters. -/
def emptyLayout : List Text := List.replicate 24 []

/-- The store as delivered: page 0 CURRENT, the others ERASED (R147). -/
def Journal.delivered : Journal :=
  { pages := { state := .current, used := [] } :: List.replicate 63 { state := .erased, used := [] },
    newest := 0, nextSeq := 1, exported := 0, fault := false, scanDone := false, cutSlot := false,
    pending := [], inProgress := none, lastGranted := .link, erase := .none, eraseFailed := false,
    purgeLatch := false, readPointer := 0, prefer := .none, low := 4, retain := 365 }

/-- The POWER_UP report that opens the queue after every power-on (R208), at the delivered clock. -/
def firstReport : Report :=
  { number := 1, time := 0, kind := .powerUp, subject := .none, lost := 0, params := [] }

/-- The link unit at power-on with its defaults (R184, R192, R200). -/
def Link.atReset : Link :=
  { baud := 9600, parity := .none, lineBaud := 9600, lineParity := .none, lineChange := false,
    rx := { chars := [], spoiled := false, overflow := false }, held := none, refusals := 0,
    reply := none, silence := 120, silenceTimer := .running 120, attended := true,
    detachedSince := none, resetAsked := false, closing := none }

/-- The machine right after power-on of a part as delivered, its field quiet: battery-backed memory at
the delivered and default values, volatile state as each chapter lays down, the journal's scan and the
comparison of R44 still to come, and no command waiting. -/
def State.reset : State :=
  { pending := []
    part := { run := false, autostart := false, scanRate := 20, calPolarity := .high,
              attnPolarity := .low }
    clock := { now := 0, valid := true, batteryLow := false }
    link := .atReset
    decks := ⟨.atReset, .atReset⟩
    ends := ⟨.atReset, .atReset, .atReset, .atReset⟩
    metro := .delivered
    admission := { entries := List.replicate 32 .empty, policy := .refer }
    visits := { table := [], next := 1, overstay := 12 }
    tares := { table := List.replicate 256 none, expiry := 90 }
    accounts := []
    classes := WasteClass.names.map WasteClass.delivered
    journal := .delivered
    layouts := deliveredLayout :: List.replicate 7 emptyLayout
    outcomes := { queue := [], high := 32, attn := 1 }
    reports := { queue := [firstReport], next := 2, lost := 0, traffic := .all, weighing := .all,
                 journal := .all, faults := .all }
    faults := .empty }

end Sys2Proof.Machine
end

