-- ==== Sys2Proof/Machine/Ops.lean ====
section
/-! DEFINITION. The named operations every meaning is built from: rounding, access to the state by deck
and end, offering a report, the signals of a fault source, the tables' look-ups, and answering a line.
Taking an exception and memory do not arise on this hardware (INVENTORY.md, Memory and ordering). -/

namespace Sys2Proof

/-- What a deck has. -/
def PerDeck.get {α : Type} (p : PerDeck α) : Deck → α
  | .a => p.a
  | .b => p.b

/-- Put what a deck has. -/
def PerDeck.set {α : Type} (p : PerDeck α) (d : Deck) (v : α) : PerDeck α :=
  match d with
  | .a => { p with a := v }
  | .b => { p with b := v }

/-- What an end has. -/
def PerEnd.get {α : Type} (p : PerEnd α) : EndId → α
  | .a1 => p.a1
  | .a2 => p.a2
  | .b1 => p.b1
  | .b2 => p.b2

/-- Put what an end has. -/
def PerEnd.set {α : Type} (p : PerEnd α) (e : EndId) (v : α) : PerEnd α :=
  match e with
  | .a1 => { p with a1 := v }
  | .a2 => { p with a2 := v }
  | .b1 => { p with b1 := v }
  | .b2 => { p with b2 := v }

/-- What a channel has. -/
def PerChan.get {α : Type} (p : PerChan α) : Chan → α
  | .c1 => p.c1
  | .c2 => p.c2
  | .c3 => p.c3
  | .c4 => p.c4

/-- Put what a channel has. -/
def PerChan.set {α : Type} (p : PerChan α) (c : Chan) (v : α) : PerChan α :=
  match c with
  | .c1 => { p with c1 := v }
  | .c2 => { p with c2 := v }
  | .c3 => { p with c3 := v }
  | .c4 => { p with c4 := v }

/-- The channels in order. -/
def PerChan.toList {α : Type} (p : PerChan α) : List α := [p.c1, p.c2, p.c3, p.c4]

/-- The channels 1 to 4. -/
def Chan.all : List Chan := [.c1, .c2, .c3, .c4]

/-- A channel's number. -/
def Chan.num : Chan → Nat
  | .c1 => 1
  | .c2 => 2
  | .c3 => 3
  | .c4 => 4

/-- The two decks. -/
def Deck.all : List Deck := [.a, .b]

/-- The four ends. -/
def EndId.all : List EndId := [.a1, .a2, .b1, .b2]

end Sys2Proof

namespace Sys2Proof.Machine

/-! ### Rounding and limits (00_scope.md, Rounding) -/

/-- RNA of the exact quotient `n / d`: to the nearest, a tie to the one farther from zero. -/
def rna (n : Int) (d : Nat) : Int :=
  if 0 ≤ n then (2 * n + d) / (2 * d) else -((2 * -n + d) / (2 * d))

/-- RNU of the exact quotient `n / d`: to the nearest, a tie to the larger. -/
def rnu (n d : Nat) : Nat := (2 * n + d) / (2 * d)

/-- The value of a range nearest to `n`. -/
def clampInt (lo hi n : Int) : Int := if n < lo then lo else if hi < n then hi else n

/-- Add one, wrapping from `top` to 1 (R125, R206). -/
def wrapNext (top n : Nat) : Nat := if top ≤ n then 1 else n + 1

/-! ### Access -/

/-- A deck's unit. -/
def State.deck (s : State) (d : Deck) : DeckUnit := s.decks.get d

/-- An end's station. -/
def State.station (s : State) (e : EndId) : Station := s.ends.get e

/-- An end's machine. -/
def State.machine (s : State) (e : EndId) : EndMachine := (s.ends.get e).machine

/-- An end's barrier driver. -/
def State.driver (s : State) (e : EndId) : Driver := (s.ends.get e).driver

/-- Change a deck's unit. -/
def State.modDeck (s : State) (d : Deck) (f : DeckUnit → DeckUnit) : State :=
  { s with decks := s.decks.set d (f (s.decks.get d)) }

/-- Change an end's station. -/
def State.modStation (s : State) (e : EndId) (f : Station → Station) : State :=
  { s with ends := s.ends.set e (f (s.ends.get e)) }

/-- Change an end's machine. -/
def State.modMachine (s : State) (e : EndId) (f : EndMachine → EndMachine) : State :=
  s.modStation e fun t => { t with machine := f t.machine }

/-- Change an end's barrier driver. -/
def State.modDriver (s : State) (e : EndId) (f : Driver → Driver) : State :=
  s.modStation e fun t => { t with driver := f t.driver }

/-- Change an end's input readings. -/
def State.modLines (s : State) (e : EndId) (f : EndReadings → EndReadings) : State :=
  s.modStation e fun t => { t with lines := f t.lines }

/-- Change a deck's sequencer. -/
def State.modSeq (s : State) (d : Deck) (f : Sequencer → Sequencer) : State :=
  s.modDeck d fun u => { u with seq := f u.seq }

/-- Change a deck's capture logic. -/
def State.modCapture (s : State) (d : Deck) (f : Capture → Capture) : State :=
  s.modDeck d fun u => { u with capture := f u.capture }

/-- Change a deck's WCU. -/
def State.modWcu (s : State) (d : Deck) (f : Wcu → Wcu) : State :=
  s.modDeck d fun u => { u with wcu := f u.wcu }

/-- Change a deck's metrological parameters. -/
def State.modParams (s : State) (d : Deck) (f : Params → Params) : State :=
  s.modDeck d fun u => { u with params := f u.params }

/-- Change a deck's settings. -/
def State.modSettings (s : State) (d : Deck) (f : DeckSettings → DeckSettings) : State :=
  s.modDeck d fun u => { u with settings := f u.settings }

/-- Change a deck's printer. -/
def State.modPrinter (s : State) (d : Deck) (f : Printer → Printer) : State :=
  s.modDeck d fun u => { u with printer := f u.printer }

/-- Change a deck's input readings. -/
def State.modDeckLines (s : State) (d : Deck) (f : DeckReadings → DeckReadings) : State :=
  s.modDeck d fun u => { u with lines := f u.lines }

/-- Change the link unit. -/
def State.modLink (s : State) (f : Link → Link) : State := { s with link := f s.link }

/-- Change the journal. -/
def State.modJournal (s : State) (f : Journal → Journal) : State := { s with journal := f s.journal }

/-- Change the metrology block. -/
def State.modMetro (s : State) (f : Metro → Metro) : State := { s with metro := f s.metro }

/-- Change the visit table. -/
def State.modVisits (s : State) (f : Visits → Visits) : State := { s with visits := f s.visits }

/-- Change the report queue. -/
def State.modReports (s : State) (f : Reports → Reports) : State := { s with reports := f s.reports }

/-! ### Reports (R206, R207) -/

/-- The group of a kind; `none` is the group PART, which has no mode (R207). -/
def ReportKind.group : ReportKind → Option ReportGroup
  | .wrongWay | .refer | .admitted | .refused | .held | .departed | .tailgate | .deckNotClear
  | .overstay => some .traffic
  | .captured | .stage | .settled | .weighTimeout | .tareReplaced | .accountStopped
  | .ticketPrinted | .ticketNotTaken | .noTicket => some .weighing
  | .journalLow | .journalFull | .eraseDone | .purgeStop => some .journal
  | .fault | .faultGone => some .faults
  | .powerUp | .deckReset | .detached | .attached | .calOn | .calOff => none

/-- The kinds selected in mode EXCEPTIONS (R207). -/
def ReportKind.exceptional : ReportKind → Bool
  | .refer | .refused | .tailgate | .deckNotClear | .overstay => true
  | .weighTimeout | .accountStopped | .ticketNotTaken | .noTicket => true
  | .journalLow | .journalFull | .purgeStop => true
  | .fault | .faultGone => true
  | .wrongWay | .admitted | .held | .departed | .captured | .stage | .settled | .tareReplaced
  | .ticketPrinted | .eraseDone => false
  | .powerUp | .deckReset | .detached | .attached | .calOn | .calOff => true

/-- The mode of a group (R207). -/
def Reports.mode (r : Reports) : ReportGroup → ReportMode
  | .traffic => r.traffic
  | .weighing => r.weighing
  | .journal => r.journal
  | .faults => r.faults

/-- Write the mode of a group (R207). -/
def Reports.setMode (r : Reports) (g : ReportGroup) (m : ReportMode) : Reports :=
  match g with
  | .traffic => { r with traffic := m }
  | .weighing => { r with weighing := m }
  | .journal => { r with journal := m }
  | .faults => { r with faults := m }

/-- Whether a kind is selected by its group's mode (R207). -/
def Reports.selects (r : Reports) (k : ReportKind) : Bool :=
  match k.group with
  | none => true
  | some g =>
    match r.mode g with
    | .all => true
    | .exceptions => k.exceptional
    | .none => false

/-- Place a selected report, or count it lost when the queue is full (R206). -/
def Reports.place (r : Reports) (now : YardTime) (k : ReportKind) (subj : Subject)
    (ps : List String) : Reports :=
  if r.queue.length < Config.reportCapacity then
    { r with
      queue := r.queue ++ [{ number := r.next, time := now, kind := k, subject := subj,
                             lost := r.lost, params := ps }]
      next := wrapNext 65535 r.next
      lost := 0 }
  else { r with lost := min 65535 (r.lost + 1) }

/-- Offer a report (R206): drop it when its group's mode does not select it, place it otherwise. -/
def offer (k : ReportKind) (subj : Subject) (ps : List String) (s : State) : State :=
  if s.reports.selects k then s.modReports (·.place s.clock.now k subj ps) else s

/-! ### The fault table's signals (R209) -/

/-- A source's entry. -/
def FaultTable.get (t : FaultTable) : FaultSource → FaultEntry
  | .cell d c => (t.cells.get d).get c
  | .bar e => t.bar.get e
  | .loop e => t.loop.get e
  | .rdr e => t.rdr.get e
  | .prn d => t.prn.get d
  | .journal => t.journal
  | .clock => t.clock

/-- Put a source's entry. -/
def FaultTable.set (t : FaultTable) (f : FaultSource) (v : FaultEntry) : FaultTable :=
  match f with
  | .cell d c => { t with cells := t.cells.set d ((t.cells.get d).set c v) }
  | .bar e => { t with bar := t.bar.set e v }
  | .loop e => { t with loop := t.loop.set e v }
  | .rdr e => { t with rdr := t.rdr.set e v }
  | .prn d => { t with prn := t.prn.set d v }
  | .journal => { t with journal := v }
  | .clock => { t with clock := v }

/-- Put a source's entry. -/
def State.setFault (s : State) (f : FaultSource) (v : FaultEntry) : State :=
  { s with faults := s.faults.set f v }

/-- The words of the entry states. -/
def EntryState.word : EntryState → String
  | .clear => "CLEAR"
  | .active => "ACTIVE"
  | .latched => "LATCHED"

/-- The detector of a source signals "condition arises" (R209). -/
def condArises (f : FaultSource) (s : State) : State :=
  let en := s.faults.get f
  match en.state with
  | .clear =>
    offer .fault (.source f) [toString (1 : Nat)]
      (s.setFault f { state := .active, read := false, first := s.clock.now, count := 1 })
  | .active => s.setFault f { en with count := min 255 (en.count + 1) }
  | .latched => s.setFault f { en with state := .active, count := min 255 (en.count + 1) }

/-- The detector of a source signals "condition ends" (R209). -/
def condEnds (f : FaultSource) (s : State) : State :=
  let en := s.faults.get f
  match en.state with
  | .active =>
    offer .faultGone (.source f) [toString en.count, EntryState.word .latched]
      (s.setFault f { en with state := .latched })
  | .clear | .latched => s

/-! ### The tables' look-ups -/

/-- The visit that carries a number. -/
def State.visit? (s : State) (n : Nat) : Option Visit := s.visits.table.find? (·.number == n)

/-- The visit that carries a tag (R87, R88). -/
def State.visitOf? (s : State) (t : Tag) : Option Visit := s.visits.table.find? (·.tag == t)

/-- Change the visit that carries a number. -/
def State.modVisit (s : State) (n : Nat) (f : Visit → Visit) : State :=
  s.modVisits fun v => { v with table := v.table.map fun x => if x.number == n then f x else x }

/-- Remove the visit that carries a number (R126). -/
def State.removeVisit (s : State) (n : Nat) : State :=
  s.modVisits fun v => { v with table := v.table.filter fun x => x.number != n }

/-- Remove a visit that may be there (R92 to R94: an end's open visit). -/
def State.removeVisit? (s : State) : Option Nat → State
  | none => s
  | some n => s.removeVisit n

/-- The account with a number. -/
def State.account? (s : State) (n : Nat) : Option Account := s.accounts.find? (·.number == n)

/-- Change the account with a number. -/
def State.modAccount (s : State) (n : Nat) (f : Account → Account) : State :=
  { s with accounts := s.accounts.map fun x => if x.number == n then f x else x }

/-- A waste class; beyond the table, a class as delivered with no name. -/
def State.cls (s : State) (c : Nat) : WasteClass := s.classes.getD c (.delivered [])

/-- The entry of the tare table that carries a tag, with its index (R130). -/
def State.tareOf? (s : State) (t : Tag) : Option (Nat × TareEntry) :=
  let rec go : Nat → List (Option TareEntry) → Option (Nat × TareEntry)
    | _, [] => none
    | i, some en :: rest => if en.tag == t then some (i, en) else go (i + 1) rest
    | i, none :: rest => go (i + 1) rest
  go 0 s.tares.table

/-- A tare entry is valid when the yard clock stands no more than the expiry after its date stored
(R129); one stored after the present clock is valid. -/
def State.tareValid (s : State) (en : TareEntry) : Bool :=
  decide (s.clock.now ≤ en.stored + s.tares.expiry * 86400)

/-! ### The outcome queue's room (R203, R115) -/

/-- A flag counted as one. -/
def countOf (b : Bool) : Nat := if b then 1 else 0

/-- The places one sequencer holds: its reservation, and the one of a SETTLE append that a DECK x RESET
has orphaned (R123). -/
def Sequencer.places (q : Sequencer) : Nat := countOf q.reservation + countOf q.orphanSettle

/-- All places reserved: by both sequencers and by the link (R115, R132). -/
def State.reservations (s : State) : Nat :=
  s.decks.a.seq.places + s.decks.b.seq.places + countOf s.link.closing.isSome

/-- The queue has room while its records plus its reservations number fewer than 64 (R203). -/
def State.outcomeRoom (s : State) : Bool :=
  decide (s.outcomes.queue.length + s.reservations < Config.outcomeCapacity)

/-! ### Answering a line (R186, R160) -/

/-- The reply to a line becomes the reply in progress (R186), and the line answered clears the purge
latch (R160). -/
def State.answered (s : State) (r : Reply) : State :=
  { s with
    link := { s.link with reply := some r }
    journal := { s.journal with purgeLatch := false } }

/-- Answer a line that a command row carries out: the state after the command, and its reply. -/
def answer (r : Reply) (s : State) : Result State := .next (s.answered r)

/-- Refuse a line: nothing of what the command names has changed (R190). -/
def refuse (c : ErCode) (s : State) : Result State := answer (.er c []) s

/-- A write of a lane setting is refused in RUN (R190, R194). -/
def laneWrite (s : State) (k : Result State) : Result State :=
  if s.part.run then refuse .state s else k

/-- Words after OK. -/
def okWith (fs : List String) : Reply := .ok fs

end Sys2Proof.Machine
end

