-- ==== Sys2Proof/Machine/Operands.lean ====
section
/-! DEFINITION. The forms operands and reply fields take: numeric settings with MIN, MAX and DEF and
their clamping (R189, R191), the calendar of the yard clock (R165), and how numbers, tags, dates and
the manual's words are written in a reply (R190). -/

namespace Sys2Proof

/-- The value a numeric setting takes (R189, R191): a number clamped to the range, or the word's. -/
def SetArg.value (lo hi dflt : Nat) : SetArg → Nat
  | .num n => (Machine.clampInt lo hi n).toNat
  | .min => lo
  | .max => hi
  | .dflt => dflt

/-- Whether the value given had to be clamped; a word never is (R189, R191). -/
def SetArg.clamped (lo hi : Nat) : SetArg → Bool
  | .num n => n < lo || (hi : Int) < n
  | .min | .max | .dflt => false

/-- The greatest legal value not above `n`, among rising legal values (R2, R14, R184). -/
def roundDown (legal : List Nat) (lo : Nat) (n : Int) : Nat :=
  legal.foldl (fun (best v : Nat) => if (v : Int) ≤ n then v else best) lo

/-- The value a stepped setting takes: below the range the least, above it the greatest, between two
legal values the lower one (R191). -/
def SetArg.stepped (legal : List Nat) (lo hi dflt : Nat) : SetArg → Nat
  | .num n => roundDown legal lo n
  | .min => lo
  | .max => hi
  | .dflt => dflt

/-- Whether a stepped setting's value differs from the number given (R2, R14, R184). -/
def SetArg.steppedDiffers (legal : List Nat) (lo : Nat) : SetArg → Bool
  | .num n => (roundDown legal lo n : Int) != n
  | .min | .max | .dflt => false

end Sys2Proof

namespace Sys2Proof.Machine

/-- The legal scan rates (R2). -/
def scanRates : List Nat := [10, 20, 40, 80]

/-- The legal filter lengths (R14). -/
def filterLengths : List Nat := [1, 2, 4, 8, 16, 32]

/-- The legal baud rates (R184). -/
def baudRates : List Nat := [9600, 19200, 38400, 57600, 115200]

/-- The legal scale intervals (R45). -/
def intervals : List Nat := [1, 2, 5, 10, 20, 50, 100]

/-- A number of a range, as a natural number (R191: refused, not clamped). -/
def inRange (lo hi : Nat) (n : Int) : Option Nat :=
  if (lo : Int) ≤ n ∧ n ≤ hi then some n.toNat else none

/-- A parameter that must be a number of a range. -/
def numIn (lo hi : Nat) (p : Option Int) : Option Nat := p.bind (inRange lo hi)

/-! ### The calendar (R165) -/

/-- The days of a month in a year of 2000 to 2099, every fourth a leap year. -/
def monthDays (year month : Nat) : Nat :=
  match month with
  | 1 | 3 | 5 | 7 | 8 | 10 | 12 => 31
  | 4 | 6 | 9 | 11 => 30
  | 2 => if year % 4 = 0 then 29 else 28
  | _ => 0

/-- The days of the first `months` months of a year. -/
def daysBefore (year : Nat) : Nat → Nat
  | 0 => 0
  | m + 1 => daysBefore year m + monthDays year (m + 1)

/-- The days before a year counted from 2000: 365 each, and one more for each leap year begun. -/
def yearStart (y : Nat) : Nat := 365 * y + (y + 3) / 4

/-- The moment a date and time name, when they exist on the calendar and lie in the clock's range
(R166). -/
def ClockArgs.moment? (a : ClockArgs) : Option YardTime :=
  if 2000 ≤ a.year ∧ a.year ≤ 2099 ∧ 1 ≤ a.day ∧ a.day ≤ monthDays a.year a.month ∧ a.hour ≤ 23
      ∧ a.minute ≤ 59 ∧ a.second ≤ 59 then
    some ((yearStart (a.year - 2000) + daysBefore a.year (a.month - 1) + (a.day - 1)) * 86400
      + a.hour * 3600 + a.minute * 60 + a.second)
  else none

/-- The month and day of a day of a year, both counted from 1. -/
def monthAndDay (year : Nat) : Nat → Nat → Nat → Nat × Nat
  | 0, month, day => (month, day + 1)
  | fuel + 1, month, day =>
    if day < monthDays year month then (month, day + 1)
    else monthAndDay year fuel (month + 1) (day - monthDays year month)

/-- The year, month and day of a day counted from 2000-01-01. -/
def dateOf (days : Nat) : Nat × Nat × Nat :=
  let cycle := days / 1461
  let rest := days % 1461
  let y := if rest < 366 then 0 else (rest - 366) / 365 + 1
  let day := if rest < 366 then rest else (rest - 366) % 365
  let year := 2000 + 4 * cycle + y
  let md := monthAndDay year 12 1 day
  (year, md.1, md.2)

/-! ### Fields -/

/-- A number, decimal, with a leading minus sign when negative. -/
def num (n : Int) : String := toString n

/-- A natural number, decimal. -/
def nat (n : Nat) : String := toString n

/-- A number of at least two digits. -/
def pad2 (n : Nat) : String := if n < 10 then "0" ++ toString n else toString n

/-- YYYY-MM-DD. -/
def dateText (t : YardTime) : String :=
  let d := dateOf (t / 86400)
  toString d.1 ++ "-" ++ pad2 d.2.1 ++ "-" ++ pad2 d.2.2

/-- HH:MM:SS. -/
def timeText (t : YardTime) : String :=
  pad2 (t % 86400 / 3600) ++ ":" ++ pad2 (t % 3600 / 60) ++ ":" ++ pad2 (t % 60)

/-- One hexadecimal digit, a capital. -/
def hexDigit (n : Nat) : Char :=
  if n < 10 then Char.ofNat (48 + n) else Char.ofNat (55 + n)

/-- The hexadecimal digits of a number, most significant first, so many of them. -/
def hexDigits : Nat → Nat → Text
  | 0, _ => []
  | k + 1, n => hexDigits k (n / 16) ++ [hexDigit (n % 16)]

/-- A tag: exactly ten hexadecimal digits (00_scope.md, Quantities and units). -/
def tagChars (t : Tag) : Text := hexDigits 10 t.toNat

/-- A tag in a reply. -/
def tagText (t : Tag) : String := String.ofList (tagChars t)

/-- Y or N. -/
def yn (b : Bool) : String := if b then "Y" else "N"

/-- YES or NO. -/
def yesNo (b : Bool) : String := if b then "YES" else "NO"

/-- A field, or "-" when it is absent. -/
def dash {α : Type} (f : α → String) : Option α → String
  | none => "-"
  | some v => f v

/-- Words joined by a separator. -/
def joinWith (sep : String) : List String → String
  | [] => ""
  | [w] => w
  | w :: ws => w ++ sep ++ joinWith sep ws

/-- Words joined by commas, or "-" when there are none. -/
def commas (ws : List String) : String :=
  match ws with
  | [] => "-"
  | _ => joinWith "," ws

/-- The seconds left on a timer, or "-" while it does not run. -/
def secondsLeft : Timer → String
  | .running n => toString n
  | .stopped | .expired => "-"

/-! ### The manual's words -/

def deckName : Deck → String
  | .a => "A"
  | .b => "B"

def endName : EndId → String
  | .a1 => "A1"
  | .a2 => "A2"
  | .b1 => "B1"
  | .b2 => "B2"

/-- The name of a fault source (00_scope.md, Naming). -/
def sourceName : FaultSource → String
  | .cell d c => "CELL-" ++ deckName d ++ toString c.num
  | .bar e => "BAR-" ++ endName e
  | .loop e => "LOOP-" ++ endName e
  | .rdr e => "RDR-" ++ endName e
  | .prn d => "PRN-" ++ deckName d
  | .journal => "JOURNAL"
  | .clock => "CLOCK"

/-- The sources in the order of the introduction (R210). -/
def allSources : List FaultSource :=
  (Deck.all.flatMap fun d => Chan.all.map (FaultSource.cell d))
    ++ EndId.all.map .bar ++ EndId.all.map .loop ++ EndId.all.map .rdr
    ++ Deck.all.map .prn ++ [.journal, .clock]

def roleWord : Role → String
  | .first => "FIRST"
  | .onePass => "ONE_PASS"
  | .second => "SECOND"
  | .pass => "PASS"

def blockWord : BlockWord → String
  | .next => "NEXT"
  | .append => "APPEND"
  | .noset => "NOSET"
  | .oos => "OOS"
  | .barrier => "BARRIER"
  | .invalid => "INVALID"
  | .overload => "OVER"
  | .underload => "UNDER"
  | .unstable => "UNSTABLE"
  | .light => "LIGHT"
  | .heavy => "HEAVY"
  | .motion => "MOTION"
  | .diff => "DIFF"
  | .beam => "BEAM"
  | .total => "TOTAL"

def captureWord : CaptureState → String
  | .idle => "IDLE"
  | .waiting => "WAITING"
  | .stageWrite => "STAGE_WRITE"
  | .weighWrite => "WEIGH_WRITE"

def barrierWord : BarrierState → String
  | .down => "DOWN"
  | .raising => "RAISING"
  | .up => "UP"
  | .lowering => "LOWERING"
  | .fault => "FAULT"

def positionWord : Position → String
  | .up => "UP"
  | .down => "DOWN"

def pendingWord : PendingMove → String
  | .none => "NONE"
  | .raise => "RAISE"
  | .lower => "LOWER"

def causeWord : BarrierCause → String
  | .none => "NONE"
  | .notUp => "NOTUP"
  | .notDown => "NOTDOWN"
  | .left => "LEFT"
  | .both => "BOTH"

def modeWord : DriveMode → String
  | .pulse => "PULSE"
  | .hold => "HOLD"
  | .confirmed => "CONFIRMED"

def polarityWord : Polarity → String
  | .high => "HIGH"
  | .low => "LOW"

def endStateWord : EndState → String
  | .idle => "IDLE"
  | .identifying => "IDENTIFYING"
  | .referred => "REFERRED"
  | .held => "HELD"
  | .ready => "READY"
  | .active => "ACTIVE"
  | .refused => "REFUSED"

def movementWord : Movement → String
  | .inbound => "INBOUND"
  | .outbound => "OUTBOUND"

def reasonWord : Reason → String
  | .none => "NONE"
  | .noTag => "NO_TAG"
  | .tagConflict => "TAG_CONFLICT"
  | .visitBusy => "VISIT_BUSY"
  | .noVisit => "NO_VISIT"
  | .duplicate => "DUPLICATE"
  | .listed => "LISTED"
  | .unknown => "UNKNOWN"
  | .noAccount => "NO_ACCOUNT"
  | .accountStopped => "ACCOUNT_STOPPED"
  | .classDenied => "CLASS_DENIED"
  | .funds => "FUNDS"
  | .cal => "CAL"
  | .yardFull => "YARD_FULL"
  | .journalLow => "JOURNAL_LOW"
  | .outcomeHigh => "OUTCOME_HIGH"
  | .host => "HOST"
  | .timeout => "TIMEOUT"
  | .detached => "DETACHED"
  | .closed => "CLOSED"

def kindWord : VisitKind → String
  | .twoPass => "TWO_PASS"
  | .onePass => "ONE_PASS"

def settleKindWord : SettleKind → String
  | .twoPass => "TWO_PASS"
  | .onePass => "ONE_PASS"
  | .abandoned => "ABANDONED"

def flowWord : FlowDir → String
  | .inward => "IN"
  | .outward => "OUT"
  | .none => "NONE"

def visitStateWord : VisitState → String
  | .admitted => "ADMITTED"
  | .onSite => "ON_SITE"
  | .leaving => "LEAVING"
  | .settled => "SETTLED"

/-- The holder field (R134). -/
def holderWord : Holder → String
  | .none => "-"
  | .atEnd e => endName e
  | .deck d => deckName d
  | .link => "LINK"

def noteWord : VisitNote → String
  | .none => "NONE"
  | .tareMissing => "TARE_MISSING"
  | .classTwoPass => "CLASS_TWO_PASS"
  | .tareConflict => "TARE_CONFLICT"

def tareSourceWord : TareSource → String
  | .weighed => "WEIGHED"
  | .preset => "PRESET"

/-- The status field of an account (R138). -/
def statusWord : AccountStatus → String
  | .open => "OPEN"
  | .stoppedLimit => "STOPPED/LIMIT"
  | .stoppedHost => "STOPPED/HOST"
  | .closed => "CLOSED"

def deckModeWord : DeckMode → String
  | .inOnly => "IN_ONLY"
  | .outOnly => "OUT_ONLY"
  | .both => "BOTH"
  | .closed => "CLOSED"

def seqWord : SeqState → String
  | .idle => "IDLE"
  | .entering => "ENTERING"
  | .weighing => "WEIGHING"
  | .committing => "COMMITTING"
  | .settling => "SETTLING"
  | .ticketing => "TICKETING"
  | .departing => "DEPARTING"
  | .ejecting => "EJECTING"

def directionWord : Direction → String
  | .oneToTwo => "1TO2"
  | .twoToOne => "2TO1"

def releaseWord : Release → String
  | .atSettle => "AT_SETTLE"
  | .atPrinted => "AT_PRINTED"
  | .atTaken => "AT_TAKEN"

def paramWord : ParamName → String
  | .max => "MAX"
  | .e => "E"
  | .k => "K"
  | .z0 => "Z0"
  | .g1 => "G1"
  | .g2 => "G2"
  | .g3 => "G3"
  | .g4 => "G4"
  | .cells => "CELLS"

def policyWord : Policy → String
  | .refer => "REFER"
  | .refuse => "REFUSE"

def actionWord : AdmitAction → String
  | .empty => "EMPTY"
  | .allow => "ADMIT"
  | .refer => "REFER"
  | .refuse => "REFUSE"

def preferWord : Prefer → String
  | .none => "NONE"
  | .deckA => "DECK_A"
  | .deckB => "DECK_B"

def parityWord : Parity → String
  | .none => "NONE"
  | .even => "EVEN"

def reportModeWord : ReportMode → String
  | .all => "ALL"
  | .exceptions => "EXCEPTIONS"
  | .none => "NONE"

def pageWord : PageState → String
  | .erased => "ERASED"
  | .current => "CURRENT"
  | .filled => "FILLED"
  | .erasing => "ERASING"

def printerWord : PrinterState → String
  | .ready => "READY"
  | .printing => "PRINTING"
  | .waitTake => "WAIT_TAKE"
  | .fault => "FAULT"

def reportWord : ReportKind → String
  | .wrongWay => "WRONG_WAY"
  | .refer => "REFER"
  | .admitted => "ADMITTED"
  | .refused => "REFUSED"
  | .held => "HELD"
  | .departed => "DEPARTED"
  | .tailgate => "TAILGATE"
  | .deckNotClear => "DECK_NOT_CLEAR"
  | .overstay => "OVERSTAY"
  | .captured => "CAPTURED"
  | .stage => "STAGE"
  | .settled => "SETTLED"
  | .weighTimeout => "WEIGH_TIMEOUT"
  | .tareReplaced => "TARE_REPLACED"
  | .accountStopped => "ACCOUNT_STOPPED"
  | .ticketPrinted => "TICKET_PRINTED"
  | .ticketNotTaken => "TICKET_NOT_TAKEN"
  | .noTicket => "NO_TICKET"
  | .journalLow => "JOURNAL_LOW"
  | .journalFull => "JOURNAL_FULL"
  | .eraseDone => "ERASE_DONE"
  | .purgeStop => "PURGE_STOP"
  | .fault => "FAULT"
  | .faultGone => "FAULT_GONE"
  | .powerUp => "POWER_UP"
  | .deckReset => "DECK_RESET"
  | .detached => "DETACHED"
  | .attached => "ATTACHED"
  | .calOn => "CAL_ON"
  | .calOff => "CAL_OFF"

def subjectWord : Subject → String
  | .none => "-"
  | .deck d => deckName d
  | .atEnd e => endName e
  | .source f => sourceName f

/-- The code and word of an error reply (R190). -/
def erWord : ErCode → String
  | .syntaxError => "10 SYNTAX"
  | .param => "11 PARAM"
  | .state => "12 STATE"
  | .busy => "13 BUSY"
  | .locked => "14 LOCKED"
  | .notFound => "15 NOTFOUND"
  | .full => "16 FULL"
  | .mismatch => "17 MISMATCH"
  | .unread => "18 UNREAD"
  | .active => "19 ACTIVE"
  | .line => "20 LINE"
  | .long => "21 LONG"
  | .refused => "22 REFUSED"

/-- The reply line as the link unit sends it, without its CR and LF (R190). -/
def Reply.text : Reply → String
  | .ok fs => joinWith " " ("OK" :: fs)
  | .clamped fs => joinWith " " ("OK" :: "CLAMPED" :: fs)
  | .er c rs => joinWith " " ("ER" :: erWord c :: rs)

/-! ### Writing a setting (R190, R191) -/

/-- The reply to a write of settings: OK, or OK CLAMPED with the values used. -/
def settingReply (clamped : Bool) (vals : List Nat) : Reply :=
  if clamped then .clamped (vals.map nat) else .ok []

/-- The reply of the entries that show the value in either case (R184, R205). -/
def shownReply (clamped : Bool) (v : Nat) : Reply :=
  if clamped then .clamped [nat v] else .ok [nat v]

/-- Write a numeric setting whose value is clamped (R191). -/
def writeSetting (lo hi dflt : Nat) (p : Option SetArg) (f : Nat → State → State) (s : State) :
    Result State :=
  match p with
  | none => refuse .param s
  | some v =>
    answer (settingReply (v.clamped lo hi) [v.value lo hi dflt]) (f (v.value lo hi dflt) s)

/-- Write a setting that is one word of a list; no such word is ER 11 PARAM. -/
def writeWord {α : Type} (p : Option α) (f : α → State → State) (s : State) : Result State :=
  match p with
  | none => refuse .param s
  | some v => answer (.ok []) (f v s)

end Sys2Proof.Machine
end

