-- ==== Sys2Proof/Machine/Flags.lean ====
section
/-! DEFINITION. Every status the manual computes from the state: the range and stability flags of a
set, the journal's levels, a deck's service, the safety reading, the lamps, ATTN and the levels of the
output lines. They are views: each is right at every moment because nothing stores it. -/

namespace Sys2Proof.Machine

/-! ### The deck flags (R16, R17) -/

/-- OVER (R16). -/
def overFlag (max e : Nat) (w : Int) : Bool := decide ((max : Int) + 9 * e < w)

/-- UNDER (R16). -/
def underFlag (e : Nat) (w : Int) : Bool := decide (w < -(20 * (e : Int)))

/-- OCCUPIED (R16). -/
def occupiedFlag (e : Nat) (w : Int) : Bool := decide (20 * (e : Int) ≤ w)

/-- EMPTY (R16). -/
def emptyFlag (e : Nat) (w : Int) : Bool := decide (w < 10 * (e : Int))

/-- The largest of a list of weights, starting from one of them. -/
def largest (w : Int) (ws : List Int) : Int := ws.foldl max w

/-- The smallest of a list of weights, starting from one of them. -/
def smallest (w : Int) (ws : List Int) : Int := ws.foldl min w

/-- STABLE (R17): the window holds `m` weights and their spread is at most band × e. -/
def stableFlag (m band e : Nat) (win : List Int) : Bool :=
  match win with
  | [] => false
  | w :: ws =>
    decide (win.length = m) && decide (largest w ws - smallest w ws ≤ ((band * e : Nat) : Int))

/-- A channel whose age is 4 or more is absent (R4). -/
def Channel.absent (c : Channel) : Bool := decide (4 ≤ c.age)

/-- The channel states of DECK x CELLS? (R25). -/
inductive ChannelWord where
  | off | absent | sat | recov | good
  deriving DecidableEq, Repr

/-- A channel's state word: ABSENT before SAT before RECOV (R25). -/
def Channel.word (c : Channel) : ChannelWord :=
  if !c.inForce then .off
  else if c.absent then .absent
  else if c.saturated then .sat
  else if c.condition then .recov
  else .good

/-- A deck is consistent when Max ≤ 10,000 × e (R45). -/
def Params.consistent (p : Params) : Bool := decide (p.max ≤ 10000 * p.interval)

/-- The latest set has EMPTY set; false while the deck has no weight (R13, R105). -/
def DeckUnit.readsEmpty (u : DeckUnit) : Bool :=
  match u.wcu.latest with
  | some p => p.empty
  | none => false

/-! ### The journal's levels (R148, R149, R157) -/

/-- There is a CURRENT page. -/
def Journal.hasCurrent (j : Journal) : Bool := j.pages.any (·.state == .current)

/-- The next sequence is spent when 4,294,967,295 has been assigned (R149). -/
def Journal.spent (j : Journal) : Bool := decide (Config.lastSequence < j.nextSeq)

/-- The condition of FULL (R148): no CURRENT page, or the next sequence spent. -/
def Journal.full (j : Journal) : Bool := !j.hasCurrent || j.spent

/-- The journal is NORMAL (R148). -/
def Journal.normal (j : Journal) : Bool := !j.fault && !j.full

/-- The journal's state word (R148, R167): FAULT first. -/
def Journal.word (j : Journal) : String :=
  if j.fault then "FAULT" else if j.full then "FULL" else "NORMAL"

/-- The erased page count (R148). -/
def Journal.erasedCount (j : Journal) : Nat := j.pages.countP (·.state == .erased)

/-- A requester has a request with the arbiter, pending or in progress (R151). -/
def Journal.has (j : Journal) (r : Requester) : Bool :=
  j.pending.any (·.requester == r) ||
    match j.inProgress with
    | some a => a.request.requester == r
    | none => false

/-! ### Service (R104) -/

/-- An entry that is ACTIVE or LATCHED. -/
def FaultEntry.raised (f : FaultEntry) : Bool := f.state != .clear

/-- Cause CALIB: a CALIB record in progress or waiting (R55, R104). -/
def Metro.calibPending (m : Metro) : Bool := m.inProgress.isSome || m.waiting.isSome

/-- Cause CELL: a CELL entry of the deck is ACTIVE or LATCHED, whether or not the channel is enabled
(R104). -/
def State.cellCause (s : State) (d : Deck) : Bool :=
  (s.faults.cells.get d).toList.any FaultEntry.raised

/-- Cause JOURNAL: the journal is FULL or in FAULT (R104). -/
def State.journalCause (s : State) : Bool := s.journal.fault || s.journal.full

/-- Deck `d` is out of service (R104). -/
def State.oos (s : State) (d : Deck) : Bool :=
  s.metro.switchOn || s.metro.calibPending || s.cellCause d || s.journalCause
    || !(s.deck d).params.consistent

/-- The words of the causes that hold, in the order of R104's table. -/
def State.oosCauses (s : State) (d : Deck) : List String :=
  (if s.metro.switchOn then ["CAL"] else [])
    ++ (if s.metro.calibPending then ["CALIB"] else [])
    ++ (if s.cellCause d then ["CELL"] else [])
    ++ (if s.journalCause then ["JOURNAL"] else [])
    ++ (if (s.deck d).params.consistent then [] else ["PARAM"])

/-! ### Loops and barriers -/

/-- The safety loop reads occupied while its line or the loop-fault line is active (R61). -/
def safetyReading (l : EndReadings) : Bool := l.safety || l.loopfault

/-- The safety reading of an end (R61). -/
def State.safetyOcc (s : State) (e : EndId) : Bool := safetyReading (s.station e).lines

/-- Only the state DOWN counts as down (section 4.3). -/
def State.barrierDown (s : State) (e : EndId) : Bool := (s.driver e).state == .down

/-- Both barriers of a deck are DOWN. -/
def State.bothDown (s : State) (d : Deck) : Bool :=
  s.barrierDown (d.endAt .one) && s.barrierDown (d.endAt .two)

/-- The feedback of a driver agrees with its commanded position (R73). -/
def Station.agrees (t : Station) : Bool :=
  match t.driver.commanded with
  | .up => t.lines.up && !t.lines.down
  | .down => t.lines.down && !t.lines.up

/-- The feedback reading of BARRIER xn? (R79). -/
def feedbackWord (l : EndReadings) : String :=
  match l.up, l.down with
  | true, true => "BOTH"
  | true, false => "UP"
  | false, true => "DOWN"
  | false, false => "NONE"

/-! ### Approach ends (R82) -/

/-- The end of a deck at which inbound movements begin. -/
def DeckSettings.inboundEnd (t : DeckSettings) : EndNo :=
  match t.inbound with
  | .oneToTwo => .one
  | .twoToOne => .two

/-- The movement that begins at an end (R82). -/
def State.movementAt (s : State) (e : EndId) : Movement :=
  if e.no = (s.deck e.deck).settings.inboundEnd then .inbound else .outbound

/-- An end is an approach end when its deck's mode lets a vehicle enter there (R82). -/
def State.isApproach (s : State) (e : EndId) : Bool :=
  match (s.deck e.deck).settings.mode, s.movementAt e with
  | .inOnly, .inbound => true
  | .outOnly, .outbound => true
  | .both, _ => true
  | _, _ => false

/-! ### Lamps (R35, R75) -/

/-- The three indications of a lamp pair. -/
inductive Lamp where
  | red | green | flash
  deriving DecidableEq, Repr

/-- The departure end of a transaction: the deck's other end (R107). -/
def Sequencer.departure (q : Sequencer) : Option EndId := q.approach.map EndId.other

/-- The indication of an end's lamp pair (R75). DESIGN CHOICE: a REFUSED end that serves a running
transaction follows R75's table, not R94's RED (log entry 35). -/
def State.lamp (s : State) (e : EndId) : Lamp :=
  let u := s.deck e.deck
  if (s.driver e).state = .up ∧ u.seq.passage = some e then .green
  else if u.capture.drawForward = true ∧ u.seq.departure = some e then .flash
  else .red

/-- The RED output is active (R75). -/
def State.redOut (s : State) (e : EndId) : Bool :=
  match s.lamp e with
  | .red => true
  | .green | .flash => false

/-- The GREEN output is active (R75): lit and dark in turn while flashing (R35). -/
def State.greenOut (s : State) (e : EndId) : Bool :=
  match s.lamp e with
  | .red => false
  | .green => true
  | .flash => (s.deck e.deck).capture.flashLit

def lampWord : Lamp → String
  | .red => "RED"
  | .green => "GREEN"
  | .flash => "FLASH"

/-! ### ATTN and the levels of the outputs (R58, R212) -/

/-- ATTN is asserted while a report waits, the outcomes stand at the attention threshold, or a fault
entry has not been read (R212). -/
def State.attn (s : State) : Bool :=
  !s.reports.queue.isEmpty || decide (s.outcomes.attn ≤ s.outcomes.queue.length)
    || allSources.any fun f => (s.faults.get f).raised && !(s.faults.get f).read

/-- The level of a line: high when it is active and its polarity HIGH, or inactive and LOW (R58). -/
def lineLevel (p : Polarity) (active : Bool) : Bool :=
  match p with
  | .high => active
  | .low => !active

/-- The levels of an end's four outputs, RAISE, LOWER, RED and GREEN (R58). -/
def State.outputLevels (s : State) (e : EndId) : List Bool :=
  let t := s.station e
  [lineLevel t.polarity.raise t.driver.raiseOut, lineLevel t.polarity.lower t.driver.lowerOut,
   lineLevel t.polarity.red (s.redOut e), lineLevel t.polarity.green (s.greenOut e)]

/-- The level of the ATTN line (R212). -/
def State.attnLevel (s : State) : Bool := lineLevel s.part.attnPolarity s.attn

end Sys2Proof.Machine
end

