-- ==== Sys2Proof/Machine/Journal.lean ====
section
/-! DEFINITION. Chapter 8, the weighing journal: the ring of pages, the write arbiter, failures, erases,
the scan, the levels, export and purge, read-back, and the clock's own commands. What a completion does
for the requester's owner stands in Machine/Completion.lean. -/

namespace Sys2Proof.Machine

/-! ### The ring (R147, R148) -/

/-- The pages after one in ring order, that page itself last. -/
def ringAfter (i : Nat) : List Nat :=
  (List.range Config.pageCount).map fun k => (i + 1 + k) % Config.pageCount

/-- A page of the store. -/
def Journal.page (j : Journal) (i : Nat) : Page := j.pages.getD i { state := .erased, used := [] }

/-- Put a page. -/
def Journal.setPage (j : Journal) (i : Nat) (p : Page) : Journal := { j with pages := j.pages.set i p }

/-- The first page in a state after a page in ring order. -/
def Journal.firstAfter (j : Journal) (i : Nat) (st : PageState) : Option Nat :=
  (ringAfter i).find? fun k => (j.page k).state == st

/-- The CURRENT page. -/
def Journal.current? (j : Journal) : Option Nat := j.firstAfter j.newest .current

/-- The head of the erase queue: the oldest ERASING page (R162). -/
def Journal.eraseHead (j : Journal) : Option Nat := j.firstAfter j.newest .erasing

/-- The FILLED pages, oldest first (R148). -/
def Journal.filledPages (j : Journal) : List Nat :=
  (ringAfter j.newest).filter fun k => (j.page k).state == .filled

/-- Some page is ERASING. -/
def Journal.erasing (j : Journal) : Bool := j.pages.any (·.state == .erasing)

/-- The records in a list of slots. -/
def recordsOf (ss : List Slot) : List Record :=
  ss.filterMap fun
    | .written r => some r
    | .void => none

/-- The records held (R147): those of FILLED pages and of the CURRENT page, oldest first. -/
def Journal.held (j : Journal) : List Record :=
  (ringAfter j.newest).flatMap fun k =>
    match (j.page k).state with
    | .current | .filled => recordsOf (j.page k).used
    | .erased | .erasing => []

/-- The last sequence written, or 0 (R167). -/
def Journal.lastSeq (j : Journal) : Nat := j.nextSeq - 1

/-- The held record of a sequence. -/
def Journal.record? (j : Journal) (q : Nat) : Option Record := j.held.find? (·.seq == q)

/-- Use the lowest EMPTY slot of page `i`; when that was its last, the page fills and the first ERASED
page after it becomes CURRENT, if there is one (R148). -/
def Journal.useSlot (j : Journal) (i : Nat) (sl : Slot) : Journal :=
  let used := (j.page i).used ++ [sl]
  if used.length < Config.slotsPerPage then j.setPage i { state := .current, used := used }
  else
    let j1 := j.setPage i { state := .filled, used := used }
    match j1.firstAfter i .erased with
    | some k => { j1.setPage k { state := .current, used := [] } with newest := k }
    | none => { j1 with newest := i }

/-- The reports a change of the journal's levels gives, `before` being the journal before it (R157):
JOURNAL_LOW when the erased page count comes to stand at or below the low threshold, JOURNAL_FULL when
the journal enters FULL. DESIGN CHOICE: a journal whose pages run out in the step in which it enters FAULT
enters FAULT and not FULL, so that no JOURNAL_FULL is placed (log entry 37). -/
def levelReports (before : Journal) (s : State) : State :=
  let j := s.journal
  let s1 :=
    if before.low < before.erasedCount ∧ j.erasedCount ≤ j.low then
      offer .journalLow .none [nat j.erasedCount, nat j.low] s
    else s
  if j.word = "FULL" ∧ before.word ≠ "FULL" then offer .journalFull .none [nat j.lastSeq] s1 else s1

/-! ### The write arbiter (R151 to R156) -/

/-- A requester's owner makes its request, of attempt number 1 (R152). -/
def journalRequest (r : Requester) (d : Option Deck) (b : Body) (s : State) : State :=
  s.modJournal fun j =>
    { j with pending := j.pending ++ [{ requester := r, deck := d, body := b, attempt := 1 }] }

/-- The seven requesters in their fixed order (section 8.3). -/
def requesters : List Requester :=
  [.capture .a, .capture .b, .settle .a, .settle .b, .metrology, .clock, .link]

/-- The place of a requester in the fixed order. -/
def Requester.index : Requester → Nat
  | .capture .a => 0
  | .capture .b => 1
  | .settle .a => 2
  | .settle .b => 3
  | .metrology => 4
  | .clock => 5
  | .link => 6

/-- The requesters in order after one, going round to it again (R152). -/
def Requester.roundFrom (r : Requester) : List Requester :=
  requesters.drop (r.index + 1) ++ requesters.take (r.index + 1)

/-- The deck a preference covers (R153). -/
def preferCovers : Prefer → Requester → Bool
  | .deckA, .capture .a | .deckA, .settle .a => true
  | .deckB, .capture .b | .deckB, .settle .b => true
  | _, _ => false

/-- The request the arbiter would grant (R152): one of attempt number 2 before any other, then those of
the preferred requester, then all; in a set, the first after the last granted. -/
def Journal.choice (j : Journal) : Option Request :=
  match j.pending.find? (·.attempt == 2) with
  | some r => some r
  | none =>
    let preferred := j.pending.filter fun r => preferCovers j.prefer r.requester
    let set := if preferred.isEmpty then j.pending else preferred
    j.lastGranted.roundFrom.findSome? fun q => set.find? (·.requester == q)

/-- The arbiter may grant (R152). -/
def Journal.canGrant (j : Journal) : Bool :=
  j.scanDone && j.inProgress.isNone && j.normal && !j.pending.isEmpty

/-- The stamp the store puts on the record it takes (R149). -/
def State.stamp (s : State) (d : Option Deck) : Stamp :=
  { time := s.clock.now, deck := d, count := s.metro.count, lock := s.metro.lock }

/-- An erase that runs is suspended (R162, R156). -/
def EraseState.suspend : EraseState → EraseState
  | .running => .suspended
  | e => e

/-- JOURNAL_GRANT (R152): the chosen request leaves the pending set and becomes the append in progress,
stamped as the store takes it (R154); an erase in progress is suspended (R162). -/
def execJournalGrant (s : State) : Result State :=
  if s.journal.canGrant then
    match s.journal.choice with
    | none => .next s
    | some r =>
      .next (s.modJournal fun j =>
        { j with
          pending := j.pending.filter fun x => x.requester != r.requester
          inProgress := some { request := r, stamp := s.stamp r.deck }
          lastGranted := r.requester
          erase := j.erase.suspend })
  else .next s

/-- The journal enters FAULT (R156): the erase in progress is halted and JOURNAL arises. -/
def journalFault (s : State) : State :=
  condArises .journal (s.modJournal fun j => { j with fault := true, erase := j.erase.suspend })

/-- WRITE_FAILURE (R155): the slot is VOID and its page fills if it was the last; the record returns to
its requester with attempt number 2, and a failed second attempt sends the journal into FAULT. DESIGN
CHOICE: where that attempt filled its page too, the FAULT report comes before JOURNAL_LOW, and no JOURNAL_FULL
is placed (log entry 37). -/
def execWriteFailure (s : State) : Result State :=
  match s.journal.inProgress, s.journal.current? with
  | some a, some i =>
    let s1 := s.modJournal fun j =>
      { j.useSlot i .void with
        inProgress := none
        pending := j.pending ++ [{ a.request with attempt := 2 }] }
    let s2 := if a.request.attempt = 1 then s1 else journalFault s1
    .next (levelReports s.journal s2)
  | _, _ => .next s

/-! ### Erases (R162, R163) -/

/-- The head page may be erased (R162): the scan is complete, the journal is not in FAULT, no append is
in progress, and no request is pending that the arbiter could grant. -/
def Journal.mayErase (j : Journal) : Bool :=
  j.scanDone && !j.fault && j.inProgress.isNone && (j.pending.isEmpty || j.full)

/-- ERASE_START (R162): the erase of the head ERASING page starts, or resumes where it stopped. -/
def execEraseStart (s : State) : Result State :=
  match s.journal.eraseHead with
  | some _ =>
    if s.journal.mayErase then .next (s.modJournal fun j => { j with erase := .running })
    else .next s
  | none => .next s

/-- ERASE_COMPLETE (R162): the page becomes ERASED, or CURRENT while there is no CURRENT page (R148),
and ERASE_DONE is reported. -/
def execEraseComplete (s : State) : Result State :=
  match s.journal.eraseHead, s.journal.erase with
  | some i, .running =>
    let s1 := s.modJournal fun j =>
      let j0 := { j with erase := .none, eraseFailed := false }
      if j.hasCurrent then j0.setPage i { state := .erased, used := [] }
      else { j0.setPage i { state := .current, used := [] } with newest := i }
    .next (offer .eraseDone .none [nat i, nat s1.journal.erasedCount] (levelReports s.journal s1))
  | _, _ => .next s

/-- ERASE_FAILURE (R163): the page's erase is made again from the start, once; a second failure sends
the journal into FAULT and leaves the page ERASING at the head of the queue. -/
def execEraseFailure (s : State) : Result State :=
  match s.journal.eraseHead, s.journal.erase with
  | some _, .running =>
    if s.journal.eraseFailed then
      .next (journalFault (s.modJournal fun j => { j with erase := .none, eraseFailed := false }))
    else .next (s.modJournal fun j => { j with eraseFailed := true })
  | _, _ => .next s

/-! ### The scan (R164) -/

/-- The volatile state of the journal is discarded (R164): the append in progress is cut off, every
pending request dropped, the latch cleared, FAULT left, and a scan begun. -/
def Journal.discard (j : Journal) : Journal :=
  { j with
    fault := false
    scanDone := false
    cutSlot := j.cutSlot || j.inProgress.isSome
    pending := []
    inProgress := none
    lastGranted := .link
    erase := .none
    eraseFailed := false
    purgeLatch := false }

/-- What a scan that could read the store fixes (R164): the slot whose write was under way is VOID, the
next sequence is above every sequence held, and the read pointer stands at the first held record. -/
def Journal.scanned (j : Journal) : Journal :=
  let j1 :=
    match j.cutSlot, j.current? with
    | true, some i => j.useSlot i .void
    | _, _ => j
  let high := (j1.pages.flatMap fun p => recordsOf p.used).foldl (fun m r => max m r.seq) 0
  { j1 with
    cutSlot := false
    scanDone := true
    fault := false
    lastGranted := .link
    nextSeq := if j1.nextSeq ≤ high then high + 1 else j1.nextSeq
    readPointer :=
      match j1.held with
      | [] => 0
      | r :: _ => r.seq }

/-- The metrology block requests again the CALIB record that was in progress (R55). -/
def requestCalibAgain (s : State) : State :=
  match s.metro.inProgress with
  | some c => if s.journal.has .metrology then s else journalRequest .metrology none (.calib c) s
  | none => s

/-- JOURNAL_SCAN_COMPLETE (R164): a scan that read the store leaves the journal NORMAL or FULL and
places the level reports; one that could not leaves it in FAULT. Either way the metrology block requests
its records again (R55). A scan that is not under way does nothing. DESIGN CHOICE: one that failed leaves the
read pointer as it stood (log entry 43). -/
def execJournalScanComplete (readable : Bool) (s : State) : Result State :=
  if s.journal.scanDone then .next s
  else if readable then
    let s1 := requestCalibAgain (s.modJournal Journal.scanned)
    let j := s1.journal
    let s2 := if j.full then offer .journalFull .none [nat j.lastSeq] s1 else s1
    .next (if j.erasedCount ≤ j.low then
      offer .journalLow .none [nat j.erasedCount, nat j.low] s2 else s2)
  else
    .next (requestCalibAgain (journalFault (s.modJournal fun j => { j with scanDone := true })))

/-! ### Levels, export and retention (R153, R157 to R159) -/

/-- JOURNAL PREFER (R153). -/
def execJournalPrefer (p : Option Prefer) (s : State) : Result State :=
  laneWrite s (writeWord p (fun v s => s.modJournal fun j => { j with prefer := v }) s)

/-- JOURNAL PREFER? (R153). -/
def execJournalPreferQuery (s : State) : Result State :=
  answer (.ok [preferWord s.journal.prefer]) s

/-- JOURNAL LOW (R157). -/
def execJournalLow (n : Option SetArg) (s : State) : Result State :=
  writeSetting 1 8 4 n
    (fun v s => levelReports s.journal (s.modJournal fun j => { j with low := v })) s

/-- JOURNAL LOW? (R157). -/
def execJournalLowQuery (s : State) : Result State := answer (.ok [nat s.journal.low]) s

/-- JOURNAL EXPORTED (R158). -/
def execJournalExported (q : Option Int) (s : State) : Result State :=
  match numIn s.journal.exported s.journal.lastSeq q with
  | none => refuse .param s
  | some v => answer (.ok [nat v]) (s.modJournal fun j => { j with exported := v })

/-- JOURNAL EXPORTED? (R158). -/
def execJournalExportedQuery (s : State) : Result State := answer (.ok [nat s.journal.exported]) s

/-- JOURNAL RETAIN (R159). -/
def execJournalRetain (days : Option SetArg) (s : State) : Result State :=
  writeSetting 0 3650 365 days (fun v s => s.modJournal fun j => { j with retain := v }) s

/-- JOURNAL RETAIN? (R159). -/
def execJournalRetainQuery (s : State) : Result State := answer (.ok [nat s.journal.retain]) s

/-! ### Purge (R160, R161) -/

/-- JOURNAL PURGE ENABLE (R160): the line is answered, which clears the latch, and sets it. -/
def execJournalPurgeEnable (s : State) : Result State :=
  .next ((s.answered (.ok [])).modJournal fun j => { j with purgeLatch := true })

/-- A record is older than the retention period (R159). -/
def olderThan (now : YardTime) (days : Nat) (t : YardTime) : Bool := decide (t + days * 86400 < now)

/-- A record passes the purge's two tests (R161). -/
def purgeable (now : YardTime) (mark days : Nat) (r : Record) : Bool :=
  decide (r.seq ≤ mark) && olderThan now days r.stamp.time

/-- Why a purge stopped (R161). -/
inductive PurgeStop where
  | none
  | noPage
  | failed (exported : Bool) (page seq : Nat)
  deriving DecidableEq, Repr

/-- Take up to `n` of the pages listed, oldest first (R161): how many were taken, the journal with them
ERASING, and why the purge stopped. -/
def Journal.purge (now : YardTime) : List Nat → Nat → Nat → Journal → Nat × Journal × PurgeStop
  | _, 0, taken, j => (taken, j, .none)
  | [], _ + 1, taken, j => (taken, j, .noPage)
  | i :: rest, n + 1, taken, j =>
    let recs := recordsOf (j.page i).used
    match recs.find? fun r => !purgeable now j.exported j.retain r with
    | some r => (taken, j, .failed (recs.all fun x => decide (x.seq ≤ j.exported)) i r.seq)
    | none => Journal.purge now rest n (taken + 1) (j.setPage i { j.page i with state := .erasing })

/-- The stop reason's word (R161). -/
def PurgeStop.word : PurgeStop → String
  | .none => "NONE"
  | .noPage => "NO_PAGE"
  | .failed true _ _ => "RETAINED"
  | .failed false _ _ => "NOT_EXPORTED"

/-- JOURNAL PURGE n (R161), judged in the order of its table. -/
def execJournalPurge (n : Option Int) (s : State) : Result State :=
  if !s.journal.purgeLatch then refuse .state s
  else
    match numIn 1 63 n with
    | none => refuse .param s
    | some k =>
      if s.journal.fault then refuse .state s
      else if s.journal.erasing then refuse .busy s
      else
        let r := Journal.purge s.clock.now s.journal.filledPages k 0 s.journal
        let s1 := s.modJournal fun _ => r.2.1
        let s2 :=
          match r.2.2 with
          | .failed x i q => offer .purgeStop .none [(PurgeStop.failed x i q).word, nat i, nat q] s1
          | .none | .noPage => s1
        answer (.ok [nat r.1, r.2.2.word]) s2

/-! ### Read-back (R150, R167, R168) -/

/-- The names of a settlement's flags that are set, in order (R145). -/
def SettleFlags.names (f : SettleFlags) : List String :=
  (if f.staged then ["STAGED"] else []) ++ (if f.presetTare then ["PRESET_TARE"] else [])
    ++ (if f.calChanged then ["CAL_CHANGED"] else []) ++ (if f.limit then ["LIMIT"] else [])
    ++ (if f.manual then ["MANUAL"] else []) ++ (if f.detached then ["DETACHED"] else [])
    ++ (if f.deckChange then ["DECK_CHANGE"] else [])

/-- The kind word of a record. -/
def Body.word : Body → String
  | .weigh .. => "WEIGH"
  | .stage .. => "STAGE"
  | .settle _ => "SETTLE"
  | .calib _ => "CALIB"
  | .clock _ => "CLOCK"

/-- Value and sequence. -/
def valueSeq (p : Int × Nat) : String := num p.1 ++ "/" ++ nat p.2

/-- The contents of a SETTLE record in reply order (R150). -/
def Settlement.fields (c : Settlement) : List String :=
  [nat c.visit, tagText c.tag, nat c.account, nat c.cls, settleKindWord c.kind, valueSeq c.first,
   dash valueSeq c.second, dash (fun t => nat t.1 ++ "/" ++ tareSourceWord t.2) c.tare, nat c.net,
   flowWord c.dir, nat c.charge, num c.balanceAfter, commas c.flags.names,
   dash (fun t => nat t.1 ++ "/" ++ nat t.2) c.tareUpdate]

/-- The contents of a record in reply order (R150); a CLOCK record's old date and time is its stamp's
(R166). -/
def Body.fields (t : YardTime) : Body → List String
  | .weigh v role tag n ss =>
    [num v, roleWord role, tagText tag, nat n, commas (ss.map nat)]
  | .stage v i tag n => [num v, nat i, tagText tag, nat n]
  | .settle c => c.fields
  | .calib c =>
    [(match c.cause with
      | .switch => "SWITCH"
      | .lock => "LOCK"),
     commas (c.names.a.map paramWord), commas (c.names.b.map paramWord)]
  | .clock new => [dateText t, timeText t, dateText new, timeText new]

/-- A record as the host reads it back (R150). -/
def Record.fields (r : Record) : List String :=
  [nat r.seq, r.body.word, dateText r.stamp.time, timeText r.stamp.time,
   dash deckName r.stamp.deck, nat r.stamp.count, if r.stamp.lock then "L" else "-"]
    ++ r.body.fields r.stamp.time

/-- JOURNAL? (R167). -/
def execJournalQuery (s : State) : Result State :=
  let j := s.journal
  answer (.ok [dash (fun r : Record => nat r.seq) j.held.head?, nat j.lastSeq, nat j.exported,
    nat j.erasedCount, j.word, yn j.erasing]) s

/-- JOURNAL PAGE p? (R167): an ERASING page shows no sequences. -/
def execJournalPageQuery (p : Option Int) (s : State) : Result State :=
  match numIn 0 63 p with
  | none => refuse .param s
  | some i =>
    let pg := s.journal.page i
    let recs := recordsOf pg.used
    let shown := if pg.state = .erasing then [] else recs
    answer (.ok [pageWord pg.state, nat recs.length, nat (pg.used.length - recs.length),
      dash (fun r : Record => nat r.seq) shown.head?,
      dash (fun r : Record => nat r.seq) shown.getLast?]) s

/-- JOURNAL READ s (R168). -/
def execJournalRead (q : Option Int) (s : State) : Result State :=
  match numIn 1 Config.lastSequence q with
  | none => refuse .param s
  | some n =>
    match s.journal.record? n with
    | none => refuse .notFound s
    | some r => answer (.ok r.fields) (s.modJournal fun j => { j with readPointer := n })

/-- The record of the least sequence among two. -/
def lesser (b : Option Record) (r : Record) : Option Record :=
  match b with
  | none => some r
  | some x => if r.seq < x.seq then some r else some x

/-- The held record of the least sequence above a pointer (R168). -/
def Journal.nextAbove (j : Journal) (p : Nat) : Option Record :=
  (j.held.filter fun r => decide (p < r.seq)).foldl lesser none

/-- JOURNAL NEXT? (R168). -/
def execJournalNextQuery (s : State) : Result State :=
  match s.journal.nextAbove s.journal.readPointer with
  | none => answer (.ok ["END"]) s
  | some r => answer (.ok r.fields) (s.modJournal fun j => { j with readPointer := r.seq })

/-! ### The yard clock's commands (R165, R166) -/

/-- CLOCK SET date time (R166), judged in the order of its table. -/
def execClockSet (p : Option ClockArgs) (s : State) : Result State :=
  match p.bind ClockArgs.moment? with
  | none => refuse .param s
  | some t =>
    if s.journal.fault then refuse .state s
    else if s.journal.full then refuse .full s
    else if s.journal.has .clock then refuse .busy s
    else answer (.ok ["SETTING"]) (journalRequest .clock none (.clock t) s)

/-- CLOCK? (R165). -/
def execClockQuery (s : State) : Result State :=
  answer (.ok ([dateText s.clock.now, timeText s.clock.now,
    if s.clock.valid then "VALID" else "INVALID"]
    ++ (if s.journal.has .clock then ["SETTING"] else []))) s

end Sys2Proof.Machine
end

