-- ==== Sys2Proof/Machine/Weighing.lean ====
section
/-! DEFINITION. Chapter 1, deck weighing: the acquisition unit's channels, the weight computation unit,
the zero, and the chapter's command lines. The slot end itself, which also hands the published set to
the capture logic and the arbiter, stands in Machine/Capture.lean. -/

namespace Sys2Proof.Machine

/-! ### The acquisition unit (R1 to R8) -/

/-- What a channel signals for its CELL source. -/
inductive Signal where
  | quiet | arises | ends
  deriving DecidableEq, Repr

/-- A detector's signal is handed to the fault table (R209). -/
def signal (f : FaultSource) : Signal → State → State
  | .quiet, s => s
  | .arises, s => condArises f s
  | .ends, s => condEnds f s

/-- A conversion result is saturated (R3). -/
def saturatedCount (n : Int) : Bool := decide (Config.saturation ≤ n.natAbs)

/-- A conversion result arrives for an enabled channel (R3). -/
def Channel.convert (c : Channel) (n : Int) : Channel × Signal :=
  let base := { c with count := n, age := 0, delivered := true, inSlot := true,
                       saturated := saturatedCount n }
  if saturatedCount n then
    ({ base with goodRun := 0, condition := true }, if c.condition then .quiet else .arises)
  else if c.condition then
    if c.goodRun + 1 = 16 then ({ base with goodRun := 0, condition := false }, .ends)
    else ({ base with goodRun := c.goodRun + 1 }, .quiet)
  else (base, .quiet)

/-- A channel's age at the end of its group's slot (R4). -/
def Channel.slotAge (c : Channel) : Channel × Signal :=
  if !c.inForce then (c, .quiet)
  else if c.inSlot then ({ c with inSlot := false }, .quiet)
  else
    let age := min 255 (c.age + 1)
    if c.condition then ({ c with age := age, goodRun := 0 }, .quiet)
    else if age = 4 then ({ c with age := age, goodRun := 0, condition := true }, .arises)
    else ({ c with age := age }, .quiet)

/-- The enabled setting takes effect at the slot end (R5). -/
def Channel.slotEnable (c : Channel) (enabled : Bool) : Channel × Signal :=
  if c.inForce = enabled then (c, .quiet)
  else
    ({ c with inForce := enabled, age := 0, delivered := false, inSlot := false, goodRun := 0,
              condition := false },
     if c.condition then .ends else .quiet)

/-- A condition still present after a DECK x RESET is signalled again (R8). -/
def Channel.slotResignal (c : Channel) : Channel × Signal :=
  ({ c with resignal := false }, if c.resignal && c.condition then .arises else .quiet)

/-- Put a channel of a deck. -/
def State.setChannel (s : State) (d : Deck) (ch : Chan) (c : Channel) : State :=
  s.modDeck d fun u => { u with channels := u.channels.set ch c }

/-- Change a channel by a function that may signal. -/
def channelStep (d : Deck) (ch : Chan) (f : Channel → Channel × Signal) (s : State) : State :=
  let r := f ((s.deck d).channels.get ch)
  signal (.cell d ch) r.2 (s.setChannel d ch r.1)

/-- CONVERSION_RESULT (R3): a disabled channel is not converted (R1), so a result for one does
nothing. -/
def execConversionResult (d : Deck) (ch : Chan) (n : Int) (s : State) : Result State :=
  if ((s.deck d).channels.get ch).inForce then
    .next (channelStep d ch Channel.slotResignal (channelStep d ch (·.convert n) s))
  else .next s

/-! ### The weight computation unit (R9 to R21) -/

/-- Append to a window that holds at most `n`, dropping the oldest (R12, R17). -/
def windowPush (n : Nat) (win : List Int) (v : Int) : List Int :=
  let w := win ++ [v]
  w.drop (w.length - n)

/-- A trimmed count (R10). -/
def trimmed (count : Int) (trim : Nat) : Int := rna (count * trim) Config.unityTrim

/-- The contribution of one channel to the sum (R10, R11). -/
def DeckUnit.contribution (u : DeckUnit) (ch : Chan) : Int :=
  let c := u.channels.get ch
  if c.inForce then trimmed c.count (u.params.trims.get ch) else 0

/-- The sum S of the enabled channels' trimmed counts (R11). -/
def DeckUnit.sum (u : DeckUnit) : Int := (Chan.all.map u.contribution).foldl (· + ·) 0

/-- The filtered sum A: the average of the sums held, rounded by RNA (R12). -/
def average (win : List Int) : Int := rna (win.foldl (· + ·) 0) win.length

/-- A filtered-sum difference in kilograms, RNA(x × K / 2^24) (R15, R20, R23). -/
def kilograms (x : Int) (k : Nat) : Int := rna (x * k) Config.spanUnit

/-- The weight W (R15). -/
def weightOf (a zero : Int) (k : Nat) : Int :=
  clampInt (-Config.weightLimit) Config.weightLimit (kilograms (a - zero) k)

/-- The display value D (R19). -/
def displayOf (e : Nat) (w : Int) : Int := e * rna w e

/-- The mark INVALID of a completed set (R7). -/
def DeckUnit.setInvalid (u : DeckUnit) : Bool :=
  u.channels.toList.any fun c => c.inForce && (c.saturated || c.absent)

/-- The set completes (R6): every enabled channel has delivered or is absent. -/
def DeckUnit.setComplete (u : DeckUnit) : Bool :=
  u.channels.toList.all fun c => !c.inForce || c.delivered || c.absent

/-- The windows and the published status of a completed set (R9 to R19). -/
def DeckUnit.publish (u : DeckUnit) : Wcu :=
  let p := u.params
  let w := u.wcu
  let win := windowPush w.filterLen w.filterWin u.sum
  let a := average win
  let wt := weightOf a w.zero p.span
  let stab := windowPush w.stabLen w.stabWin wt
  { w with
    filterWin := win
    stabWin := stab
    latest := some
      { sum := u.sum, a := a, w := wt, disp := displayOf p.interval wt, invalid := u.setInvalid,
        overload := overFlag p.max p.interval wt, underload := underFlag p.interval wt,
        occupied := occupiedFlag p.interval wt, empty := emptyFlag p.interval wt,
        stable := stableFlag w.stabLen w.band p.interval stab } }

/-- The zero range test of R20: |RNA((A − Z0) × K / 2^24)| ≤ 0.02 × Max, compared exactly. -/
def zeroInRange (p : Params) (a : Int) : Bool :=
  decide (50 * (kilograms (a - p.z0) p.span).natAbs ≤ p.max)

/-- Zero tracking is taken on a published set (R21). -/
def tracks (switchOn : Bool) (u : DeckUnit) (p : Published) : Bool :=
  u.wcu.track && !p.invalid && p.stable && u.seq.state == .idle && !switchOn
    && decide (2 * p.w.natAbs ≤ u.params.interval) && zeroInRange u.params p.a

/-- Zero tracking sets Z to the set's A (R21). -/
def zeroTrack (d : Deck) (s : State) : State :=
  match (s.deck d).wcu.latest with
  | none => s
  | some p =>
    if tracks s.metro.switchOn (s.deck d) p then s.modWcu d fun w => { w with zero := p.a } else s

/-- A WCU's stability window emptied (R17, R18, R23, R49 to R51): STABLE reads clear until the window holds
M weights again, by R17's own test (log entry 29). -/
def Wcu.unsettle (w : Wcu) : Wcu :=
  { w with stabWin := [], latest := w.latest.map fun p => { p with stable := false } }

/-- A WCU's windows after a restart (R13). -/
def Wcu.restart (w : Wcu) : Wcu := { w with filterWin := [], stabWin := [], latest := none }

/-- A capture logic that has evaluated a set finds NOSET until the next one (R41, log entry 10). NEXT stands
until the next publication (R42). -/
def Capture.noset (c : Capture) : Capture :=
  if c.state = .waiting ∧ c.orphan = false ∧ c.grantDue = none ∧ c.blocking ≠ some .next then
    { c with blocking := some .noset }
  else c

/-- A restart of a deck's windows (R13). -/
def restartWindows (d : Deck) (s : State) : State :=
  (s.modWcu d Wcu.restart).modCapture d Capture.noset

/-- Both decks' windows restart (R13). -/
def restartBoth (s : State) : State := restartWindows .b (restartWindows .a s)

/-- The channels' part of a slot end: ages, then enabled settings, then conditions to signal again. A
change of an enabled setting restarts the deck's windows (R4, R5, R8). -/
def slotChannel (d : Deck) (s : State) (ch : Chan) : State :=
  let enabled := (s.deck d).params.cells.get ch
  let was := ((s.deck d).channels.get ch).inForce
  let s1 := channelStep d ch (fun c => c.slotEnable enabled) (channelStep d ch Channel.slotAge s)
  let s2 := if was = enabled then s1 else restartWindows d s1
  channelStep d ch Channel.slotResignal s2

/-- The CAU's part of a slot end. -/
def slotChannels (d : Deck) (s : State) : State := Chan.all.foldl (slotChannel d) s

/-- The delivered marks of a deck's channels are cleared at the completion of its set (R6). -/
def DeckUnit.clearDelivered (u : DeckUnit) : DeckUnit :=
  let c := u.channels
  { u with channels := ⟨{ c.c1 with delivered := false }, { c.c2 with delivered := false },
                        { c.c3 with delivered := false }, { c.c4 with delivered := false }⟩ }

/-! ### The chapter's command lines -/

/-- A channel's age set to 0 (R2). -/
def Channel.ageZero (c : Channel) : Channel := { c with age := 0 }

/-- Every channel's age set to 0 (R2). -/
def agesZero (d : Deck) (s : State) : State :=
  s.modDeck d fun u =>
    { u with channels := ⟨u.channels.c1.ageZero, u.channels.c2.ageZero, u.channels.c3.ageZero,
                          u.channels.c4.ageZero⟩ }

/-- PART SCAN r (R2). -/
def execPartScan (rate : Option SetArg) (s : State) : Result State :=
  laneWrite s <|
    match rate with
    | none => refuse .param s
    | some v =>
      let r := v.stepped scanRates 10 80 20
      let s1 :=
        if r = s.part.scanRate then s
        else agesZero .b (agesZero .a (restartBoth { s with part := { s.part with scanRate := r } }))
      answer (settingReply (v.steppedDiffers scanRates 10) [r]) s1

/-- PART SCAN? (R2). -/
def execPartScanQuery (s : State) : Result State := answer (.ok [nat s.part.scanRate]) s

/-- DECK x FILTER n (R14). -/
def execDeckFilter (d : Deck) (n : Option SetArg) (s : State) : Result State :=
  laneWrite s <|
    match n with
    | none => refuse .param s
    | some v =>
      let r := v.stepped filterLengths 1 32 8
      let s1 :=
        if r = (s.deck d).wcu.filterLen then s
        else restartWindows d (s.modWcu d fun w => { w with filterLen := r })
      answer (settingReply (v.steppedDiffers filterLengths 1) [r]) s1

/-- DECK x FILTER? (R14). -/
def execDeckFilterQuery (d : Deck) (s : State) : Result State :=
  answer (.ok [nat (s.deck d).wcu.filterLen]) s

/-- DECK x STABILITY m band (R18). -/
def execDeckStability (d : Deck) (mb : Option (SetArg × SetArg)) (s : State) : Result State :=
  laneWrite s <|
    match mb with
    | none => refuse .param s
    | some (m, b) =>
      let mv := m.value 2 64 8
      let bv := b.value 1 5 1
      let w := (s.deck d).wcu
      let s1 :=
        if mv = w.stabLen ∧ bv = w.band then s
        else s.modWcu d fun w => { w.unsettle with stabLen := mv, band := bv }
      answer (settingReply (m.clamped 2 64 || b.clamped 1 5) [mv, bv]) s1

/-- DECK x STABILITY? (R18). -/
def execDeckStabilityQuery (d : Deck) (s : State) : Result State :=
  answer (.ok [nat (s.deck d).wcu.stabLen, nat (s.deck d).wcu.band]) s

/-- DECK x TRACK (R22). -/
def execDeckTrack (d : Deck) (on : Option Bool) (s : State) : Result State :=
  laneWrite s (writeWord on (fun v s => s.modWcu d fun w => { w with track := v }) s)

/-- DECK x TRACK? (R22). -/
def execDeckTrackQuery (d : Deck) (s : State) : Result State :=
  answer (.ok [if (s.deck d).wcu.track then "ON" else "OFF"]) s

/-- A published status on which a zero or a span may be taken (R23, R49, R50): valid and STABLE. -/
def DeckUnit.settled (u : DeckUnit) : Option Published :=
  match u.wcu.latest with
  | some p => if !p.invalid && p.stable then some p else none
  | none => none

/-- The zero offset in kilograms (R23, R57). -/
def DeckUnit.zeroOffset (u : DeckUnit) : Int := kilograms (u.wcu.zero - u.params.z0) u.params.span

/-- DECK x ZERO (R23), judged in the order of its table. -/
def execDeckZero (d : Deck) (s : State) : Result State :=
  if s.metro.switchOn then refuse .state s
  else if (s.deck d).seq.state ≠ .idle then refuse .busy s
  else
    match (s.deck d).settled with
    | none => answer (.er .refused ["UNSTABLE"]) s
    | some p =>
      if zeroInRange (s.deck d).params p.a then
        let s1 := s.modWcu d fun w => { w.unsettle with zero := p.a }
        answer (.ok [num (s1.deck d).zeroOffset]) s1
      else answer (.er .refused ["RANGE"]) s

/-- The value field of DECK x WEIGHT? (R24). -/
def DeckUnit.valueField (u : DeckUnit) : String :=
  match u.wcu.latest with
  | none => "NONE"
  | some p => if p.overload then "OVER" else if p.underload then "UNDER" else num p.disp

/-- The flag fields of DECK x WEIGHT? (R24); all read clear while the deck has no weight (R13). -/
def flagFields (u : DeckUnit) (oos : Bool) : List String :=
  (match u.wcu.latest with
    | none => []
    | some p =>
      (if p.stable then ["STABLE"] else []) ++ (if p.occupied then ["OCCUPIED"] else [])
        ++ (if p.empty then ["EMPTY"] else []) ++ (if p.invalid then ["INVALID"] else []))
    ++ (if oos then ["OOS"] else [])

/-- DECK x WEIGHT? (R24). -/
def execDeckWeightQuery (d : Deck) (s : State) : Result State :=
  answer (.ok ((s.deck d).valueField :: flagFields (s.deck d) (s.oos d))) s

/-- One channel group of DECK x CELLS? (R25). -/
def channelGroup (n : Nat) (c : Channel) : List String :=
  [nat n, yn c.inForce, num c.count, nat c.age]
    ++ match c.word with
      | .off => ["OFF"]
      | .absent => ["ABSENT"]
      | .sat => ["SAT"]
      | .recov => ["RECOV", nat c.goodRun]
      | .good => ["GOOD"]

/-- DECK x CELLS? (R25). -/
def execDeckCellsQuery (d : Deck) (s : State) : Result State :=
  let u := s.deck d
  answer (.ok (Chan.all.flatMap (fun ch => channelGroup ch.num (u.channels.get ch))
    ++ match u.wcu.latest with
      | some p => [num p.sum, num p.a]
      | none => ["NONE", "NONE"])) s

end Sys2Proof.Machine
end

