-- ==== Sys2Proof/Machine/Drivers.lean ====
section
/-! DEFINITION. Chapter 4, the barrier drivers: driving, the interlock with the other barrier, the
interlock with the safety loop, confirmed feedback, faults and their recovery. What the deck sequencer
does with a barrier that reaches DOWN stands in Machine/Sequencer.lean. -/

namespace Sys2Proof.Machine

/-- The outputs of a drive up (R64). -/
def Driver.outputsUp (b : Driver) : Driver :=
  match b.mode with
  | .pulse => { b with raiseOut := true, lowerOut := false, pulsing := true, commanded := .up }
  | .hold | .confirmed =>
    { b with raiseOut := true, lowerOut := false, pulsing := false, commanded := .up }

/-- The outputs of a drive down (R64). -/
def Driver.outputsDown (b : Driver) : Driver :=
  match b.mode with
  | .pulse => { b with raiseOut := false, lowerOut := true, pulsing := true, commanded := .down }
  | .hold | .confirmed =>
    { b with raiseOut := false, lowerOut := false, pulsing := false, commanded := .down }

/-- Drive up: RAISING, with the travel timer started (R64). -/
def Driver.driveUp (b : Driver) : Driver :=
  { b.outputsUp with state := .raising, travel := .running b.travelTime }

/-- Drive down: LOWERING, with the travel timer started (R64). -/
def Driver.driveDown (b : Driver) : Driver :=
  { b.outputsDown with state := .lowering, travel := .running b.travelTime }

/-- The BAR condition is signalled when it begins or ends (R73): it is present while a CONFIRMED driver
in FAULT has feedback that disagrees with its commanded position. -/
def barrierCondition (e : EndId) (s : State) : State :=
  let t := s.station e
  let present := decide (t.driver.state = .fault ∧ t.driver.mode = .confirmed) && !t.agrees
  if t.driver.condition = present then s
  else
    signal (.bar e) (if present then .arises else .ends)
      (s.modDriver e fun b => { b with condition := present })

/-- In FAULT over an occupied safety loop, a driver commanded DOWN drives up without leaving FAULT, and
its condition is judged by the new commanded position (R73). -/
def faultSafety (e : EndId) (s : State) : State :=
  let b := s.driver e
  if b.state = .fault ∧ b.commanded = .down ∧ s.safetyOcc e = true then
    barrierCondition e (s.modDriver e Driver.outputsUp)
  else s

/-- A CONFIRMED driver enters FAULT (R73). -/
def enterBarrierFault (e : EndId) (c : BarrierCause) (s : State) : State :=
  let s1 := s.modDriver e fun b =>
    { b with state := .fault, cause := c, travel := .stopped, condition := true,
             pending := if b.pending = .lower then .none else b.pending }
  faultSafety e (condArises (.bar e) s1)

/-- What the feedback of a driver calls for at once (R68, R69): the end of a travel, or a fault. -/
inductive Watch where
  | fine
  | arrived (st : BarrierState)
  | fault (c : BarrierCause)
  deriving DecidableEq, Repr

/-- The watch on a CONFIRMED driver's feedback (R68, R69). -/
def Station.watch (t : Station) : Watch :=
  if t.driver.mode ≠ .confirmed then .fine
  else
    match t.driver.state with
    | .fault => .fine
    | .down =>
      if t.lines.up && t.lines.down then .fault .both
      else if t.lines.down then .fine else .fault .left
    | .up =>
      if t.lines.up && t.lines.down then .fault .both
      else if t.lines.up then .fine else .fault .left
    | .raising =>
      if t.lines.up && t.lines.down then .fault .both
      else if t.lines.up then .arrived .up else .fine
    | .lowering =>
      if t.lines.up && t.lines.down then .fault .both
      else if t.lines.down then .arrived .down else .fine

/-- Carry out what the feedback calls for. -/
def watchFeedback (e : EndId) (s : State) : State :=
  match (s.station e).watch with
  | .fine => s
  | .arrived st => s.modDriver e fun b => { b with state := st, travel := .stopped }
  | .fault c => enterBarrierFault e c s

/-- Drive a barrier up; an input already at position ends the travel at once (R64, R68). -/
def startUp (e : EndId) (s : State) : State := watchFeedback e (s.modDriver e Driver.driveUp)

/-- Drive a barrier down; an input already at position ends the travel at once (R64, R68). -/
def startDown (e : EndId) (s : State) : State := watchFeedback e (s.modDriver e Driver.driveDown)

/-- Put a driver's pending request. -/
def setPending (e : EndId) (p : PendingMove) (s : State) : State :=
  s.modDriver e fun b => { b with pending := p }

/-- A raise the interlock permits is executed (R65). -/
def raiseExecuted (e : EndId) (s : State) : State :=
  match (s.driver e).state with
  | .down | .lowering => startUp e (setPending e .none s)
  | .raising | .up | .fault => setPending e .none s

/-- The interlock of R65: a raise may be executed only if the other barrier of the deck is DOWN. -/
def State.mayRaise (s : State) (e : EndId) : Bool :=
  s.barrierDown e.other && (s.driver e).state != .fault

/-- A raise request of the deck sequencer (R65): executed, or kept as the pending RAISE. -/
def raiseRequest (e : EndId) (s : State) : State :=
  if s.mayRaise e then raiseExecuted e s else setPending e .raise s

/-- A lower request (R66): it clears a pending RAISE and is judged against the safety loop. -/
def lowerRequest (e : EndId) (s : State) : State :=
  let s1 := if (s.driver e).pending = .raise then setPending e .none s else s
  match (s.driver e).state with
  | .raising | .up =>
    if s.safetyOcc e then setPending e .lower s1 else startDown e (setPending e .none s1)
  | .down | .lowering | .fault => s1

/-- The safety reading becomes occupied at the driver (R70, R73): a lowering barrier is driven up and
its lower becomes pending. -/
def driverSafetyOccupied (e : EndId) (s : State) : State :=
  match (s.driver e).state with
  | .lowering => startUp e (setPending e .lower s)
  | .fault => faultSafety e s
  | .down | .raising | .up => s

/-- The recovery lower when a BAR entry is made CLEAR (R74). -/
def recoveryLower (e : EndId) (s : State) : State :=
  if (s.driver e).state ≠ .fault then s
  else
    let s1 := s.modDriver e fun b => { b with cause := .none, condition := false }
    let b := s.driver e
    if b.mode = .confirmed ∧ b.commanded = .down then
      s1.modDriver e fun b => { b with state := .down, travel := .stopped }
    else if s.safetyOcc e then
      s1.modDriver e fun b => { b with state := .up, pending := .lower, travel := .stopped }
    else startDown e s1

/-- A driver with its outputs inactive, nothing pending, no cause and both timers stopped (R80). -/
def Driver.rested (b : Driver) : Driver :=
  { b with pending := .none, cause := .none, condition := false, travel := .stopped,
           pulsing := false, raiseOut := false, lowerOut := false }

/-- The start of a driver at power-on and RESET ALL (R80). -/
def startDriver (e : EndId) (s : State) : State :=
  let s1 := s.modDriver e Driver.rested
  let t := s1.station e
  if t.driver.mode = .confirmed ∧ t.lines.down = true ∧ t.lines.up = false then
    s1.modDriver e fun b => { b with state := .down, commanded := .down }
  else if s1.safetyOcc e = false then startDown e s1
  else if t.driver.mode = .pulse then
    s1.modDriver e fun b => { b with state := .up, commanded := .up, pending := .lower }
  else startUp e (setPending e .lower s1)

/-- DECK x RESET at a driver, by its state before the reset (R81). -/
def resetDriver (e : EndId) (s : State) : State :=
  match (s.driver e).state with
  | .down => setPending e .none s
  | .raising | .up =>
    if s.safetyOcc e then setPending e .lower s else startDown e (setPending e .none s)
  | .lowering =>
    if s.safetyOcc e then startUp e (setPending e .lower s) else startDown e (setPending e .none s)
  | .fault => startDriver e s

end Sys2Proof.Machine
end

