-- ==== Sys2Proof/Machine/Yard.lean ====
section
/-! DEFINITION. Chapter 7: the visit, tare, account and tariff tables, the settlement computation and
its application, and the chapter's command lines. -/

namespace Sys2Proof.Machine

/-! ### Opening and testing visits (R125, R128) -/

/-- The first number, from `n` on, that no visit carries (R125). -/
def freeNumber (table : List Visit) : Nat → Nat → Nat
  | 0, n => n
  | fuel + 1, n =>
    if table.any (·.number == n) then freeNumber table fuel (wrapNext 999999 n) else n

/-- The number the next visit takes (R125). -/
def Visits.assign (v : Visits) : Nat := freeNumber v.table v.table.length v.next

/-- Open a visit for an end (R125): state ADMITTED, holder the end, no first weighing, overstay N. -/
def openVisit (e : EndId) (tag : Tag) (ad : Admission) (kind : VisitKind) (note : VisitNote)
    (tare : Option TareUsed) (s : State) : State :=
  let n := s.visits.assign
  s.modVisits fun v =>
    { v with
      table := v.table ++
        [{ number := n, tag := tag, account := ad.account, cls := ad.cls, kind := kind,
           state := .admitted, holder := .atEnd e, opened := s.clock.now, manual := ad.manual,
           note := note, first := none, tare := tare, overstay := false }]
      next := wrapNext 999999 n }

/-- A visit overstays (R128). -/
def Visit.overstays (now : YardTime) (hours : Nat) (v : Visit) : Bool :=
  !v.overstay && decide (v.opened + hours * 3600 ≤ now)

/-- The overstay test of every visit (R128): each one found is flagged and reported. DESIGN CHOICE: the
reports of one test stand in the order the visits were opened (log entry 36). -/
def overstayTest (s : State) : State :=
  let due := Visit.overstays s.clock.now s.visits.overstay
  let found := s.visits.table.filter due
  let s1 := s.modVisits fun v =>
    { v with table := v.table.map fun x => if due x then { x with overstay := true } else x }
  found.foldl
    (fun s v => offer .overstay .none [nat v.number, tagText v.tag, visitStateWord v.state] s) s1

/-! ### Storing tares (R130) -/

/-- The lowest free index of the tare table. -/
def freeTare (t : List (Option TareEntry)) : Option Nat := t.findIdx? (·.isNone)

/-- The entry with the oldest date stored, the lowest index deciding among equal dates. -/
def oldestTare (t : List (Option TareEntry)) : Option (Nat × TareEntry) :=
  let rec go : Nat → List (Option TareEntry) → Option (Nat × TareEntry) → Option (Nat × TareEntry)
    | _, [], best => best
    | i, none :: rest, best => go (i + 1) rest best
    | i, some en :: rest, none => go (i + 1) rest (some (i, en))
    | i, some en :: rest, some b =>
      go (i + 1) rest (if en.stored < b.2.stored then some (i, en) else some b)
  go 0 t none

/-- Where a tag's tare is stored, and the entry it replaces (R130). -/
def Tares.place (t : Tares) (own : Option Nat) : Nat × Option TareEntry :=
  match own with
  | some i => (i, none)
  | none =>
    match freeTare t.table with
    | some i => (i, none)
    | none =>
      match oldestTare t.table with
      | some (i, en) => (i, some en)
      | none => (0, none)

/-- Store a tag's tare under R130: the index used, the tag replaced, and the state after. -/
def storeTare (tag : Tag) (kg : Nat) (src : TareSource) (count : Nat) (s : State) :
    Nat × Option Tag × State :=
  let at_ := s.tares.place ((s.tareOf? tag).map (·.1))
  let entry : TareEntry :=
    { tag := tag, value := kg, stored := s.clock.now, source := src, count := count }
  let s1 := { s with tares := { s.tares with table := s.tares.table.set at_.1 (some entry) } }
  match at_.2 with
  | none => (at_.1, none, s1)
  | some old =>
    (at_.1, some old.tag, offer .tareReplaced .none [tagText old.tag, tagText tag] s1)

/-! ### Settlement (R140 to R146) -/

/-- The charge of a settlement by weighing (R143). -/
def chargeOf (minimum net rate : Nat) : Nat := max minimum (rnu (net * rate) 1000)

/-- The direction of a two-pass settlement (R141). -/
def flowOf (f g : Int) : FlowDir := if g < f then .inward else if f < g then .outward else .none

/-- The rate a direction uses (R141); NONE contributes 0 (R143). -/
def WasteClass.rate (c : WasteClass) : FlowDir → Nat
  | .inward => c.inRate
  | .outward => c.outRate
  | .none => 0

/-- A balance stops at −999,999,999 (R144, R146). -/
def floorBalance (b : Int) : Int := max (-Config.balanceLimit) b

/-- The balance after a settlement's charge (R144). -/
def Account.after (a : Account) (charge : Nat) : Int :=
  floorBalance (a.balance - a.pendingCharge - charge)

/-- The account a settlement is charged to. ACCOUNT DELETE (R135) refuses the account of a visit, but not
that of an admission held without one, so that a visit may open on an account no longer there (R91). DESIGN
CHOICE: its balance and limit are free values within their ranges, nothing of it is pending, and nothing is
debited (log entry 47). -/
def State.accountOr (s : State) (n : Nat) : Account :=
  (s.account? n).getD
    { number := n
      balance := clampInt (-Config.balanceLimit) Config.balanceLimit (Config.missingBalance n)
      limit := min 999999999 (Config.missingLimit n)
      status := .closed, classes := [], pendingCharge := 0 }

/-- The settlement of a SECOND transaction (R140, R141, R143 to R145): `f` and `g` are the first and
second weighings. -/
def settleTwoPass (s : State) (v : Visit) (f g : Committed) : Settlement :=
  let c := s.cls v.cls
  let a := s.accountOr v.account
  let net := (f.value - g.value).natAbs
  let dir := flowOf f.value g.value
  let charge := chargeOf c.minimum net (c.rate dir)
  let after := a.after charge
  { visit := v.number, tag := v.tag, account := v.account, cls := v.cls, kind := .twoPass,
    first := (f.value, f.seq), second := some (g.value, g.seq), tare := none, net := net, dir := dir,
    charge := charge, balanceAfter := after,
    flags :=
      { staged := f.staged || g.staged, presetTare := false, calChanged := f.count != g.count,
        limit := decide (after < -(a.limit : Int)), manual := v.manual,
        detached := !s.link.attended, deckChange := f.deck != g.deck }
    tareUpdate := if c.updateTare ∧ g.value < f.value then some (g.value.toNat, g.count) else none }

/-- The settlement of a ONE_PASS transaction (R140, R142 to R145). -/
def settleOnePass (s : State) (v : Visit) (t : TareUsed) (g : Committed) : Settlement :=
  let c := s.cls v.cls
  let a := s.accountOr v.account
  let net := (g.value - t.value).toNat
  let charge := chargeOf c.minimum net c.inRate
  let after := a.after charge
  { visit := v.number, tag := v.tag, account := v.account, cls := v.cls, kind := .onePass,
    first := (g.value, g.seq), second := none, tare := some (t.value, t.source), net := net,
    dir := .inward, charge := charge, balanceAfter := after,
    flags :=
      { staged := g.staged, presetTare := t.source == .preset, calChanged := t.count != g.count,
        limit := decide (after < -(a.limit : Int)), manual := v.manual,
        detached := !s.link.attended, deckChange := false }
    tareUpdate := none }

/-- The ABANDONED settlement of a closed visit (R140, R144, R145). -/
def settleAbandoned (s : State) (v : Visit) (f : Committed) : Settlement :=
  let a := s.accountOr v.account
  { visit := v.number, tag := v.tag, account := v.account, cls := v.cls, kind := .abandoned,
    first := (f.value, f.seq), second := none, tare := none, net := 0, dir := .none, charge := 0,
    balanceAfter := a.after 0,
    flags :=
      { staged := f.staged, presetTare := false, calChanged := false, limit := false,
        manual := v.manual, detached := false, deckChange := false }
    tareUpdate := none }

/-- At the request of a settlement by weighing the account's pending charge rises (R140). -/
def raisePending (c : Settlement) (s : State) : State :=
  s.modAccount c.account fun a => { a with pendingCharge := a.pendingCharge + c.charge }

/-- An account after a settlement's debit (R146). -/
def Account.debit (a : Account) (c : Settlement) : Account :=
  { a with
    balance := floorBalance (a.balance - c.charge)
    pendingCharge := a.pendingCharge - c.charge
    status := if c.flags.limit ∧ a.status = .open then .stoppedLimit else a.status }

/-- The account debit of a settlement's completion (R146), of nothing where the account is gone (log entry
47): an OPEN account whose record carries LIMIT
is stopped, and ACCOUNT_STOPPED reported. -/
def debitAccount (c : Settlement) (s : State) : State :=
  match s.account? c.account with
  | none => s
  | some a =>
    let s1 := s.modAccount c.account fun x => x.debit c
    if c.flags.limit ∧ a.status = .open then
      offer .accountStopped .none [nat a.number, num (a.debit c).balance, nat a.limit] s1
    else s1

/-- The tare update of a settlement's completion (R146). -/
def updateTare (c : Settlement) (s : State) : State :=
  match c.tareUpdate with
  | none => s
  | some (kg, count) => (storeTare c.tag kg .weighed count s).2.2

/-- The parameters of a SETTLED report (R145). -/
def settledParams (q : Nat) (c : Settlement) : List String :=
  [nat c.visit, settleKindWord c.kind, nat q, nat c.net, flowWord c.dir, nat c.charge,
   commas c.flags.names]

/-- The one-pass test (R142): the gross is at least the tare plus 20e. -/
def onePassHolds (gross : Int) (tare e : Nat) : Bool := decide ((tare + 20 * e : Nat) ≤ gross)

/-- A ONE_PASS visit that fails the test is converted (R142). -/
def Visit.convert (v : Visit) (w : Committed) : Visit :=
  { v with kind := .twoPass, tare := none, first := some w, state := .onSite, holder := .none,
           note := .tareConflict }

/-- A weighing is committed to a visit (R114, R126). -/
def Visit.commit (v : Visit) (w : Committed) : Visit :=
  { v with first := some w, state := .onSite, holder := .none }

/-! ### Visits: the command lines (R128, R132, R134) -/

/-- VISIT OVERSTAY h (R128): the visits are tested at once. -/
def execVisitOverstay (h : Option SetArg) (s : State) : Result State :=
  writeSetting 1 24 12 h
    (fun v s => overstayTest (s.modVisits fun t => { t with overstay := v })) s

/-- VISIT OVERSTAY? (R128). -/
def execVisitOverstayQuery (s : State) : Result State := answer (.ok [nat s.visits.overstay]) s

/-- VISIT CLOSE n (R132), judged in the order of its table. -/
def execVisitClose (n : Option Int) (s : State) : Result State :=
  match numIn 1 999999 n with
  | none => refuse .param s
  | some k =>
    match s.visit? k with
    | none => refuse .notFound s
    | some v =>
      if v.holder ≠ .none then refuse .busy s
      else if v.state ≠ .onSite ∧ v.state ≠ .settled then refuse .busy s
      else if s.link.closing.isSome || s.journal.has .link then refuse .busy s
      else if v.state = .settled then answer (.ok ["CLOSED"]) (s.removeVisit k)
      else if s.journal.fault then refuse .state s
      else if s.journal.full then refuse .full s
      else if !s.outcomeRoom then refuse .full s
      else
        match v.first with
        | none => refuse .busy s
        | some f =>
          let c := settleAbandoned s v f
          let s1 := s.modVisit k fun x => { x with state := .leaving, holder := .link }
          answer (.ok ["CLOSING"])
            (journalRequest .link none (.settle c) (s1.modLink fun l => { l with closing := some k }))

/-- A first weighing in a reply (R134). -/
def committedText (w : Committed) : String :=
  num w.value ++ "/" ++ nat w.seq ++ "/" ++ deckName w.deck ++ "/" ++ nat w.count ++ "/" ++ yn w.staged

/-- A tare used in a reply (R134). -/
def tareText (t : TareUsed) : String :=
  nat t.value ++ "/" ++ tareSourceWord t.source ++ "/" ++ nat t.count

/-- A visit's fields (R134). -/
def Visit.fields (v : Visit) : List String :=
  [nat v.number, tagText v.tag, nat v.account, nat v.cls, kindWord v.kind, visitStateWord v.state,
   holderWord v.holder, dateText v.opened, timeText v.opened, yn v.manual, noteWord v.note,
   dash committedText v.first, dash tareText v.tare, yn v.overstay]

/-- VISIT n? (R134). -/
def execVisitQuery (n : Int) (s : State) : Result State :=
  match inRange 1 999999 n with
  | none => refuse .param s
  | some k =>
    match s.visit? k with
    | none => refuse .notFound s
    | some v => answer (.ok v.fields) s

/-- VISIT FIND? tag (R134). -/
def execVisitFindQuery (tag : Option Tag) (s : State) : Result State :=
  match tag with
  | none => refuse .param s
  | some t =>
    match s.visitOf? t with
    | none => refuse .notFound s
    | some v => answer (.ok v.fields) s

/-- The visit of the lesser number among two. -/
def lesserVisit (b : Option Visit) (v : Visit) : Option Visit :=
  match b with
  | none => some v
  | some x => if v.number < x.number then some v else some x

/-- VISIT NEXT? n (R134). -/
def execVisitNextQuery (n : Option Int) (s : State) : Result State :=
  match numIn 0 999999 n with
  | none => refuse .param s
  | some k =>
    match (s.visits.table.filter fun v => decide (k < v.number)).foldl lesserVisit none with
    | none => answer (.ok ["END"]) s
    | some v => answer (.ok v.fields) s

/-- VISIT COUNT? (R134). -/
def execVisitCountQuery (s : State) : Result State :=
  answer (.ok [nat s.visits.table.length, nat s.visits.next]) s

/-! ### Tares: the command lines (R131) -/

/-- TARE SET tag kg (R131). -/
def execTareSet (p : Option (Tag × Int)) (s : State) : Result State :=
  match p with
  | none => refuse .param s
  | some (tag, kg) =>
    match inRange 1 450000 kg with
    | none => refuse .param s
    | some v =>
      let r := storeTare tag v .preset s.metro.count s
      answer (.ok (nat r.1 :: match r.2.1 with
        | none => []
        | some old => ["REPLACED", tagText old])) r.2.2

/-- TARE CLEAR tag (R131). -/
def execTareClear (tag : Option Tag) (s : State) : Result State :=
  match tag with
  | none => refuse .param s
  | some t =>
    match s.tareOf? t with
    | none => refuse .notFound s
    | some (i, _) =>
      answer (.ok []) { s with tares := { s.tares with table := s.tares.table.set i none } }

/-- The fields of a tare entry (R131). -/
def tareFields (s : State) (i : Nat) (en : TareEntry) : List String :=
  [nat i, nat en.value, dateText en.stored, timeText en.stored, tareSourceWord en.source,
   nat en.count, if s.tareValid en then "VALID" else "EXPIRED"]

/-- TARE FIND? tag (R131). -/
def execTareFindQuery (tag : Option Tag) (s : State) : Result State :=
  match tag with
  | none => refuse .param s
  | some t =>
    match s.tareOf? t with
    | none => refuse .notFound s
    | some (i, en) => answer (.ok (tareFields s i en)) s

/-- TARE i? (R131). -/
def execTareIndexQuery (i : Int) (s : State) : Result State :=
  match inRange 0 255 i with
  | none => refuse .param s
  | some k =>
    match s.tares.table.getD k none with
    | none => answer (.ok ["FREE"]) s
    | some en => answer (.ok (tareFields s k en)) s

/-- TARE COUNT? (R131). -/
def execTareCountQuery (s : State) : Result State :=
  answer (.ok [nat (s.tares.table.countP (·.isSome))]) s

/-- TARE EXPIRY d (R131). -/
def execTareExpiry (days : Option SetArg) (s : State) : Result State :=
  writeSetting 1 365 90 days (fun v s => { s with tares := { s.tares with expiry := v } }) s

/-- TARE EXPIRY? (R131). -/
def execTareExpiryQuery (s : State) : Result State := answer (.ok [nat s.tares.expiry]) s

/-! ### Accounts: the command lines (R135 to R138) -/

/-- A list of classes, each 0 to 15 and none listed twice (R135, R137). -/
def classList (cs : List Int) : Option (List Nat) :=
  if cs.all (fun c => decide (0 ≤ c ∧ c ≤ 15)) && decide cs.Nodup then some (cs.map Int.toNat) else none

/-- ACCOUNT n ADD limit [class …] (R135), judged in the order of its table. -/
def execAccountAdd (n : Int) (p : Option (Int × List Int)) (s : State) : Result State :=
  match inRange 1 999999 n, numIn 0 999999999 (p.map (·.1)), p.bind fun x => classList x.2 with
  | some k, some limit, some cs =>
    if (s.account? k).isSome then refuse .state s
    else if s.accounts.length < Config.accountCapacity then
      answer (.ok []) { s with accounts := s.accounts ++
        [{ number := k, balance := 0, limit := limit, status := .open, classes := cs,
           pendingCharge := 0 }] }
    else refuse .full s
  | _, _, _ => refuse .param s

/-- ACCOUNT n DELETE (R135). -/
def execAccountDelete (n : Int) (s : State) : Result State :=
  match inRange 1 999999 n with
  | none => refuse .param s
  | some k =>
    match s.account? k with
    | none => refuse .notFound s
    | some a =>
      if s.visits.table.any (·.account == k) || a.pendingCharge != 0 then refuse .busy s
      else answer (.ok []) { s with accounts := s.accounts.filter fun x => x.number != k }

/-- A status stopped by LIMIT becomes OPEN when the balance is at or above minus the limit (R136,
R137). -/
def Account.reopened (a : Account) : Account :=
  if a.status = .stoppedLimit ∧ -(a.limit : Int) ≤ a.balance then { a with status := .open } else a

/-- An account after a credit (R136). -/
def Account.credit (a : Account) (amount : Nat) : Account :=
  { a with balance := min Config.balanceLimit (a.balance + amount) : Account }.reopened

/-- An account after its limit is written (R137). -/
def Account.setLimit (a : Account) (limit : Nat) : Account :=
  let b := { a with limit := limit }
  if b.status = .open ∧ b.balance < -(limit : Int) then { b with status := .stoppedLimit }
  else b.reopened

/-- A write to an account that must exist and have no pending charge (R136, R137): the index, then the
parameter, then the conditions. -/
def accountWrite {α : Type} (n : Int) (p : Option α) (s : State) (k : Account → α → Result State) :
    Result State :=
  match inRange 1 999999 n, p with
  | some i, some v =>
    match s.account? i with
    | none => refuse .notFound s
    | some a => if a.pendingCharge ≠ 0 then refuse .busy s else k a v
  | _, _ => refuse .param s

/-- ACCOUNT n CREDIT amount (R136). -/
def execAccountCredit (n : Int) (amount : Option Int) (s : State) : Result State :=
  accountWrite n (numIn 1 999999999 amount) s fun a v =>
    let s1 := s.modAccount a.number fun x => x.credit v
    if Config.balanceLimit < a.balance + v then answer (.clamped [num Config.balanceLimit]) s1
    else answer (.ok [num (a.credit v).balance, statusWord (a.credit v).status]) s1

/-- ACCOUNT n LIMIT amount (R137). -/
def execAccountLimit (n : Int) (amount : Option Int) (s : State) : Result State :=
  accountWrite n (numIn 0 999999999 amount) s fun a v =>
    answer (.ok [nat v, statusWord (a.setLimit v).status])
      (s.modAccount a.number fun x => x.setLimit v)

/-- ACCOUNT n CLASSES (R137). -/
def execAccountClasses (n : Int) (cs : Option (List Int)) (s : State) : Result State :=
  accountWrite n (cs.bind classList) s fun a v =>
    answer (.ok []) (s.modAccount a.number fun x => { x with classes := v })

/-- ACCOUNT n STATUS (R137). -/
def execAccountStatus (n : Int) (w : Option StatusWord) (s : State) : Result State :=
  accountWrite n w s fun a v =>
    match v with
    | .open =>
      if a.balance < -(a.limit : Int) then answer (.er .refused ["FUNDS"]) s
      else answer (.ok []) (s.modAccount a.number fun x => { x with status := .open })
    | .stopped => answer (.ok []) (s.modAccount a.number fun x => { x with status := .stoppedHost })
    | .closed => answer (.ok []) (s.modAccount a.number fun x => { x with status := .closed })

/-- The classes an account allows, in ascending order. -/
def Account.classWords (a : Account) : List String :=
  ((List.range 16).filter fun c => a.classes.contains c).map nat

/-- An account's fields (R138). -/
def Account.fields (a : Account) : List String :=
  [nat a.number, num a.balance, nat a.limit, statusWord a.status, nat a.pendingCharge,
   commas a.classWords]

/-- ACCOUNT n? (R138). -/
def execAccountQuery (n : Int) (s : State) : Result State :=
  match inRange 1 999999 n with
  | none => refuse .param s
  | some k =>
    match s.account? k with
    | none => refuse .notFound s
    | some a => answer (.ok a.fields) s

/-- The account of the lesser number among two. -/
def lesserAccount (b : Option Account) (a : Account) : Option Account :=
  match b with
  | none => some a
  | some x => if a.number < x.number then some a else some x

/-- ACCOUNT NEXT? n (R138). DESIGN CHOICE: n is 0 to 999,999, as VISIT NEXT?'s (log entry 42). -/
def execAccountNextQuery (n : Option Int) (s : State) : Result State :=
  match numIn 0 999999 n with
  | none => refuse .param s
  | some k =>
    match (s.accounts.filter fun a => decide (k < a.number)).foldl lesserAccount none with
    | none => answer (.ok ["END"]) s
    | some a => answer (.ok a.fields) s

/-- ACCOUNT COUNT? (R138). -/
def execAccountCountQuery (s : State) : Result State := answer (.ok [nat s.accounts.length]) s

/-! ### Waste classes: the command lines (R139) -/

/-- Write a field of a class: the class, then the value (R139). -/
def classWrite {α : Type} (c : Int) (p : Option α) (f : WasteClass → α → WasteClass) (s : State) :
    Result State :=
  match inRange 0 15 c, p with
  | some k, some v => answer (.ok []) { s with classes := s.classes.set k (f (s.cls k) v) }
  | _, _ => refuse .param s

/-- A text without its leading and trailing spaces. -/
def trimSpaces (t : Text) : Text :=
  ((t.dropWhile (· == ' ')).reverse.dropWhile (· == ' ')).reverse

/-- A class name (R139): 1 to 12 printable characters. -/
def nameOf (t : Text) : Option Text :=
  let n := trimSpaces t
  if 1 ≤ n.length ∧ n.length ≤ 12 ∧ n.all printable = true then some n else none

/-- CLASS c NAME text (R139). -/
def execClassName (c : Int) (t : Text) (s : State) : Result State :=
  classWrite c (nameOf t) (fun x v => { x with name := v }) s

/-- CLASS c RATES in out (R139). -/
def execClassRates (c : Int) (p : Option (Int × Int)) (s : State) : Result State :=
  let rates : Option (Nat × Nat) :=
    match numIn 0 100000 (p.map (·.1)), numIn 0 100000 (p.map (·.2)) with
    | some i, some o => some (i, o)
    | _, _ => none
  classWrite c rates (fun x v => { x with inRate := v.1, outRate := v.2 }) s

/-- CLASS c MINIMUM amount (R139). -/
def execClassMinimum (c : Int) (amount : Option Int) (s : State) : Result State :=
  classWrite c (numIn 0 1000000 amount) (fun x v => { x with minimum := v }) s

/-- CLASS c LAYOUT n (R139). -/
def execClassLayout (c : Int) (n : Option Int) (s : State) : Result State :=
  classWrite c (numIn 0 7 n) (fun x v => { x with layout := v }) s

/-- CLASS c STAGES n (R139). -/
def execClassStages (c : Int) (n : Option Int) (s : State) : Result State :=
  classWrite c (numIn 1 3 n) (fun x v => { x with stages := v }) s

/-- CLASS c ONEPASS (R139). -/
def execClassOnepass (c : Int) (yes : Option Bool) (s : State) : Result State :=
  classWrite c yes (fun x v => { x with onePassOk := v }) s

/-- CLASS c TAREUPDATE (R139). -/
def execClassTareupdate (c : Int) (yes : Option Bool) (s : State) : Result State :=
  classWrite c yes (fun x v => { x with updateTare := v }) s

/-- CLASS c? (R139). -/
def execClassQuery (c : Int) (s : State) : Result State :=
  match inRange 0 15 c with
  | none => refuse .param s
  | some k =>
    let x := s.cls k
    answer (.ok [nat x.inRate, nat x.outRate, nat x.minimum, nat x.layout, nat x.stages,
      yn x.onePassOk, yn x.updateTare, String.ofList x.name]) s

end Sys2Proof.Machine
end

