-- ==== Sys2Proof/Machine/Ends.lean ====
section
/-! DEFINITION. Chapter 5, the end machines: reader ports, waking and identifying, the admission
decision, holds, referral, refusal and return to idle, the admission table, and the chapter's command
lines. The grant itself stands with the sequencer (Machine/Sequencer.lean). -/

namespace Sys2Proof.Machine

/-! ### Return to idle, refusal and referral (R92, R94) -/

/-- The end machine on its return to IDLE (R94). -/
def EndMachine.cleared (m : EndMachine) : EndMachine :=
  { m with state := .idle, movement := none, tag := none, reason := .none, prior := .none,
           admission := none, visit := none, idTimer := .stopped, decideTimer := .stopped }

/-- An end returns to IDLE, its open visit removed with no record and no report (R94). -/
def endIdle (e : EndId) (s : State) : State :=
  (s.removeVisit? (s.machine e).visit).modMachine e EndMachine.cleared

/-- The states in which the clear timer's expiry returns an end to IDLE (R94). -/
def EndState.leavesOnClear : EndState → Bool
  | .refused | .identifying | .referred | .held | .ready => true
  | .idle | .active => false

/-- An end that stands in one of the first five states of R94 with its clear timer expired goes to IDLE
at once. -/
def expiredToIdle (e : EndId) (s : State) : State :=
  if (s.machine e).clearTimer = .expired ∧ (s.machine e).state.leavesOnClear = true then endIdle e s
  else s

/-- An end goes to REFUSED (R92, R94, R96): its open visit is removed and a REFUSED report placed. -/
def refuseEnd (e : EndId) (r prior : Reason) (s : State) : State :=
  let m := s.machine e
  let s1 := (s.removeVisit? m.visit).modMachine e fun m =>
    { m with state := .refused, reason := r, prior := prior, visit := none, idTimer := .stopped,
             decideTimer := .stopped }
  expiredToIdle e
    (offer .refused (.atEnd e) [reasonWord r, reasonWord prior, dash tagText m.tag] s1)

/-- An end goes to REFERRED (R92): ATTENDED, a REFER report is placed; DETACHED, it goes on to REFUSED
at once. -/
def refer (e : EndId) (r : Reason) (s : State) : State :=
  let s1 := s.modMachine e fun m =>
    { m with state := .referred, reason := r, prior := .none, idTimer := .stopped,
             decideTimer := .running m.decideTime }
  if s.link.attended then
    expiredToIdle e (offer .refer (.atEnd e) [reasonWord r, dash tagText (s.machine e).tag] s1)
  else refuseEnd e .detached r s1

/-! ### Holds and the opening of a visit (R90, R91, R125, R129) -/

/-- The first inbound hold that applies, in R90's order. -/
def State.firstHold (s : State) (hasVisit : Bool) : Option Reason :=
  if s.metro.switchOn then some .cal
  else if !hasVisit && decide (Config.visitCapacity ≤ s.visits.table.length) then some .yardFull
  else if s.journal.erasedCount ≤ s.journal.low then some .journalLow
  else if s.outcomes.high ≤ s.outcomes.queue.length then some .outcomeHigh
  else none

/-- The valid tare of a tag, as a visit keeps it (R129). -/
def State.validTare (s : State) (t : Tag) : Option TareUsed :=
  match s.tareOf? t with
  | some (_, en) =>
    if s.tareValid en then
      some { value := en.value, source := en.source, stored := en.stored, count := en.count }
    else none
  | none => none

/-- The kind, note and tare of a visit to be opened (R90). -/
def State.visitTerms (s : State) (t : Tag) (ad : Admission) : VisitKind × VisitNote × Option TareUsed :=
  match ad.kind with
  | .twoPass => (.twoPass, .none, none)
  | .onePass =>
    if (s.cls ad.cls).onePassOk then
      match s.validTare t with
      | some u => (.onePass, .none, some u)
      | none => (.twoPass, .tareMissing, none)
    else (.twoPass, .classTwoPass, none)

/-- Make an end READY (R90). -/
def readyEnd (e : EndId) (visit : Option Nat) (s : State) : State :=
  s.modMachine e fun m =>
    { m with state := .ready, reason := .none, visit := visit, idTimer := .stopped,
             decideTimer := .stopped }

/-- Open the visit of an admitted vehicle and make its end READY (R90); a visit opened for the tag
meanwhile refers it as DUPLICATE. -/
def openAtEnd (e : EndId) (t : Tag) (ad : Admission) (s : State) : State :=
  if (s.visitOf? t).isSome then refer e .duplicate s
  else
    let n := s.visits.assign
    let terms := s.visitTerms t ad
    let s1 := readyEnd e (some n) (openVisit e t ad terms.1 terms.2.1 terms.2.2 s)
    expiredToIdle e (offer .admitted (.atEnd e)
      [nat n, tagText t, nat ad.account, nat ad.cls, kindWord terms.1, yn ad.manual,
       noteWord terms.2.1] s1)

/-- No hold applies: the end opens its visit if it has none, and is READY (R90, R91). -/
def admitNow (e : EndId) (s : State) : State :=
  let m := s.machine e
  match m.visit, m.tag, m.admission with
  | some n, _, _ => expiredToIdle e (readyEnd e (some n) s)
  | none, some t, some ad => openAtEnd e t ad s
  | none, _, _ => s

/-- An end goes to HELD with a HELD report (R90, R95). -/
def holdEnd (e : EndId) (r : Reason) (s : State) : State :=
  let s1 := s.modMachine e fun m =>
    { m with state := .held, reason := r, idTimer := .stopped, decideTimer := .stopped }
  expiredToIdle e (offer .held (.atEnd e) [reasonWord r, dash tagText (s.machine e).tag] s1)

/-- The hold check of a positive admission (R90). -/
def holdCheck (e : EndId) (s : State) : State :=
  match s.firstHold (s.machine e).visit.isSome with
  | some r => holdEnd e r s
  | none => admitNow e s

/-- HOLD_RETEST (R91): a hold that still applies becomes the reason with no further report. -/
def execHoldRetest (e : EndId) (s : State) : Result State :=
  if (s.machine e).state = .held then
    match s.firstHold (s.machine e).visit.isSome with
    | some r => .next (s.modMachine e fun m => { m with reason := r })
    | none => .next (admitNow e s)
  else .next s

/-! ### The admission decision (R87 to R89) -/

/-- An entry matches a tag under its mask (R88). -/
def AdmitEntry.matchesTag (en : AdmitEntry) (t : Tag) : Bool :=
  (t &&& en.mask) == (en.pattern &&& en.mask)

/-- An entry would decide for a tag: it is not EMPTY and matches (R88). -/
def AdmitEntry.decides (t : Tag) (en : AdmitEntry) : Bool :=
  en.action != .empty && en.matchesTag t

/-- The deciding entry, with its index (R88). -/
def State.decidingEntry (s : State) (t : Tag) : Option (Nat × AdmitEntry) :=
  match s.admission.entries.findIdx? (AdmitEntry.decides t) with
  | some i => some (i, s.admission.entries.getD i .empty)
  | none => none

/-- The first admission check that fails (R89). -/
def State.admissionFailure (s : State) (account cls : Nat) : Option Reason :=
  match s.account? account with
  | none => some .noAccount
  | some a =>
    if a.status ≠ .open then some .accountStopped
    else if a.classes.contains cls = false then some .classDenied
    else if a.balance + a.limit < ((s.cls cls).minimum : Int) then some .funds
    else none

/-- Record an admission at an end (R89, R92). -/
def recordAdmission (e : EndId) (ad : Admission) (s : State) : State :=
  s.modMachine e fun m => { m with admission := some ad }

/-- The kind asked for. -/
def askedKind (onePass : Bool) : VisitKind := if onePass then .onePass else .twoPass

/-- The decision for an OUTBOUND movement (R87). -/
def decideOutbound (e : EndId) (t : Tag) (s : State) : State :=
  match s.visitOf? t with
  | none => refer e .noVisit s
  | some v =>
    match v.state with
    | .onSite | .settled => expiredToIdle e (readyEnd e none s)
    | .admitted | .leaving => refer e .visitBusy s

/-- The decision for an INBOUND movement (R88, R89). -/
def decideInbound (e : EndId) (t : Tag) (s : State) : State :=
  if (s.visitOf? t).isSome then refer e .duplicate s
  else
    match s.decidingEntry t with
    | none =>
      match s.admission.policy with
      | .refer => refer e .unknown s
      | .refuse => refuseEnd e .unknown .none s
    | some (_, en) =>
      match en.action with
      | .allow =>
        match s.admissionFailure en.account en.cls with
        | some r => refer e r s
        | none =>
          holdCheck e (recordAdmission e
            { account := en.account, cls := en.cls, kind := askedKind en.onePass, manual := false } s)
      | .refer => refer e .listed s
      | .refuse | .empty => refuseEnd e .listed .none s

/-- A tag becomes the accepted tag and the decision is taken at once (R86). -/
def acceptTag (e : EndId) (t : Tag) (s : State) : State :=
  let s1 := s.modMachine e fun m => { m with tag := some t, idTimer := .stopped }
  match (s.machine e).movement with
  | some .inbound => decideInbound e t s1
  | some .outbound => decideOutbound e t s1
  | none => s1

/-! ### Waking (R85) -/

/-- An approach end wakes: IDENTIFYING, and what the port already holds (R85, R93). -/
def wake (e : EndId) (s : State) : State :=
  let m := s.machine e
  let mv := s.movementAt e
  let s1 := s.modMachine e fun m =>
    { m with state := .identifying, movement := some mv, idTimer := .running m.idTime }
  if m.conflict then
    refer e .tagConflict (s1.modMachine e fun m => { m with tag := m.heldRead, idTimer := .stopped })
  else
    match m.heldRead with
    | none => expiredToIdle e s1
    | some t => acceptTag e t s1

/-- The test of R85: an end in IDLE, in RUN, whose loop reads occupied, wakes or reports WRONG_WAY. -/
def wakeTest (e : EndId) (s : State) : State :=
  let t := s.station e
  if s.part.run = true ∧ t.machine.state = .idle ∧ t.lines.approach = true then
    if s.isApproach e then wake e s
    else if t.machine.wrongWay then s
    else offer .wrongWay (.atEnd e) [] (s.modMachine e fun m => { m with wrongWay := true })
  else s

/-- APPROACH_OCCUPIED (R60, R85, R94): the clear timer stops and the end takes the test of R85. -/
def execApproachOccupied (e : EndId) (s : State) : Result State :=
  if (s.station e).lines.approach then .next s
  else
    .next (wakeTest e ((s.modLines e fun l => { l with approach := true }).modMachine e fun m =>
      { m with clearTimer := .stopped }))

/-- APPROACH_CLEAR (R84, R85, R94): the port forgets its read and mark, the wrong-way mark is cleared
and the clear timer starts. -/
def execApproachClear (e : EndId) (s : State) : Result State :=
  if (s.station e).lines.approach then
    .next ((s.modLines e fun l => { l with approach := false }).modMachine e fun m =>
      { m with heldRead := none, conflict := false, wrongWay := false,
               clearTimer := .running m.clearTime })
  else .next s

/-! ### Reader ports (R83, R84, R93) -/

/-- The value of a hexadecimal digit, in either letter case. -/
def hexValue (c : Char) : Option Nat :=
  let n := c.toNat
  if 48 ≤ n ∧ n ≤ 57 then some (n - 48)
  else if 65 ≤ n ∧ n ≤ 70 then some (n - 55)
  else if 97 ≤ n ∧ n ≤ 102 then some (n - 87)
  else none

/-- The number hexadecimal digits spell. -/
def hexNumber : Nat → Text → Option Nat
  | acc, [] => some acc
  | acc, c :: cs =>
    match hexValue c with
    | some v => hexNumber (16 * acc + v) cs
    | none => none

/-- A tag: exactly ten hexadecimal digits (R83, R189). -/
def tagOf (t : Text) : Option Tag :=
  if t.length = 10 then (hexNumber 0 t).map (BitVec.ofNat 40) else none

/-- The good characters of a read, LF discarded; none when one had a framing error (R83). DESIGN CHOICE: a
discarded LF does not count toward the 32 characters (log entry 34). -/
def readChars : List RxChar → Option Text
  | [] => some []
  | .error :: _ => none
  | .good c :: cs => if c = '\n' then readChars cs else (readChars cs).map (c :: ·)

/-- The tag of a valid read (R83). A read of more than 32 characters is not valid either. -/
def readTag (cs : List RxChar) : Option Tag := (readChars cs).bind tagOf

/-- The reader's fault condition ends, if present (R83). -/
def readerConditionEnds (e : EndId) (s : State) : State :=
  if (s.machine e).rdrCondition then
    condEnds (.rdr e) (s.modMachine e fun m => { m with rdrCondition := false })
  else s

/-- An arrival at the end machine (R84, R86). -/
def arrival (e : EndId) (t : Tag) (s : State) : State :=
  let s1 := s.modMachine e fun m => { m with heldRead := some t }
  match (s.machine e).state with
  | .identifying => acceptTag e t s1
  | .referred =>
    offer .refer (.atEnd e) [reasonWord (s.machine e).reason, tagText t]
      (s1.modMachine e fun m => { m with tag := some t })
  | .idle | .held | .ready | .active | .refused => s1

/-- A conflict at the end machine (R84, R93). -/
def conflict (e : EndId) (s : State) : State :=
  let s1 := s.modMachine e fun m => { m with conflict := true }
  match (s.machine e).state with
  | .referred =>
    offer .refer (.atEnd e) [reasonWord .tagConflict, dash tagText (s.machine e).tag]
      (s1.modMachine e fun m => { m with reason := .tagConflict })
  | .held | .ready =>
    refer e .tagConflict ((s1.removeVisit? (s.machine e).visit).modMachine e fun m =>
      { m with visit := none })
  | .idle | .identifying | .active | .refused => s1

/-- The comparison tag (R84). -/
def EndMachine.comparison (m : EndMachine) : Option Tag := m.tag.or m.heldRead

/-- A valid read acts on the port (R84). -/
def portRead (e : EndId) (t : Tag) (s : State) : State :=
  if (s.station e).lines.approach then
    match (s.machine e).comparison with
    | none => arrival e t s
    | some c => if c = t then s else conflict e s
  else s

/-- READ_RECEIVED (R83, R84): an invalid read is discarded; a valid one ends the reader's fault
condition and acts on the port. -/
def execReadReceived (e : EndId) (read : List RxChar) (s : State) : Result State :=
  match readTag read with
  | none => .next s
  | some t => .next (portRead e t (readerConditionEnds e s))

/-- READER_ERROR_RUN (R83): 8 consecutive characters with framing errors. DESIGN CHOICE: a further run while
the condition is present signals nothing (log entry 40). -/
def execReaderErrorRun (e : EndId) (s : State) : Result State :=
  if (s.machine e).rdrCondition then .next s
  else .next (condArises (.rdr e) (s.modMachine e fun m => { m with rdrCondition := true }))

/-- READER_GOOD_RUN (R83): 8 consecutive characters without framing error. -/
def execReaderGoodRun (e : EndId) (s : State) : Result State := .next (readerConditionEnds e s)

/-! ### The end's timers (R86, R92, R94) -/

/-- A timer that runs. -/
def Timer.isRunning : Timer → Bool
  | .running _ => true
  | .stopped | .expired => false

/-- IDENTIFICATION_TIMER_EXPIRY (R86). -/
def execIdentificationTimerExpiry (e : EndId) (s : State) : Result State :=
  if (s.machine e).state = .identifying ∧ (s.machine e).idTimer.isRunning = true then
    .next (refer e .noTag s)
  else .next s

/-- DECISION_TIMER_EXPIRY (R92). -/
def execDecisionTimerExpiry (e : EndId) (s : State) : Result State :=
  if (s.machine e).state = .referred ∧ (s.machine e).decideTimer.isRunning = true then
    .next (refuseEnd e .timeout (s.machine e).reason s)
  else .next s

/-- CLEAR_TIMER_EXPIRY (R94). -/
def execClearTimerExpiry (e : EndId) (s : State) : Result State :=
  if (s.machine e).clearTimer.isRunning then
    .next (expiredToIdle e (s.modMachine e fun m => { m with clearTimer := .expired }))
  else .next s

/-! ### The link's and the deck's effects on the ends (R92, R96, R100) -/

/-- An end in REFERRED when the link becomes DETACHED (R92). -/
def detachEnd (s : State) (e : EndId) : State :=
  if (s.machine e).state = .referred then refuseEnd e .detached (s.machine e).reason s else s

/-- An end of a deck that becomes CLOSED (R96). -/
def closeEnd (s : State) (e : EndId) : State :=
  match (s.machine e).state with
  | .identifying | .referred | .held | .ready => refuseEnd e .closed (s.machine e).reason s
  | .idle | .active | .refused => s

/-- Both ends of a deck that becomes CLOSED (R96). DESIGN CHOICE: end 1 first (log entry 45). -/
def closeEnds (d : Deck) (s : State) : State := closeEnd (closeEnd s (d.endAt .one)) (d.endAt .two)

/-- The end machine and its port after a reset over a loop that reads as given (R100, R211). -/
def EndMachine.restarted (m : EndMachine) (occupied : Bool) : EndMachine :=
  { m.cleared with
    clearTimer := if occupied then .stopped else .running m.clearTime
    wrongWay := false
    heldRead := none
    conflict := false
    rdrCondition := false }

/-- An end is reset, its open visit removed (R100). -/
def resetEnd (e : EndId) (s : State) : State :=
  (s.removeVisit? (s.machine e).visit).modStation e fun t =>
    { t with machine := t.machine.restarted t.lines.approach }

/-! ### The chapter's command lines (R86, R92, R97 to R99) -/

/-- END xn PRESENT tag (R86). -/
def execEndPresent (e : EndId) (tag : Option Tag) (s : State) : Result State :=
  match tag with
  | none => refuse .param s
  | some t =>
    if (s.machine e).state = .identifying then
      let s1 := acceptTag e t s
      answer (.ok [endStateWord (s1.machine e).state, reasonWord (s1.machine e).reason]) s1
    else refuse .state s

/-- END xn ADMIT account class [ONEPASS] (R92), judged in the order of its table. -/
def execEndAdmit (e : EndId) (p : Option AdmitArgs) (s : State) : Result State :=
  let m := s.machine e
  if m.state ≠ .referred then refuse .state s
  else if m.movement ≠ some .inbound then refuse .state s
  else
    match m.tag with
    | none => refuse .state s
    | some t =>
      match p with
      | none => refuse .param s
      | some a =>
        match inRange 1 999999 a.account, inRange 0 15 a.cls with
        | some n, some c =>
          if (s.account? n).isNone then refuse .notFound s
          else if (s.visitOf? t).isSome then refuse .busy s
          else
            let s1 := holdCheck e (recordAdmission e
              { account := n, cls := c, kind := askedKind a.onePass, manual := true } s)
            answer (.ok [endStateWord (s1.machine e).state]) s1
        | _, _ => refuse .param s

/-- END xn REFUSE (R92). -/
def execEndRefuse (e : EndId) (s : State) : Result State :=
  match (s.machine e).state with
  | .referred | .held | .ready => answer (.ok []) (refuseEnd e .host (s.machine e).reason s)
  | .idle | .identifying | .active | .refused => refuse .state s

/-- The account, class and flag an action carries, when its numbers are in range (R97). -/
def TagSetArgs.entry (p : TagSetArgs) : Option AdmitEntry :=
  match p.action with
  | .allow account cls onePass =>
    match inRange 1 999999 account, inRange 0 15 cls with
    | some n, some c =>
      some { pattern := p.pattern, mask := p.mask, action := .allow, account := n, cls := c,
             onePass := onePass }
    | _, _ => none
  | .refer => some { AdmitEntry.empty with pattern := p.pattern, mask := p.mask, action := .refer }
  | .refuse => some { AdmitEntry.empty with pattern := p.pattern, mask := p.mask, action := .refuse }

/-- Write an admission entry. -/
def State.setEntry (s : State) (i : Nat) (en : AdmitEntry) : State :=
  { s with admission := { s.admission with entries := s.admission.entries.set i en } }

/-- TAG i SET (R97). -/
def execTagSet (i : Int) (p : Option TagSetArgs) (s : State) : Result State :=
  match inRange 0 31 i, p.bind TagSetArgs.entry with
  | some k, some en => answer (.ok []) (s.setEntry k en)
  | _, _ => refuse .param s

/-- TAG i CLEAR (R97). -/
def execTagClear (i : Int) (s : State) : Result State :=
  match inRange 0 31 i with
  | none => refuse .param s
  | some k => answer (.ok []) (s.setEntry k .empty)

/-- TAG i? (R97). -/
def execTagQuery (i : Int) (s : State) : Result State :=
  match inRange 0 31 i with
  | none => refuse .param s
  | some k =>
    let en := s.admission.entries.getD k .empty
    answer (.ok ([tagText en.pattern, tagText en.mask, actionWord en.action]
      ++ if en.action = .allow then
          [nat en.account, nat en.cls, if en.onePass then "ONEPASS" else "-"]
        else [])) s

/-- TAG POLICY (R97). -/
def execTagPolicy (p : Option Policy) (s : State) : Result State :=
  writeWord p (fun v s => { s with admission := { s.admission with policy := v } }) s

/-- TAG POLICY? (R97). -/
def execTagPolicyQuery (s : State) : Result State := answer (.ok [policyWord s.admission.policy]) s

/-- TAG MATCH? tag (R97). -/
def execTagMatchQuery (tag : Option Tag) (s : State) : Result State :=
  match tag with
  | none => refuse .param s
  | some t =>
    match s.decidingEntry t with
    | some (i, en) => answer (.ok [nat i, actionWord en.action]) s
    | none => answer (.ok ["NONE", policyWord s.admission.policy]) s

/-- END xn IDTIME (R98). -/
def execEndIdtime (e : EndId) (sec : Option SetArg) (s : State) : Result State :=
  writeSetting 2 60 10 sec (fun v s => s.modMachine e fun m => { m with idTime := v }) s

/-- END xn IDTIME? (R98). -/
def execEndIdtimeQuery (e : EndId) (s : State) : Result State :=
  answer (.ok [nat (s.machine e).idTime]) s

/-- END xn DECIDE (R98). -/
def execEndDecide (e : EndId) (sec : Option SetArg) (s : State) : Result State :=
  writeSetting 10 600 120 sec (fun v s => s.modMachine e fun m => { m with decideTime := v }) s

/-- END xn DECIDE? (R98). -/
def execEndDecideQuery (e : EndId) (s : State) : Result State :=
  answer (.ok [nat (s.machine e).decideTime]) s

/-- END xn CLEARTIME (R98). -/
def execEndCleartime (e : EndId) (sec : Option SetArg) (s : State) : Result State :=
  writeSetting 1 10 3 sec (fun v s => s.modMachine e fun m => { m with clearTime := v }) s

/-- END xn CLEARTIME? (R98). -/
def execEndCleartimeQuery (e : EndId) (s : State) : Result State :=
  answer (.ok [nat (s.machine e).clearTime]) s

/-- OCC or CLEAR. -/
def loopWord (b : Bool) : String := if b then "OCC" else "CLEAR"

/-- The seconds left on the identification or decision timer, whichever runs (R99). -/
def EndMachine.secondsField (m : EndMachine) : String :=
  match m.idTimer with
  | .running n => nat n
  | .stopped | .expired => secondsLeft m.decideTimer

/-- An end's fields (R99). -/
def Station.endFields (t : Station) : List String :=
  let m := t.machine
  [endStateWord m.state, dash movementWord m.movement, dash tagText m.tag, reasonWord m.reason,
   dash nat m.visit, dash (fun a : Admission => nat a.account ++ "/" ++ nat a.cls) m.admission,
   dash (fun a : Admission => kindWord a.kind ++ if a.manual then "/M" else "") m.admission,
   m.secondsField, loopWord t.lines.approach, dash tagText m.heldRead]

/-- END xn? (R99). -/
def execEndQuery (e : EndId) (s : State) : Result State := answer (.ok (s.station e).endFields) s

end Sys2Proof.Machine
end

