-- ==== Sys2Proof/Machine/Parse.lean ====
section
/-! DEFINITION. Section 10.2, reading a correctly framed line: words and query marks, the subject with
its index, the action keyword, and the parameters (R187 to R189). A line read gives a command of
Syntax.lean, its malformed parameters left as `none`, or the error reply of the first two steps of
R190's order. -/

namespace Sys2Proof.Machine

/-! ### Words (R187) -/

/-- A letter as a capital: case is ignored (R187). -/
def upperChar (c : Char) : Char :=
  if 97 ≤ c.toNat ∧ c.toNat ≤ 122 then Char.ofNat (c.toNat - 32) else c

/-- A text in capitals. -/
def upper (t : Text) : Text := t.map upperChar

/-- Split at spaces, `cur` being the word under way, reversed. -/
def splitGo : Text → Text → List Text
  | [], cur => if cur.isEmpty then [] else [cur.reverse]
  | c :: cs, cur =>
    if c = ' ' then (if cur.isEmpty then splitGo cs [] else cur.reverse :: splitGo cs [])
    else splitGo cs (c :: cur)

/-- The words of a line. -/
def splitWords (t : Text) : List Text := splitGo t []

/-- A word with the query mark it may end with. -/
structure Word where
  chars : Text
  query : Bool
  deriving DecidableEq, Repr

/-- Read a word's mark. -/
def markWord (t : Text) : Word :=
  if t.getLast? = some '?' then { chars := t.dropLast, query := true }
  else { chars := t, query := false }

/-- The words with their marks; a mark standing alone ends the word before it. DESIGN CHOICE: after a word
that ends in a mark already it adds nothing, and a second lone mark is a word of its own (log entry 44). -/
def markWords : List Text → List Word
  | [] => []
  | [w] => [markWord w]
  | w :: v :: rest =>
    if v = ['?'] then { markWord w with query := true } :: markWords rest
    else markWord w :: markWords (v :: rest)

/-- What follows the first `n` words of a line, spaces included. -/
def afterWords : Nat → Text → Text
  | 0, t => t
  | n + 1, t => afterWords n ((t.dropWhile (· == ' ')).dropWhile (· != ' '))

/-! ### Keywords (R188) -/

/-- A word is a beginning of another. -/
def begins (w k : Text) : Bool := w.isPrefixOf k

/-- A word stands for keyword `k` among all keywords of its place: it is `k`, or a beginning of it of at
least three letters that no other of them begins with. -/
def isKeyword (all : List String) (k : String) (w : Text) : Bool :=
  w == k.toList
    || (decide (3 ≤ w.length) && begins w k.toList
      && !all.any fun o => o != k && begins w o.toList)

/-! ### Parameters (R189) -/

/-- The value of decimal digits. -/
def digitsValue : Nat → Text → Option Nat
  | acc, [] => some acc
  | acc, c :: cs =>
    if 48 ≤ c.toNat ∧ c.toNat ≤ 57 then digitsValue (10 * acc + (c.toNat - 48)) cs else none

/-- At least one decimal digit. -/
def naturalOf (t : Text) : Option Nat := if t.isEmpty then none else digitsValue 0 t

/-- A number: digits with an optional leading minus sign. -/
def numberOf : Text → Option Int
  | '-' :: rest => (naturalOf rest).map fun n => -(n : Int)
  | t => (naturalOf t).map fun n => (n : Int)

/-- One of a list of words, written whole. -/
def oneOf {α : Type} (table : List (String × α)) (t : Text) : Option α :=
  (table.find? fun p => p.1.toList == t).map (·.2)

/-- The value of a numeric setting: a number, or MIN, MAX or DEF. -/
def settingOf (t : Text) : Option SetArg :=
  match numberOf t with
  | some n => some (.num n)
  | none => oneOf [("MIN", .min), ("MAX", .max), ("DEF", .dflt)] t

/-- The value of the silence time (R192). -/
def silenceOf (t : Text) : Option SilenceArg :=
  if t = "OFF".toList then some .off else (settingOf t).map .time

/-- Exactly one parameter. -/
def one {α : Type} (f : Text → Option α) : List Text → Option α
  | [t] => f t
  | _ => none

/-- Exactly two parameters. -/
def two {α β : Type} (f : Text → Option α) (g : Text → Option β) : List Text → Option (α × β)
  | [t, u] =>
    match f t, g u with
    | some a, some b => some (a, b)
    | _, _ => none
  | _ => none

/-- Every parameter a number. -/
def numbers : List Text → Option (List Int)
  | [] => some []
  | t :: ts =>
    match numberOf t, numbers ts with
    | some n, some ns => some (n :: ns)
    | _, _ => none

/-- At least one parameter, every one a number. -/
def someNumbers (ts : List Text) : Option (List Int) := if ts.isEmpty then none else numbers ts

def yesNoOf : Text → Option Bool := oneOf [("YES", true), ("NO", false)]

def onOffOf : Text → Option Bool := oneOf [("ON", true), ("OFF", false)]

def polarityOf : Text → Option Polarity := oneOf [("HIGH", .high), ("LOW", .low)]

def endLineOf : Text → Option EndLine :=
  oneOf [("RAISE", .raise), ("LOWER", .lower), ("RED", .red), ("GREEN", .green), ("UP", .up),
    ("DOWN", .down), ("APPROACH", .approach), ("SAFETY", .safety), ("LOOPFAULT", .loopfault)]

def deckLineOf : Text → Option DeckLine :=
  oneOf [("BEAM1", .beam1), ("BEAM2", .beam2), ("BUSY", .busy), ("PAPER", .paper), ("TAKEN", .taken)]

def partLineOf : Text → Option PartLine := oneOf [("CAL", .cal), ("ATTN", .attn)]

def driveModeOf : Text → Option DriveMode :=
  oneOf [("PULSE", .pulse), ("HOLD", .hold), ("CONFIRMED", .confirmed)]

def directionOf : Text → Option Direction := oneOf [("1TO2", .oneToTwo), ("2TO1", .twoToOne)]

def openModeOf : Text → Option OpenMode :=
  oneOf [("IN_ONLY", .inOnly), ("OUT_ONLY", .outOnly), ("BOTH", .both)]

def releaseOf : Text → Option Release :=
  oneOf [("AT_SETTLE", .atSettle), ("AT_PRINTED", .atPrinted), ("AT_TAKEN", .atTaken)]

def policyOf : Text → Option Policy := oneOf [("REFER", .refer), ("REFUSE", .refuse)]

def statusOf : Text → Option StatusWord :=
  oneOf [("OPEN", .open), ("STOPPED", .stopped), ("CLOSED", .closed)]

def preferOf : Text → Option Prefer :=
  oneOf [("NONE", .none), ("DECK_A", .deckA), ("DECK_B", .deckB)]

def parityOf : Text → Option Parity := oneOf [("NONE", .none), ("EVEN", .even)]

def groupOf : Text → Option ReportGroup :=
  oneOf [("TRAFFIC", .traffic), ("WEIGHING", .weighing), ("JOURNAL", .journal), ("FAULTS", .faults)]

def reportModeOf : Text → Option ReportMode :=
  oneOf [("ALL", .all), ("EXCEPTIONS", .exceptions), ("NONE", .none)]

def deckOf : Text → Option Deck := oneOf [("A", .a), ("B", .b)]

def endOf : Text → Option EndId := oneOf [("A1", .a1), ("A2", .a2), ("B1", .b1), ("B2", .b2)]

def sourceOf (t : Text) : Option FaultSource :=
  allSources.find? fun f => (sourceName f).toList == t

/-- The terms of END xn ADMIT (R92). -/
def admitOf : List Text → Option AdmitArgs
  | [a, c] =>
    match numberOf a, numberOf c with
    | some a, some c => some { account := a, cls := c, onePass := false }
    | _, _ => none
  | [a, c, w] =>
    match numberOf a, numberOf c with
    | some a, some c =>
      if w = "ONEPASS".toList then some { account := a, cls := c, onePass := true } else none
    | _, _ => none
  | _ => none

/-- What follows the mask in TAG i SET (R97). DESIGN CHOICE: the word EMPTY is not taken (log entry 33). -/
def tagActionOf : List Text → Option TagAction
  | w :: rest =>
    if w = "ADMIT".toList then
      (admitOf rest).map fun a => .allow a.account a.cls a.onePass
    else if rest.isEmpty = false then none
    else oneOf [("REFER", .refer), ("REFUSE", .refuse)] w
  | [] => none

/-- The parameters of TAG i SET (R97). -/
def tagSetOf : List Text → Option TagSetArgs
  | p :: m :: rest =>
    match tagOf p, tagOf m, tagActionOf rest with
    | some p, some m, some a => some { pattern := p, mask := m, action := a }
    | _, _, _ => none
  | _ => none

/-- The limit and classes of ACCOUNT n ADD (R135). -/
def addOf (ts : List Text) : Option (Int × List Int) :=
  match numbers ts with
  | some (l :: cs) => some (l, cs)
  | some [] | none => none

/-- The classes of ACCOUNT n CLASSES (R137). -/
def classesOf (ts : List Text) : Option (List Int) :=
  if ts = ["NONE".toList] then some [] else someNumbers ts

/-- A date and a time: YYYY-MM-DD and HH:MM:SS (R189). -/
def clockOf : List Text → Option ClockArgs
  | [[y1, y2, y3, y4, '-', m1, m2, '-', d1, d2], [h1, h2, ':', n1, n2, ':', s1, s2]] =>
    match naturalOf [y1, y2, y3, y4], naturalOf [m1, m2], naturalOf [d1, d2], naturalOf [h1, h2],
      naturalOf [n1, n2], naturalOf [s1, s2] with
    | some y, some m, some d, some h, some n, some s =>
      some { year := y, month := m, day := d, hour := h, minute := n, second := s }
    | _, _, _, _, _, _ => none
  | _ => none

/-! ### What a subject offers (R187) -/

/-- What a line that has been read gives. -/
inductive Reading where
  | command (i : Instr)
  | wrong (c : ErCode)
  deriving DecidableEq, Repr

/-- A form of a command: without or with the subject's index; `none` is a wrong number of
parameters. -/
inductive Form (ι : Type) where
  | plain (f : List Text → Option Instr)
  | indexed (f : ι → List Text → Option Instr)

/-- An action keyword with what it offers as an order, as a query, and as a query whose mark ends the
last parameter. -/
structure Action (ι : Type) where
  name : String
  order : Option (Form ι) := none
  query : Option (Form ι) := none
  last : Option (Form ι) := none

/-- The index read from a line: absent, of the wrong form, a value, or a value that names nothing. -/
inductive Index (ι : Type) where
  | absent
  | malformed
  | nothing
  | value (i : ι)

/-- A command without parameters. -/
def bare (i : Instr) (ts : List Text) : Option Instr := if ts.isEmpty then some i else none

/-- Read a command of a form with the index and the parameters there are: the index form first (ER 10),
then the index's value and the number of parameters (ER 11). -/
def readForm {ι : Type} (f : Form ι) (i : Index ι) (ts : List Text) : Reading :=
  let give (o : Option Instr) : Reading :=
    match o with
    | some c => .command c
    | none => .wrong .param
  match f, i with
  | _, .malformed => .wrong .syntaxError
  | .plain f, .absent => give (f ts)
  | .indexed f, .value v => give (f v ts)
  | .indexed _, .nothing => .wrong .param
  | .plain _, .nothing | .plain _, .value _ | .indexed _, .absent => .wrong .syntaxError

/-- The marks on the parameters: none, one on the last alone, or elsewhere. -/
inductive Marks where
  | clean | last | wrong
  deriving DecidableEq, Repr

/-- Read the marks of the parameters. DESIGN CHOICE: a mark with further words after it is in the wrong place
(log entry 44). -/
def marksOf : List Word → Marks
  | [] => .clean
  | [w] => if w.query then .last else .clean
  | w :: ws => if w.query then .wrong else marksOf ws

/-- Read the action keyword and what follows it (R187, R188). -/
def readAction {ι : Type} (acts : List (Action ι)) (i : Index ι) (w : Word) (ps : List Word) : Reading :=
  match acts.find? fun a => isKeyword (acts.map (·.name)) a.name w.chars with
  | none => .wrong .syntaxError
  | some a =>
    let form :=
      match w.query, marksOf ps with
      | false, .clean => a.order
      | true, .clean => a.query
      | false, .last => a.last
      | _, _ => none
    match form with
    | none => .wrong .syntaxError
    | some f => readForm f i (ps.map (·.chars))

/-- A subject with no index: its own query, and its actions. DESIGN CHOICE: words after the subject's own
mark give ER 10 (log entry 44). -/
def readPlain (own : Option Instr) (acts : List (Action Unit)) (subj : Word) (ws : List Word) : Reading :=
  match subj.query, ws, own with
  | true, [], some i => .command i
  | false, a :: ps, _ => readAction acts .absent a ps
  | _, _, _ => .wrong .syntaxError

/-- A subject with a required index: its own query, and its actions. DESIGN CHOICE: words after the index's
mark give ER 10 (log entry 44). -/
def readIndexed {ι : Type} (index : Text → Index ι) (own : Option (ι → Instr)) (acts : List (Action ι))
    (subj : Word) (ws : List Word) : Reading :=
  match subj.query, ws with
  | false, [x] =>
    match x.query, own with
    | true, some f => readForm (.indexed fun v ts => bare (f v) ts) (index x.chars) []
    | _, _ => .wrong .syntaxError
  | false, x :: a :: ps =>
    if x.query then .wrong .syntaxError else readAction acts (index x.chars) a ps
  | _, _ => .wrong .syntaxError

/-- A subject with an optional index: the second word is the index when `isIndex` says so. DESIGN CHOICE:
words after the subject's own mark give ER 10 (log entry 44). -/
def readOptional {ι : Type} (isIndex : Text → Bool) (index : Text → Index ι) (whole : Option Instr)
    (own : ι → Instr) (acts : List (Action ι)) (subj : Word) (ws : List Word) : Reading :=
  match subj.query, ws, whole with
  | true, [], some i => .command i
  | false, x :: ps, _ =>
    if isIndex x.chars then readIndexed index (some own) acts subj (x :: ps)
    else readAction acts .absent x ps
  | _, _, _ => .wrong .syntaxError

/-- An index that is a deck. -/
def deckIndex (t : Text) : Index Deck :=
  match deckOf t with
  | some d => .value d
  | none => .nothing

/-- An index that is an end. -/
def endIndex (t : Text) : Index EndId :=
  match endOf t with
  | some e => .value e
  | none => .nothing

/-- An index that is a number. -/
def numberIndex (t : Text) : Index Int :=
  match numberOf t with
  | some n => .value n
  | none => .malformed

/-- An index that is a fault source. -/
def sourceIndex (t : Text) : Index FaultSource :=
  match sourceOf t with
  | some f => .value f
  | none => .nothing

/-- A word that begins with a digit (R187). -/
def startsWithDigit : Text → Bool
  | c :: _ => decide (48 ≤ c.toNat ∧ c.toNat ≤ 57)
  | [] => false

/-! ### The subjects' actions -/

def deckActions : List (Action Deck) :=
  [{ name := "FILTER", order := some (.indexed fun d ts => some (.deckFilter d (one settingOf ts))),
     query := some (.indexed fun d => bare (.deckFilterQuery d)) },
   { name := "STABILITY",
     order := some (.indexed fun d ts => some (.deckStability d (two settingOf settingOf ts))),
     query := some (.indexed fun d => bare (.deckStabilityQuery d)) },
   { name := "TRACK", order := some (.indexed fun d ts => some (.deckTrack d (one onOffOf ts))),
     query := some (.indexed fun d => bare (.deckTrackQuery d)) },
   { name := "ZERO", order := some (.indexed fun d => bare (.deckZero d)) },
   { name := "WEIGHT", query := some (.indexed fun d => bare (.deckWeightQuery d)) },
   { name := "CELLS", query := some (.indexed fun d => bare (.deckCellsQuery d)) },
   { name := "RESET", order := some (.indexed fun d => bare (.deckReset d)) },
   { name := "STAGED", order := some (.indexed fun d ts => some (.deckStaged d (one yesNoOf ts))),
     query := some (.indexed fun d => bare (.deckStagedQuery d)) },
   { name := "BEAMS", query := some (.indexed fun d => bare (.deckBeamsQuery d)) },
   { name := "CAPTURE", query := some (.indexed fun d => bare (.deckCaptureQuery d)) },
   { name := "POLARITY",
     order := some (.indexed fun d ts => some (.deckPolarity d (two deckLineOf polarityOf ts))),
     query := some (.indexed fun d ts => some (.deckPolarityQuery d (one deckLineOf ts))) },
   { name := "INBOUND", order := some (.indexed fun d ts => some (.deckInbound d (one directionOf ts))),
     query := some (.indexed fun d => bare (.deckInboundQuery d)) },
   { name := "OPEN", order := some (.indexed fun d ts => some (.deckOpen d (one openModeOf ts))) },
   { name := "CLOSE", order := some (.indexed fun d => bare (.deckClose d)) },
   { name := "MODE", query := some (.indexed fun d => bare (.deckModeQuery d)) },
   { name := "CANCEL", order := some (.indexed fun d => bare (.deckCancel d)) },
   { name := "RELEASE", order := some (.indexed fun d => bare (.deckRelease d)) },
   { name := "STREAK", order := some (.indexed fun d ts => some (.deckStreak d (one settingOf ts))),
     query := some (.indexed fun d => bare (.deckStreakQuery d)) },
   { name := "TAILGATE", order := some (.indexed fun d ts => some (.deckTailgate d (one settingOf ts))),
     query := some (.indexed fun d => bare (.deckTailgateQuery d)) },
   { name := "TIMEOUT", order := some (.indexed fun d ts => some (.deckTimeout d (one settingOf ts))),
     query := some (.indexed fun d => bare (.deckTimeoutQuery d)) },
   { name := "TAKETIME", order := some (.indexed fun d ts => some (.deckTaketime d (one settingOf ts))),
     query := some (.indexed fun d => bare (.deckTaketimeQuery d)) },
   { name := "EXIT", order := some (.indexed fun d ts => some (.deckExit d (one releaseOf ts))),
     query := some (.indexed fun d => bare (.deckExitQuery d)) }]

def endActions : List (Action EndId) :=
  [{ name := "POLARITY",
     order := some (.indexed fun e ts => some (.endPolarity e (two endLineOf polarityOf ts))),
     query := some (.indexed fun e ts => some (.endPolarityQuery e (one endLineOf ts))) },
   { name := "PRESENT", order := some (.indexed fun e ts => some (.endPresent e (one tagOf ts))) },
   { name := "ADMIT", order := some (.indexed fun e ts => some (.endAdmit e (admitOf ts))) },
   { name := "REFUSE", order := some (.indexed fun e => bare (.endRefuse e)) },
   { name := "IDTIME", order := some (.indexed fun e ts => some (.endIdtime e (one settingOf ts))),
     query := some (.indexed fun e => bare (.endIdtimeQuery e)) },
   { name := "DECIDE", order := some (.indexed fun e ts => some (.endDecide e (one settingOf ts))),
     query := some (.indexed fun e => bare (.endDecideQuery e)) },
   { name := "CLEARTIME",
     order := some (.indexed fun e ts => some (.endCleartime e (one settingOf ts))),
     query := some (.indexed fun e => bare (.endCleartimeQuery e)) }]

def barrierActions : List (Action EndId) :=
  [{ name := "MODE", order := some (.indexed fun e ts => some (.barrierMode e (one driveModeOf ts))),
     query := some (.indexed fun e => bare (.barrierModeQuery e)) },
   { name := "PULSE", order := some (.indexed fun e ts => some (.barrierPulse e (one settingOf ts))),
     query := some (.indexed fun e => bare (.barrierPulseQuery e)) },
   { name := "TRAVEL", order := some (.indexed fun e ts => some (.barrierTravel e (one settingOf ts))),
     query := some (.indexed fun e => bare (.barrierTravelQuery e)) },
   { name := "RAISE", order := some (.indexed fun e => bare (.barrierRaise e)) },
   { name := "LOWER", order := some (.indexed fun e => bare (.barrierLower e)) }]

def visitActions : List (Action Int) :=
  [{ name := "OVERSTAY", order := some (.plain fun ts => some (.visitOverstay (one settingOf ts))),
     query := some (.plain (bare .visitOverstayQuery)) },
   { name := "CLOSE", order := some (.plain fun ts => some (.visitClose (one numberOf ts))) },
   { name := "FIND", query := some (.plain fun ts => some (.visitFindQuery (one tagOf ts))) },
   { name := "NEXT", query := some (.plain fun ts => some (.visitNextQuery (one numberOf ts))) },
   { name := "COUNT", query := some (.plain (bare .visitCountQuery)) }]

def tagActions : List (Action Int) :=
  [{ name := "SET", order := some (.indexed fun i ts => some (.tagSet i (tagSetOf ts))) },
   { name := "CLEAR", order := some (.indexed fun i => bare (.tagClear i)) },
   { name := "POLICY", order := some (.plain fun ts => some (.tagPolicy (one policyOf ts))),
     query := some (.plain (bare .tagPolicyQuery)) },
   { name := "MATCH", query := some (.plain fun ts => some (.tagMatchQuery (one tagOf ts))) }]

def tareActions : List (Action Int) :=
  [{ name := "SET", order := some (.plain fun ts => some (.tareSet (two tagOf numberOf ts))) },
   { name := "CLEAR", order := some (.plain fun ts => some (.tareClear (one tagOf ts))) },
   { name := "FIND", query := some (.plain fun ts => some (.tareFindQuery (one tagOf ts))) },
   { name := "COUNT", query := some (.plain (bare .tareCountQuery)) },
   { name := "EXPIRY", order := some (.plain fun ts => some (.tareExpiry (one settingOf ts))),
     query := some (.plain (bare .tareExpiryQuery)) }]

def accountActions : List (Action Int) :=
  [{ name := "ADD", order := some (.indexed fun n ts => some (.accountAdd n (addOf ts))) },
   { name := "DELETE", order := some (.indexed fun n => bare (.accountDelete n)) },
   { name := "CREDIT", order := some (.indexed fun n ts => some (.accountCredit n (one numberOf ts))) },
   { name := "LIMIT", order := some (.indexed fun n ts => some (.accountLimit n (one numberOf ts))) },
   { name := "CLASSES", order := some (.indexed fun n ts => some (.accountClasses n (classesOf ts))) },
   { name := "STATUS", order := some (.indexed fun n ts => some (.accountStatus n (one statusOf ts))) },
   { name := "NEXT", query := some (.plain fun ts => some (.accountNextQuery (one numberOf ts))) },
   { name := "COUNT", query := some (.plain (bare .accountCountQuery)) }]

/-- NAME takes text: a line that carries one is read by `readText` and not here. -/
def classActions : List (Action Int) :=
  [{ name := "NAME" },
   { name := "RATES", order := some (.indexed fun c ts => some (.classRates c (two numberOf numberOf ts))) },
   { name := "MINIMUM", order := some (.indexed fun c ts => some (.classMinimum c (one numberOf ts))) },
   { name := "LAYOUT", order := some (.indexed fun c ts => some (.classLayout c (one numberOf ts))) },
   { name := "STAGES", order := some (.indexed fun c ts => some (.classStages c (one numberOf ts))) },
   { name := "ONEPASS", order := some (.indexed fun c ts => some (.classOnepass c (one yesNoOf ts))) },
   { name := "TAREUPDATE",
     order := some (.indexed fun c ts => some (.classTareupdate c (one yesNoOf ts))) }]

/-- JOURNAL PURGE ENABLE and JOURNAL PURGE n (R160, R161). -/
def purgeOf (ts : List Text) : Instr :=
  if ts = ["ENABLE".toList] then .journalPurgeEnable else .journalPurge (one numberOf ts)

def journalActions : List (Action Unit) :=
  [{ name := "PREFER", order := some (.plain fun ts => some (.journalPrefer (one preferOf ts))),
     query := some (.plain (bare .journalPreferQuery)) },
   { name := "LOW", order := some (.plain fun ts => some (.journalLow (one settingOf ts))),
     query := some (.plain (bare .journalLowQuery)) },
   { name := "EXPORTED", order := some (.plain fun ts => some (.journalExported (one numberOf ts))),
     query := some (.plain (bare .journalExportedQuery)) },
   { name := "RETAIN", order := some (.plain fun ts => some (.journalRetain (one settingOf ts))),
     query := some (.plain (bare .journalRetainQuery)) },
   { name := "PURGE", order := some (.plain fun ts => some (purgeOf ts)) },
   { name := "PAGE", last := some (.plain fun ts => some (.journalPageQuery (one numberOf ts))) },
   { name := "READ", order := some (.plain fun ts => some (.journalRead (one numberOf ts))) },
   { name := "NEXT", query := some (.plain (bare .journalNextQuery)) }]

def outcomeActions : List (Action Unit) :=
  [{ name := "TAKE", order := some (.plain fun ts => some (.outcomeTake (one numberOf ts))) },
   { name := "COUNT", query := some (.plain (bare .outcomeCountQuery)) },
   { name := "HIGH", order := some (.plain fun ts => some (.outcomeHigh (one settingOf ts))),
     query := some (.plain (bare .outcomeHighQuery)) },
   { name := "ATTN", order := some (.plain fun ts => some (.outcomeAttn (one settingOf ts))),
     query := some (.plain (bare .outcomeAttnQuery)) }]

def reportActions : List (Action Unit) :=
  [{ name := "TAKE", order := some (.plain fun ts => some (.reportTake (one numberOf ts))) },
   { name := "COUNT", query := some (.plain (bare .reportCountQuery)) },
   { name := "MODE", order := some (.plain fun ts => some (.reportMode (two groupOf reportModeOf ts))),
     query := some (.plain fun ts => some (.reportModeQuery (one groupOf ts))) }]

def faultActions : List (Action FaultSource) :=
  [{ name := "CLEAR", order := some (.plain fun ts => some (.faultClear (one sourceOf ts))) }]

def ticketActions : List (Action Deck) :=
  [{ name := "UNCOLLECTED",
     order := some (.indexed fun d ts => some (.ticketUncollected d (one settingOf ts))),
     query := some (.indexed fun d => bare (.ticketUncollectedQuery d)) },
   { name := "REPRINT", order := some (.indexed fun d ts => some (.ticketReprint d (one numberOf ts))) }]

/-- LINE takes text: a line that carries one is read by `readText` and not here. -/
def layoutActions : List (Action Int) :=
  [{ name := "LINE" }, { name := "CLEAR", order := some (.indexed fun n => bare (.layoutClear n)) }]

def calActions : List (Action Deck) :=
  [{ name := "MAX", order := some (.indexed fun d ts => some (.calMax d (one numberOf ts))) },
   { name := "INTERVAL", order := some (.indexed fun d ts => some (.calInterval d (one numberOf ts))) },
   { name := "TRIM", order := some (.indexed fun d ts => some (.calTrim d (two numberOf numberOf ts))) },
   { name := "CELLS", order := some (.indexed fun d ts => some (.calCells d (numbers ts))) },
   { name := "ZERO", order := some (.indexed fun d => bare (.calZero d)) },
   { name := "SPAN", order := some (.indexed fun d ts => some (.calSpan d (one numberOf ts))) },
   { name := "K", order := some (.indexed fun d ts => some (.calK d (one numberOf ts))) },
   { name := "Z0", order := some (.indexed fun d ts => some (.calZ0 d (one numberOf ts))) },
   { name := "PARAM", query := some (.indexed fun d => bare (.calParamQuery d)) }]

def metroActions : List (Action Unit) :=
  [{ name := "LOCK", order := some (.plain (bare .metroLock)) }]

def clockActions : List (Action Unit) :=
  [{ name := "SET", order := some (.plain fun ts => some (.clockSet (clockOf ts))) }]

def partActions : List (Action Unit) :=
  [{ name := "SCAN", order := some (.plain fun ts => some (.partScan (one settingOf ts))),
     query := some (.plain (bare .partScanQuery)) },
   { name := "POLARITY",
     order := some (.plain fun ts => some (.partPolarity (two partLineOf polarityOf ts))),
     query := some (.plain fun ts => some (.partPolarityQuery (one partLineOf ts))) },
   { name := "START", order := some (.plain (bare .partStart)) },
   { name := "STOP", order := some (.plain (bare .partStop)) },
   { name := "AUTOSTART", order := some (.plain fun ts => some (.partAutostart (one yesNoOf ts))),
     query := some (.plain (bare .partAutostartQuery)) },
   { name := "RESET", order := some (.plain (bare .partReset)) },
   { name := "ID", query := some (.plain (bare .partIdQuery)) }]

def linkActions : List (Action Unit) :=
  [{ name := "BAUD", order := some (.plain fun ts => some (.linkBaud (one settingOf ts))),
     query := some (.plain (bare .linkBaudQuery)) },
   { name := "PARITY", order := some (.plain fun ts => some (.linkParity (one parityOf ts))),
     query := some (.plain (bare .linkParityQuery)) },
   { name := "SILENCE", order := some (.plain fun ts => some (.linkSilence (one silenceOf ts))),
     query := some (.plain (bare .linkSilenceQuery)) }]

/-- The subjects with their readers (R187). DESIGN CHOICE: under FAULT a word that names no source and does
not begin with a digit is an action keyword, ER 10 (log entry 39). -/
def subjects : List (String × (Word → List Word → Reading)) :=
  [("DECK", readIndexed deckIndex (some .deckQuery) deckActions),
   ("END", readIndexed endIndex (some .endQuery) endActions),
   ("BARRIER", readIndexed endIndex (some .barrierQuery) barrierActions),
   ("VISIT", readOptional startsWithDigit numberIndex none .visitQuery visitActions),
   ("TAG", readOptional startsWithDigit numberIndex none .tagQuery tagActions),
   ("TARE", readOptional startsWithDigit numberIndex none .tareIndexQuery tareActions),
   ("ACCOUNT", readOptional startsWithDigit numberIndex none .accountQuery accountActions),
   ("CLASS", readIndexed numberIndex (some .classQuery) classActions),
   ("JOURNAL", readPlain (some .journalQuery) journalActions),
   ("OUTCOME", readPlain (some .outcomeQuery) outcomeActions),
   ("REPORT", readPlain (some .reportQuery) reportActions),
   ("FAULT", readOptional (fun t => startsWithDigit t || (sourceOf t).isSome) sourceIndex
      (some .faultQuery) (fun f => .faultSourceQuery (some f)) faultActions),
   ("TICKET", readIndexed deckIndex (some .ticketQuery) ticketActions),
   ("LAYOUT", readIndexed numberIndex none layoutActions),
   ("CAL", readIndexed deckIndex none calActions),
   ("METRO", readPlain (some .metroQuery) metroActions),
   ("CLOCK", readPlain (some .clockQuery) clockActions),
   ("PART", readPlain none partActions),
   ("LINK", readPlain (some .linkQuery) linkActions)]

/-- The subject keywords. -/
def subjectNames : List String := subjects.map (·.1)

/-! ### Reading a line -/

/-- A line of LAYOUT n LINE (R171): the words after LINE, and the line itself. A mark standing alone in the
place of k ends the word LINE, where no command has one (R187). DESIGN CHOICE: words after k? are parameters
too many (log entry 44). -/
def readLayoutLine (n : Int) (t : Text) : List Text → Reading
  | [] => .command (.layoutLine n none [])
  | k :: more =>
    if k = ['?'] then .wrong .syntaxError
    else if (markWord k).query then
      .command (.layoutLineQuery n (if more.isEmpty then numberOf (markWord k).chars else none))
    else .command (.layoutLine n (numberOf k) ((afterWords 4 t).drop 1))

/-- A line whose parameter is text: CLASS c NAME and LAYOUT n LINE (R139, R171, R189). The text is kept as
it stands, so that it is read before the marks are. -/
def readText (t : Text) : List Text → Option Reading
  | w :: x :: a :: rest =>
    let index (f : Int → Reading) : Reading :=
      match numberOf x with
      | some n => f n
      | none => .wrong .syntaxError
    if isKeyword subjectNames "CLASS" (upper w)
        && isKeyword (classActions.map (·.name)) "NAME" (upper a) then
      some (index fun n => .command (.className n (afterWords 3 t)))
    else if isKeyword subjectNames "LAYOUT" (upper w)
        && isKeyword (layoutActions.map (·.name)) "LINE" (upper a) then
      some (index fun n => readLayoutLine n t rest)
    else none
  | _ => none

/-- Read the subject and what follows it (R187, R188). -/
def readWords : List Word → Reading
  | [] => .wrong .syntaxError
  | w :: ws =>
    match subjects.find? fun p => isKeyword subjectNames p.1 w.chars with
    | none => .wrong .syntaxError
    | some p => p.2 w ws

/-- Read a correctly framed line (R187 to R189). -/
def readLine (t : Text) : Reading :=
  match readText t (splitWords t) with
  | some r => r
  | none => readWords (markWords ((splitWords t).map upper))

end Sys2Proof.Machine
end

