-- ==== Sys2Proof/Machine/Capture.lean ====
section
/-! DEFINITION. Chapter 2, capture and staged weighing: the request, the grant test on each published
set, the grants, withdrawal, the beams and the chapter's command lines; and the slot end, which
publishes a deck's set to the capture logic. -/

namespace Sys2Proof.Machine

/-! ### Request and withdrawal (R27, R39, R40) -/

/-- The sequencer's capture request is taken (R27): the stage count is read from the tariff table now. -/
def captureRequest (d : Deck) (r : CaptureRequest) (s : State) : State :=
  s.modCapture d fun c =>
    { c with
      state := .waiting
      request := some r
      stageCount := if c.staged then (s.cls r.cls).stages else 1
      stage := 1
      stages := []
      motion := false
      blocking := some (if c.orphan then .append else .next)
      grantDue := none }

/-- A capture logic in IDLE with nothing sought; `orphan` says an append it requested goes on. -/
def Capture.toIdle (c : Capture) (orphan : Bool) : Capture :=
  { c with state := .idle, request := none, stageCount := 1, stage := 1, stages := [], motion := false,
           blocking := none, drawForward := false, flashLit := false, grantDue := none,
           weighValue := 0, orphan := orphan }

/-- An append of the capture logic is pending or in progress. -/
def Capture.writing (c : Capture) : Bool :=
  match c.state with
  | .stageWrite | .weighWrite => true
  | .idle | .waiting => false

/-- Withdrawal, and DECK x RESET at the capture logic (R39, R40): an append already requested goes on. -/
def Capture.withdraw (c : Capture) : Capture := c.toIdle (c.orphan || c.writing)

/-! ### The grant test (R29 to R33) -/

/-- The capture seeks the weighing's last stage. -/
def Capture.final (c : Capture) : Bool := decide (c.stageCount ≤ c.stage)

/-- The value of the stage before (R33). -/
def Capture.lastValue (c : Capture) : Int :=
  match c.stages.getLast? with
  | some en => en.value
  | none => 0

/-- The sum of the stage values granted (R33). -/
def Capture.total (c : Capture) : Int := (c.stages.map (·.value)).foldl (· + ·) 0

/-- The conditions of R29 in order, each with its blocking word: whether it fails on a published set. -/
def grantFailures (s : State) (d : Deck) (p : Published) : List (Bool × BlockWord) :=
  let u := s.deck d
  let c := u.capture
  let e : Int := u.params.interval
  let max : Int := u.params.max
  let later := decide (2 ≤ c.stage)
  [(s.oos d, .oos),
   (!s.bothDown d, .barrier),
   (p.invalid, .invalid),
   (p.overload, .overload),
   (p.underload, .underload),
   (!p.stable, .unstable),
   (decide (p.disp < 20 * e), .light),
   (decide (max < p.disp), .heavy),
   (later && !c.motion, .motion),
   (later && decide (((p.disp - c.lastValue).natAbs : Int) < 10 * e), .diff),
   (c.final && (u.lines.beam1 || u.lines.beam2), .beam),
   (c.final && later && decide (3 * max < c.total + p.disp), .total)]

/-- The blocking word of a published set, none when every condition holds (R29). The condition of
NOSET holds on every published set. -/
def blockingOf (s : State) (d : Deck) (p : Published) : Option BlockWord :=
  ((grantFailures s d p).find? (·.1)).map (·.2)

/-- A published set sets motion seen (R32). -/
def Capture.seeMotion (c : Capture) (stable : Bool) : Capture :=
  if stable then c
  else if c.state = .stageWrite ∨ (c.state = .waiting ∧ 2 ≤ c.stage) then { c with motion := true }
  else c

/-- The capture logic evaluates a published set for a grant (R29): WAITING, no orphaned append (R27),
and no grant already due. -/
def Capture.evaluates (c : Capture) : Bool :=
  c.state == .waiting && !c.orphan && c.grantDue.isNone

/-- The capture logic takes a published set (R29, R32): it notes the blocking word, or that the grant
is due on the set's D. -/
def evaluateSet (d : Deck) (s : State) : State :=
  match (s.deck d).wcu.latest with
  | none => s
  | some p =>
    let s1 := s.modCapture d fun c => c.seeMotion p.stable
    if (s1.deck d).capture.evaluates then
      match blockingOf s1 d p with
      | some w => s1.modCapture d fun c => { c with blocking := some w }
      | none => s1.modCapture d fun c => { c with blocking := some .append, grantDue := some p.disp }
    else s1

/-! ### The slot end (R4 to R6, R9, R21, R29, R108) -/

/-- The not-clear test of a published set (R108). -/
def notClearTest (d : Deck) (s : State) : State :=
  let u := s.deck d
  match u.wcu.latest with
  | none => s
  | some p =>
    if p.empty then s.modDeck d fun u => { u with notClear := false }
    else if s.part.run = true ∧ u.settings.mode ≠ .closed ∧ u.seq.state = .idle ∧ u.notClear = false
    then offer .deckNotClear (.deck d) [] (s.modDeck d fun u => { u with notClear := true })
    else s

/-- A completed set is published, tracked and handed to its readers (R6, R9, R21, R29, R108). -/
def publishSet (d : Deck) (s : State) : State :=
  let s1 := s.modDeck d fun u => { u.clearDelivered with wcu := u.publish }
  evaluateSet d (notClearTest d (zeroTrack d s1))

/-- SLOT_END (R4 to R6). -/
def execSlotEnd (d : Deck) (s : State) : Result State :=
  let s1 := slotChannels d s
  if (s1.deck d).setComplete then .next (publishSet d s1) else .next s1

/-! ### The grants (R31, R36) -/

/-- A non-final stage is granted (R31). -/
def stageGrant (d : Deck) (r : CaptureRequest) (v : Int) (s : State) : State :=
  let c := (s.deck d).capture
  journalRequest (.capture d) (some d) (.stage v c.stage r.tag r.visit)
    (s.modCapture d fun c =>
      { c with
        stages := c.stages ++ [{ value := v, seq := none }]
        motion := false
        flashLit := if c.drawForward then c.flashLit else true
        drawForward := true
        state := .stageWrite
        blocking := some .append
        grantDue := none })

/-- The capture logic in WEIGH_WRITE (R36). -/
def Capture.toWeighWrite (c : Capture) (value : Int) : Capture :=
  { c with state := .weighWrite, blocking := some .append, drawForward := false, flashLit := false,
           grantDue := none, weighValue := value }

/-- The last capture is granted (R36): the sequencer goes to COMMITTING (R112). -/
def lastCapture (d : Deck) (r : CaptureRequest) (v : Int) (s : State) : State :=
  let c := (s.deck d).capture
  let s1 := s.modSeq d fun q => { q with state := .committing, weighTimer := .stopped }
  if c.stageCount = 1 then
    journalRequest (.capture d) (some d) (.weigh v r.role r.tag r.visit [])
      (s1.modCapture d fun c => c.toWeighWrite v)
  else
    journalRequest (.capture d) (some d) (.stage v c.stage r.tag r.visit)
      (s1.modCapture d fun c =>
        { c.toWeighWrite (c.total + v) with stages := c.stages ++ [{ value := v, seq := none }] })

/-- CAPTURE_GRANT (R29, R31, R36): the grant due on the latest set is carried out. -/
def execCaptureGrant (d : Deck) (s : State) : Result State :=
  let c := (s.deck d).capture
  match c.grantDue, c.request with
  | some v, some r =>
    if c.state = .waiting then
      if c.final then .next (lastCapture d r v s) else .next (stageGrant d r v s)
    else .next s
  | _, _ => .next s

/-- LAMP_FLASH_TOGGLE (R35): while draw-forward is on the departure lamp's GREEN changes state. -/
def execLampFlashToggle (d : Deck) (s : State) : Result State :=
  if (s.deck d).capture.drawForward then
    .next (s.modCapture d fun c => { c with flashLit := !c.flashLit })
  else .next s

/-- BEAM_CHANGE (R30, R59). -/
def execBeamChange (d : Deck) (n : EndNo) (interrupted : Bool) (s : State) : Result State :=
  .next (s.modDeckLines d fun l =>
    match n with
    | .one => { l with beam1 := interrupted }
    | .two => { l with beam2 := interrupted })

/-! ### The chapter's command lines (R28, R30, R42) -/

/-- DECK x STAGED (R28). -/
def execDeckStaged (d : Deck) (yes : Option Bool) (s : State) : Result State :=
  laneWrite s (writeWord yes (fun v s => s.modCapture d fun c => { c with staged := v }) s)

/-- DECK x STAGED? (R28). -/
def execDeckStagedQuery (d : Deck) (s : State) : Result State :=
  answer (.ok [yesNo (s.deck d).capture.staged]) s

/-- CLEAR or BROKEN. -/
def beamWord (b : Bool) : String := if b then "BROKEN" else "CLEAR"

/-- DECK x BEAMS? (R30). -/
def execDeckBeamsQuery (d : Deck) (s : State) : Result State :=
  answer (.ok [beamWord (s.deck d).lines.beam1, beamWord (s.deck d).lines.beam2]) s

/-- The pair of a stage list entry: its value, then its sequence or "-" (R42). -/
def StageEntry.fields (en : StageEntry) : List String := [num en.value, dash nat en.seq]

/-- DECK x CAPTURE? (R42). -/
def execDeckCaptureQuery (d : Deck) (s : State) : Result State :=
  let c := (s.deck d).capture
  if c.state = .idle then answer (.ok ["IDLE"]) s
  else
    answer (.ok ([captureWord c.state, nat c.stage, nat c.stageCount, yn c.motion,
      dash blockWord c.blocking] ++ c.stages.flatMap StageEntry.fields)) s

end Sys2Proof.Machine
end

