-- ==== Sys2Proof/Machine/Sequencer.lean ====
section
/-! DEFINITION. Chapter 6, deck transactions: passage through an end, the states of a transaction from
grant to departure, the arbiter, settlement request, release, deck modes, and the chapter's command
lines. The SETTLE completion stands in Machine/Completion.lean, DECK x RESET in Machine/Resets.lean. -/

namespace Sys2Proof.Machine

/-! ### Passage (R109, R111) -/

/-- The passage end of the present state (R109). -/
def Sequencer.passageEnd (q : Sequencer) : Option EndId :=
  match q.state with
  | .entering | .ejecting => q.approach
  | .departing => q.departure
  | .idle | .weighing | .committing | .settling | .ticketing => none

/-- The states in which the tailgate timer runs (R111). -/
def SeqState.tailgated : SeqState → Bool
  | .entering | .departing => true
  | .idle | .weighing | .committing | .settling | .ticketing | .ejecting => false

/-- The sequencer enters a state that moves the vehicle through end `pe` (R109, R111). -/
def enterPassage (d : Deck) (st : SeqState) (pe : EndId) (s : State) : State :=
  let occ := s.safetyOcc pe
  let time := (s.deck d).settings.tailgateTime
  raiseRequest pe (s.modSeq d fun q =>
    { q with
      state := st
      passage := some pe
      passageMark := occ
      lowerRequested := false
      tailgateMark := false
      tailgate := if occ && st.tailgated then .running time else .stopped
      weighTimer := .stopped
      take := .stopped })

/-- Enter DEPARTING through the departure end (R110, R114, R117). -/
def enterDeparting (d : Deck) (s : State) : State :=
  match (s.deck d).seq.departure with
  | some e => enterPassage d .departing e s
  | none => s

/-- Enter EJECTING through the approach end (R113). -/
def enterEjecting (d : Deck) (s : State) : State :=
  match (s.deck d).seq.approach with
  | some e => enterPassage d .ejecting e s
  | none => s

/-- The sequencer learns a safety loop's reading (R109, R111). -/
def seqSafety (e : EndId) (occ : Bool) (s : State) : State :=
  let u := s.deck e.deck
  if u.seq.passageEnd = some e then
    if occ then
      s.modSeq e.deck fun q =>
        { q with
          passageMark := true
          tailgate := if q.state.tailgated then .running u.settings.tailgateTime else q.tailgate }
    else s.modSeq e.deck fun q => { q with tailgate := .stopped }
  else s

/-! ### The states' ends (R110, R112, R119, R120, R127) -/

/-- A visit's holder becomes none when the deck held it (R127). -/
def releaseHolder (d : Deck) (n : Nat) (s : State) : State :=
  s.modVisit n fun v => if v.holder = .deck d then { v with holder := .none } else v

/-- Enter WEIGHING: the capture request is made and the weighing timer starts (R112, R27). -/
def enterWeighing (d : Deck) (s : State) : State :=
  let q := (s.deck d).seq
  let time := (s.deck d).settings.weighingTime
  let s1 := s.modSeq d fun q =>
    { q with state := .weighing, passage := none, lowerRequested := false, tailgate := .stopped,
             weighTimer := .running time }
  match q.role with
  | none => s1
  | some r =>
    captureRequest d
      { role := r, tag := q.tag, visit := q.visit,
        cls := match s.visit? q.visit with
          | some v => v.cls
          | none => 0 } s1

/-- The sequencer enters IDLE, its record cleared; what a reset orphaned stays (R119, R120, R123). -/
def Sequencer.toIdle (q : Sequencer) : Sequencer := { Sequencer.cleared with orphanSettle := q.orphanSettle }

/-- A transaction ends: the DEPARTED report, the approach end back in IDLE with the test of R85, and the
sequencer in IDLE (R119, R120). DESIGN CHOICE: an EJECTED report carries the role and the visit number too
(log entry 41); its subject is log entry 13. -/
def endTransaction (d : Deck) (word : String) (s : State) : State :=
  let q := (s.deck d).seq
  match q.approach, q.departure with
  | some ae, some de =>
    let s1 := offer .departed (.atEnd de) [dash roleWord q.role, nat q.visit, word]
      (releaseHolder d q.visit s)
    (wakeTest ae (endIdle ae s1)).modSeq d Sequencer.toIdle
  | _, _ => s

/-- The state of a passage ends: its barrier is DOWN with the lower requested (R109, R110, R119, R120). -/
def passageEnds (d : Deck) (s : State) : State :=
  let q := (s.deck d).seq
  match q.state with
  | .entering => if q.role = some .pass then enterDeparting d s else enterWeighing d s
  | .departing =>
    endTransaction d "THROUGH" (if q.role = some .pass then s.removeVisit q.visit else s)
  | .ejecting => endTransaction d "EJECTED" s
  | .idle | .weighing | .committing | .settling | .ticketing => s

/-- The sequencer learns that a barrier has reached DOWN (R109): the state ends when its lower was
requested; otherwise a new raise request is sent. -/
def seqBarrierDown (e : EndId) (s : State) : State :=
  let q := (s.deck e.deck).seq
  if q.passageEnd = some e then
    if q.lowerRequested then passageEnds e.deck s else raiseRequest e s
  else s

/-- Carry out what a barrier does, and tell the sequencer when that brings it to DOWN. -/
def withDown (e : EndId) (f : State → State) (s : State) : State :=
  let s1 := f s
  if !s.barrierDown e && s1.barrierDown e then seqBarrierDown e s1 else s1

/-- The loop condition of a state's passage (R109, R110, R119, R120). -/
def Sequencer.loopCondition (q : Sequencer) (occ : Bool) : Bool :=
  match q.state with
  | .entering | .departing => q.passageMark && !occ
  | .ejecting => (q.passageMark || q.unmarked) && !occ
  | .idle | .weighing | .committing | .settling | .ticketing => false

/-- The further condition a state names: DEPARTING and EJECTING wait for the deck to be empty (R119,
R120). -/
def SeqState.waitsEmpty : SeqState → Bool
  | .departing | .ejecting => true
  | .idle | .entering | .weighing | .committing | .settling | .ticketing => false

/-- Passage through the passage end is complete (R109). -/
def State.passageDone (s : State) (d : Deck) (e : EndId) : Bool :=
  let q := (s.deck d).seq
  !q.lowerRequested && q.loopCondition (s.safetyOcc e)
    && (!q.state.waitsEmpty || (s.deck d).readsEmpty)

/-- PASSAGE_COMPLETE (R109): passage permission is withdrawn and the passage end's barrier lowered; a
barrier already DOWN ends the state at once (log entry 12). -/
def execPassageComplete (d : Deck) (s : State) : Result State :=
  match (s.deck d).seq.passageEnd with
  | none => .next s
  | some e =>
    if s.passageDone d e then
      let s1 := lowerRequest e (s.modSeq d fun q => { q with passage := none, lowerRequested := true })
      .next (if s1.barrierDown e then passageEnds d s1 else s1)
    else .next s

/-! ### Modes (R96, R101 to R103) -/

/-- The deck becomes CLOSED (R102, R96). -/
def becomeClosed (d : Deck) (s : State) : State :=
  closeEnds d (s.modSettings d fun t => { t with mode := .closed, closePending := false })

/-- A pending close completes while the sequencer is IDLE (R102). -/
def completeClose (d : Deck) (s : State) : State :=
  if (s.deck d).settings.closePending = true ∧ (s.deck d).seq.state = .idle then becomeClosed d s else s

/-- CLOSE_COMPLETE (R102). -/
def execCloseComplete (d : Deck) (s : State) : Result State := .next (completeClose d s)

/-- DECK x CLOSE (R101, R102). -/
def execDeckClose (d : Deck) (s : State) : Result State :=
  if (s.deck d).settings.mode = .closed then answer (.ok ["CLOSED"]) s
  else if (s.deck d).seq.state = .idle then answer (.ok ["CLOSED"]) (becomeClosed d s)
  else answer (.ok ["CLOSING"]) (s.modSettings d fun t => { t with closePending := true })

/-- The mode an OPEN gives. -/
def openMode : OpenMode → DeckMode
  | .inOnly => .inOnly
  | .outOnly => .outOnly
  | .both => .both

/-- Both barriers of a deck are sent a lower request (R78). DESIGN CHOICE: end 1 first (log entry 45). -/
def lowerBoth (d : Deck) (s : State) : State :=
  lowerRequest (d.endAt .two) (lowerRequest (d.endAt .one) s)

/-- DECK x OPEN mode (R101 in SETUP, R103 in RUN; R78, R96). The form of the parameter is judged before
the entry's own conditions (R190, log entry 22). DESIGN CHOICE: the barriers, and then the tests of R85,
end 1 before end 2 (log entry 45). -/
def execDeckOpen (d : Deck) (m : Option OpenMode) (s : State) : Result State :=
  match m with
  | none => refuse .param s
  | some w =>
    let t := (s.deck d).settings
    if s.part.run = true ∧ t.closePending = true then refuse .busy s
    else if s.part.run = true ∧ t.mode ≠ .closed then refuse .state s
    else
      let s1 := s.modSettings d fun t => { t with mode := openMode w }
      let s2 := if t.mode = .closed then lowerBoth d s1 else s1
      let s3 := wakeTest (d.endAt .two) (wakeTest (d.endAt .one) s2)
      let s4 := if s.part.run then s3.modDeck d fun u => { u with streak := 0 } else s3
      answer (.ok [deckModeWord (openMode w)]) s4

/-- DECK x MODE? (R101). -/
def execDeckModeQuery (d : Deck) (s : State) : Result State :=
  let t := (s.deck d).settings
  answer (.ok (deckModeWord t.mode :: if t.closePending then ["CLOSING"] else [])) s

/-- DECK x INBOUND (R101). -/
def execDeckInbound (d : Deck) (dir : Option Direction) (s : State) : Result State :=
  laneWrite s (writeWord dir (fun v s => s.modSettings d fun t => { t with inbound := v }) s)

/-- DECK x INBOUND? (R101). -/
def execDeckInboundQuery (d : Deck) (s : State) : Result State :=
  answer (.ok [directionWord (s.deck d).settings.inbound]) s

/-! ### The arbiter (R95, R105 to R107) -/

/-- The deck's own conditions for an offer (R105). -/
def State.mayOffer (s : State) (d : Deck) : Bool :=
  let u := s.deck d
  s.part.run && u.seq.state == .idle && u.settings.mode != .closed && !u.settings.closePending
    && u.readsEmpty && s.bothDown d
    && !(s.faults.get (.bar (d.endAt .one))).raised && !(s.faults.get (.bar (d.endAt .two))).raised

/-- The visit of an end's accepted tag. -/
def State.tagVisit (s : State) (e : EndId) : Option Visit :=
  match (s.machine e).tag with
  | some t => s.visitOf? t
  | none => none

/-- A READY end is eligible (R105). -/
def State.eligible (s : State) (e : EndId) : Bool :=
  let m := s.machine e
  m.state == .ready
    && (!s.oos e.deck
      || (m.movement == some .outbound
        && match s.tagVisit e with
          | some v => v.state == .settled
          | none => false))

/-- The end the arbiter chooses among the eligible (R106). -/
def State.chosen (s : State) (d : Deck) : Option EndId :=
  let e1 := d.endAt .one
  let e2 := d.endAt .two
  match s.eligible e1, s.eligible e2 with
  | false, false => none
  | true, false => some e1
  | false, true => some e2
  | true, true =>
    let wanted : Movement :=
      if (s.deck d).streak < (s.deck d).settings.streakLimit then .outbound else .inbound
    if (s.machine e1).movement = some wanted then some e1 else some e2

/-- The streak count after a grant taken (R106). -/
def nextStreak (mv : Movement) (other : EndMachine) (n : Nat) : Nat :=
  match mv with
  | .inbound => 0
  | .outbound =>
    if other.state = .ready ∧ other.movement = some .inbound then min 8 (n + 1) else n

/-- The grant is taken (R95, R107): the end becomes ACTIVE, the visit is the sequencer's, the
transaction record is fixed, and the sequencer enters ENTERING. -/
def takeGrant (d : Deck) (e : EndId) (mv : Movement) (v : Visit) (r : Role) (s : State) : State :=
  let streak := nextStreak mv (s.machine e.other) (s.deck d).streak
  let s1 := s.modVisit v.number fun v =>
    { v with holder := .deck d, state := if r = .second then .leaving else v.state }
  let s2 := s1.modMachine e fun m => { m with state := .active, reason := .none, tag := none, visit := none }
  let s3 := s2.modDeck d fun u =>
    { u with
      streak := streak
      seq := { u.seq.toIdle with role := some r, approach := some e, tag := v.tag, visit := v.number } }
  enterPassage d .entering e s3

/-- The role of an inbound transaction (R107). -/
def inboundRole : VisitKind → Role
  | .twoPass => .first
  | .onePass => .onePass

/-- The chosen end tests the offer (R95): it takes the grant or declines it. -/
def offerEnd (d : Deck) (e : EndId) (s : State) : State :=
  match (s.machine e).movement with
  | some .inbound =>
    match s.firstHold true with
    | some r => holdEnd e r s
    | none =>
      match (s.machine e).visit.bind s.visit? with
      | some v => takeGrant d e .inbound v (inboundRole v.kind) s
      | none => s
  | some .outbound =>
    match s.tagVisit e with
    | none => refer e .noVisit s
    | some v =>
      match v.state with
      | .onSite => takeGrant d e .outbound v .second s
      | .settled => takeGrant d e .outbound v .pass s
      | .admitted | .leaving => refer e .visitBusy s
  | none => s

/-- ARBITER_OFFER (R105 to R107). -/
def execArbiterOffer (d : Deck) (s : State) : Result State :=
  if s.mayOffer d then
    match s.chosen d with
    | some e => .next (offerEnd d e s)
    | none => .next s
  else .next s

/-! ### Cancel, timers, release (R111 to R113, R117, R118) -/

/-- What a cancel, and a reset before the settlement is requested, makes of the visit (R113, R123). -/
def turnBackVisit (q : Sequencer) (s : State) : State :=
  match q.role with
  | some .first | some .onePass => s.removeVisit q.visit
  | some .second => s.modVisit q.visit fun v => { v with state := .onSite, holder := .none }
  | some .pass | none => s

/-- DECK x CANCEL (R113). -/
def execDeckCancel (d : Deck) (s : State) : Result State :=
  let q := (s.deck d).seq
  match q.state with
  | .weighing =>
    answer (.ok []) (enterEjecting d (turnBackVisit q
      ((s.modCapture d Capture.withdraw).modSeq d fun q => { q with unmarked := false })))
  | .entering =>
    answer (.ok []) (enterEjecting d (turnBackVisit q
      (s.modSeq d fun q => { q with unmarked := !q.passageMark })))
  | .idle | .committing | .settling | .ticketing | .departing | .ejecting => refuse .state s

/-- TAILGATE_TIMER_EXPIRY (R111): one TAILGATE report for a state. -/
def execTailgateTimerExpiry (d : Deck) (s : State) : Result State :=
  let q := (s.deck d).seq
  match q.passageEnd with
  | none => .next s
  | some e =>
    if q.tailgate.isRunning then
      let s1 := s.modSeq d fun q => { q with tailgate := .stopped, tailgateMark := true }
      .next (if q.tailgateMark then s1
        else offer .tailgate (.atEnd e) [seqWord q.state, nat q.visit] s1)
    else .next s

/-- WEIGHING_TIMER_EXPIRY (R112): WEIGH_TIMEOUT is reported and the state stays. -/
def execWeighingTimerExpiry (d : Deck) (s : State) : Result State :=
  let q := (s.deck d).seq
  if q.state = .weighing ∧ q.weighTimer.isRunning = true then
    .next (offer .weighTimeout (.deck d)
      [dash roleWord q.role, nat q.visit, dash blockWord (s.deck d).capture.blocking]
      (s.modSeq d fun q => { q with weighTimer := .stopped }))
  else .next s

/-- The release condition is met (R117). -/
def Sequencer.released (q : Sequencer) : Bool :=
  match q.release, q.ticket.map Ticket.progress with
  | .atSettle, _ => true
  | .atPrinted, some .printed | .atPrinted, some .missing | .atPrinted, some .taken => true
  | .atTaken, some .taken | .atTaken, some .missing => true
  | _, _ => false

/-- The vehicle is released (R117): the take timer stops and the sequencer enters DEPARTING. -/
def testRelease (d : Deck) (s : State) : State :=
  if (s.deck d).seq.state = .ticketing ∧ (s.deck d).seq.released = true then enterDeparting d s else s

/-- Enter TICKETING (R116, R117): the release condition is read now and tested at once. -/
def enterTicketing (d : Deck) (s : State) : State :=
  let r := (s.deck d).settings.release
  testRelease d (s.modSeq d fun q => { q with state := .ticketing, release := r })

/-- The ticket unit tells the sequencer of a ticket's progress (R117): only in TICKETING, and only for
its own settlement's ticket. Under AT_TAKEN the take timer starts at PRINTED. -/
def ticketProgress (d : Deck) (sq : Nat) (p : TicketProgress) (s : State) : State :=
  let q := (s.deck d).seq
  let time := (s.deck d).settings.takeTime
  if q.state = .ticketing ∧ q.ticket.map Ticket.seq = some sq then
    testRelease d (s.modSeq d fun q =>
      { q with
        ticket := some { seq := sq, progress := p }
        take := if p = .printed ∧ q.release = .atTaken then .running time else q.take })
  else s

/-- TAKE_TIMER_EXPIRY (R117). -/
def execTakeTimerExpiry (d : Deck) (s : State) : Result State :=
  let q := (s.deck d).seq
  if q.state = .ticketing ∧ q.take.isRunning = true then
    .next (enterDeparting d (offer .ticketNotTaken (.deck d)
      [dash (fun t : Ticket => nat t.seq) q.ticket, nat q.visit] s))
  else .next s

/-- DECK x RELEASE (R118). -/
def execDeckRelease (d : Deck) (s : State) : Result State :=
  if (s.deck d).seq.state = .ticketing then answer (.ok []) (enterDeparting d s) else refuse .state s

/-! ### Committing and settling (R114, R115, R140, R142) -/

/-- The committed weighing is written to its visit and the vehicle leaves (R114). -/
def commitFirst (d : Deck) (w : Committed) (s : State) : State :=
  enterDeparting d (s.modVisit (s.deck d).seq.visit fun v => v.commit w)

/-- A ONE_PASS visit that fails the one-pass test is converted and the vehicle leaves (R114, R142). -/
def convertOnePass (d : Deck) (w : Committed) (s : State) : State :=
  enterDeparting d (s.modVisit (s.deck d).seq.visit fun v => v.convert w)

/-- The committed weighing is handed over in COMMITTING (R114). -/
def handOver (d : Deck) (w : Committed) (s : State) : State :=
  let q := (s.deck d).seq
  let s1 := s.modSeq d fun q => { q with weighing := some w }
  let settling := s1.modSeq d fun q => { q with state := .settling }
  if q.state = .committing then
    match q.role with
    | some .first => commitFirst d w s1
    | some .onePass =>
      match (s.visit? q.visit).bind (·.tare) with
      | some t =>
        if onePassHolds w.value t.value (s.deck d).params.interval then settling
        else convertOnePass d w s1
      | none => convertOnePass d w s1
    | some .second => settling
    | some .pass | none => s
  else s

/-- The settlement of the transaction (R140), from its visit and committed weighing. -/
def State.settlementOf (s : State) (d : Deck) : Option Settlement :=
  let q := (s.deck d).seq
  match s.visit? q.visit, q.weighing, q.role with
  | some v, some g, some .second => v.first.map fun f => settleTwoPass s v f g
  | some v, some g, some .onePass => v.tare.map fun t => settleOnePass s v t g
  | _, _, _ => none

/-- The sequencer asks for a place (R115): SETTLING, without a reservation, none of its earlier SETTLE
appends outstanding, and room in the outcome queue. -/
def State.mayReserve (s : State) (d : Deck) : Bool :=
  let q := (s.deck d).seq
  q.state == .settling && !q.reservation && !q.orphanSettle && s.outcomeRoom

/-- SETTLE_RESERVE (R115, R140): the place is reserved, the settlement computed, its charge pending and
its SETTLE append requested. -/
def execSettleReserve (d : Deck) (s : State) : Result State :=
  if s.mayReserve d then
    match s.settlementOf d with
    | some c =>
      .next (journalRequest (.settle d) (some d) (.settle c)
        (raisePending c (s.modSeq d fun q => { q with reservation := true })))
    | none => .next s
  else .next s

/-! ### Settings and queries (R121, R122) -/

/-- DECK x STREAK (R121). -/
def execDeckStreak (d : Deck) (n : Option SetArg) (s : State) : Result State :=
  writeSetting 1 8 3 n (fun v s => s.modSettings d fun t => { t with streakLimit := v }) s

/-- DECK x STREAK? (R121). -/
def execDeckStreakQuery (d : Deck) (s : State) : Result State :=
  answer (.ok [nat (s.deck d).settings.streakLimit]) s

/-- DECK x TAILGATE (R121). -/
def execDeckTailgate (d : Deck) (sec : Option SetArg) (s : State) : Result State :=
  writeSetting 5 120 20 sec (fun v s => s.modSettings d fun t => { t with tailgateTime := v }) s

/-- DECK x TAILGATE? (R121). -/
def execDeckTailgateQuery (d : Deck) (s : State) : Result State :=
  answer (.ok [nat (s.deck d).settings.tailgateTime]) s

/-- DECK x TIMEOUT (R121). -/
def execDeckTimeout (d : Deck) (sec : Option SetArg) (s : State) : Result State :=
  writeSetting 30 900 180 sec (fun v s => s.modSettings d fun t => { t with weighingTime := v }) s

/-- DECK x TIMEOUT? (R121). -/
def execDeckTimeoutQuery (d : Deck) (s : State) : Result State :=
  answer (.ok [nat (s.deck d).settings.weighingTime]) s

/-- DECK x TAKETIME (R121). -/
def execDeckTaketime (d : Deck) (sec : Option SetArg) (s : State) : Result State :=
  writeSetting 10 300 60 sec (fun v s => s.modSettings d fun t => { t with takeTime := v }) s

/-- DECK x TAKETIME? (R121). -/
def execDeckTaketimeQuery (d : Deck) (s : State) : Result State :=
  answer (.ok [nat (s.deck d).settings.takeTime]) s

/-- DECK x EXIT (R121). -/
def execDeckExit (d : Deck) (r : Option Release) (s : State) : Result State :=
  writeWord r (fun v s => s.modSettings d fun t => { t with release := v }) s

/-- DECK x EXIT? (R121). -/
def execDeckExitQuery (d : Deck) (s : State) : Result State :=
  answer (.ok [releaseWord (s.deck d).settings.release]) s

/-- The wait word of a passage state (R122). -/
def State.passageWait (s : State) (d : Deck) (e : EndId) : String :=
  let q := (s.deck d).seq
  if q.lowerRequested then "LOWER"
  else if (s.driver e).state ≠ .up then "RAISE"
  else if q.state.waitsEmpty && q.loopCondition (s.safetyOcc e) && !(s.deck d).readsEmpty then "EMPTY"
  else "PASSAGE"

/-- The wait word of TICKETING, by the ticket's progress (R122). -/
def ticketWait : Option Ticket → String
  | some { seq := _, progress := .queued } | none => "PRINT"
  | some _ => "TAKE"

/-- The wait word (R122). -/
def State.waitWord (s : State) (d : Deck) : String :=
  let q := (s.deck d).seq
  match q.state, q.passageEnd with
  | .entering, some e | .departing, some e | .ejecting, some e => s.passageWait d e
  | .weighing, _ => "CAPTURE"
  | .committing, _ => "WEIGH"
  | .settling, _ => if q.reservation then "SETTLE" else "ROOM"
  | .ticketing, _ => ticketWait q.ticket
  | _, _ => "NONE"

/-- The seconds left on the running timer of the state (R122). -/
def Sequencer.secondsField (q : Sequencer) : String :=
  match q.state with
  | .entering | .departing => secondsLeft q.tailgate
  | .weighing => secondsLeft q.weighTimer
  | .ticketing => secondsLeft q.take
  | .idle | .committing | .settling | .ejecting => "-"

/-- DECK x? (R122). -/
def execDeckQuery (d : Deck) (s : State) : Result State :=
  let u := s.deck d
  let q := u.seq
  let active := q.state != .idle
  answer (.ok [seqWord q.state, dash roleWord q.role, dash endName q.approach,
    if active then nat q.visit else "-", if active then tagText q.tag else "-",
    deckModeWord u.settings.mode ++ (if u.settings.closePending then "/CLOSING" else ""),
    nat u.streak, commas (s.oosCauses d), s.waitWord d, q.secondsField]) s

end Sys2Proof.Machine
end

