-- ==== Sys2Proof/Machine/Barriers.lean ====
section
/-! DEFINITION. Chapter 4, the rows of barriers, lamps and detectors: loop, feedback and timer events,
pending requests, polarities, and the barrier command lines. -/

namespace Sys2Proof.Machine

/-! ### Loops (R59 to R61, R70, R71) -/

/-- A change of the lines that make the safety reading: a change of the reading is handed to the barrier
driver and to the sequencer (R61). -/
def safetyChange (e : EndId) (f : EndReadings → EndReadings) (s : State) : State :=
  let s1 := s.modLines e f
  match s.safetyOcc e, s1.safetyOcc e with
  | false, true => seqSafety e true (driverSafetyOccupied e s1)
  | true, false => seqSafety e false s1
  | _, _ => s1

/-- The SAFETY line reads active. -/
def safetyActive (e : EndId) (s : State) : State := safetyChange e (fun l => { l with safety := true }) s

/-- The LOOPFAULT line becomes active (R61). DESIGN CHOICE: what the driver and the sequencer do with the
reading, a signal of BAR-xn among it, comes before the signal of LOOP-xn (log entry 48). -/
def loopfaultOn (e : EndId) (s : State) : State :=
  if (s.station e).lines.loopfault then s
  else condArises (.loop e) (safetyChange e (fun l => { l with loopfault := true }) s)

/-- SAFETY_OCCUPIED (R59, R61, R70). -/
def execSafetyOccupied (e : EndId) (s : State) : Result State := .next (safetyActive e s)

/-- SAFETY_CLEAR (R59, R61). What a pending LOWER then does is PENDING_LOWER. -/
def execSafetyClear (e : EndId) (s : State) : Result State :=
  .next (safetyChange e (fun l => { l with safety := false }) s)

/-- LOOPFAULT_ACTIVE (R61). -/
def execLoopfaultActive (e : EndId) (s : State) : Result State := .next (loopfaultOn e s)

/-- LOOPFAULT_INACTIVE (R61): the condition ends and the reading returns to the line's own, in the order
of log entry 48. -/
def execLoopfaultInactive (e : EndId) (s : State) : Result State :=
  if (s.station e).lines.loopfault then
    .next (condEnds (.loop e) (safetyChange e (fun l => { l with loopfault := false }) s))
  else .next s

/-! ### Feedback and timers (R64, R67 to R69, R73) -/

/-- A feedback reading changes. -/
def setFeedback (l : EndReadings) (inp : FeedbackInput) (v : Bool) : EndReadings :=
  match inp with
  | .up => { l with up := v }
  | .down => { l with down := v }

/-- What a driver makes of its feedback (R68, R69), or, in FAULT, its condition (R73). -/
def takeFeedback (e : EndId) (s : State) : State :=
  if (s.driver e).state = .fault then barrierCondition e s else watchFeedback e s

/-- FEEDBACK_CHANGE (R59, R68, R69, R73). -/
def execFeedbackChange (e : EndId) (inp : FeedbackInput) (atPosition : Bool) (s : State) :
    Result State :=
  .next (withDown e (takeFeedback e) (s.modLines e fun l => setFeedback l inp atPosition))

/-- The travel timer expires at a driver (R67, R68). -/
def travelExpires (e : EndId) (s : State) : State :=
  let b := s.driver e
  let s1 := s.modDriver e fun b => { b with travel := .stopped }
  match b.state, b.mode with
  | .raising, .confirmed => enterBarrierFault e .notUp s1
  | .lowering, .confirmed => enterBarrierFault e .notDown s1
  | .raising, _ => s1.modDriver e fun b => { b with state := .up }
  | .lowering, _ => s1.modDriver e fun b => { b with state := .down }
  | .down, _ | .up, _ | .fault, _ => s1

/-- TRAVEL_TIMER_EXPIRY (R67, R68). -/
def execTravelTimerExpiry (e : EndId) (s : State) : Result State :=
  if (s.driver e).travel.isRunning then .next (withDown e (travelExpires e) s) else .next s

/-- The pulse ends: both outputs inactive (R64). -/
def Driver.endPulse (b : Driver) : Driver :=
  { b with pulsing := false, raiseOut := false, lowerOut := false }

/-- PULSE_TIMER_EXPIRY (R64). -/
def execPulseTimerExpiry (e : EndId) (s : State) : Result State :=
  if (s.driver e).pulsing then .next (s.modDriver e Driver.endPulse) else .next s

/-- PENDING_RAISE (R65, R72): executed while the driver and the other barrier of its deck are DOWN. -/
def execPendingRaise (e : EndId) (s : State) : Result State :=
  if (s.driver e).pending = .raise ∧ s.barrierDown e = true ∧ s.barrierDown e.other = true then
    .next (raiseExecuted e s)
  else .next s

/-- PENDING_LOWER (R71): executed as R66 lays down for a clear loop. -/
def execPendingLower (e : EndId) (s : State) : Result State :=
  if (s.driver e).pending = .lower ∧ s.safetyOcc e = false then
    .next (withDown e (lowerRequest e) s)
  else .next s

/-! ### Polarity (R58) -/

/-- The polarity of an end's line. -/
def EndPolarity.get (p : EndPolarity) : EndLine → Polarity
  | .raise => p.raise
  | .lower => p.lower
  | .red => p.red
  | .green => p.green
  | .up => p.up
  | .down => p.down
  | .approach => p.approach
  | .safety => p.safety
  | .loopfault => p.loopfault

/-- Write the polarity of an end's line. -/
def EndPolarity.put (p : EndPolarity) (l : EndLine) (v : Polarity) : EndPolarity :=
  match l with
  | .raise => { p with raise := v }
  | .lower => { p with lower := v }
  | .red => { p with red := v }
  | .green => { p with green := v }
  | .up => { p with up := v }
  | .down => { p with down := v }
  | .approach => { p with approach := v }
  | .safety => { p with safety := v }
  | .loopfault => { p with loopfault := v }

/-- The polarity of a deck's line. -/
def DeckPolarity.get (p : DeckPolarity) : DeckLine → Polarity
  | .beam1 => p.beam1
  | .beam2 => p.beam2
  | .busy => p.busy
  | .paper => p.paper
  | .taken => p.taken

/-- Write the polarity of a deck's line. -/
def DeckPolarity.put (p : DeckPolarity) (l : DeckLine) (v : Polarity) : DeckPolarity :=
  match l with
  | .beam1 => { p with beam1 := v }
  | .beam2 => { p with beam2 := v }
  | .busy => { p with busy := v }
  | .paper => { p with paper := v }
  | .taken => { p with taken := v }

/-- A changed polarity of a line whose change to active is taken at once (R58, R59): a SAFETY or
LOOPFAULT reading that was inactive becomes active now. Every other input's change comes as its own
event (log entry 21). -/
def polarityEffect (e : EndId) (l : EndLine) (s : State) : State :=
  match l with
  | .safety => if (s.station e).lines.safety then s else safetyActive e s
  | .loopfault => loopfaultOn e s
  | .raise | .lower | .red | .green | .up | .down | .approach => s

/-- END xn POLARITY (R58). -/
def execEndPolarity (e : EndId) (p : Option (EndLine × Polarity)) (s : State) : Result State :=
  laneWrite s <|
    match p with
    | none => refuse .param s
    | some (l, v) =>
      if (s.station e).polarity.get l = v then answer (.ok []) s
      else
        answer (.ok []) (polarityEffect e l
          (s.modStation e fun t => { t with polarity := t.polarity.put l v }))

/-- END xn POLARITY? (R58). -/
def execEndPolarityQuery (e : EndId) (l : Option EndLine) (s : State) : Result State :=
  match l with
  | none => refuse .param s
  | some k => answer (.ok [polarityWord ((s.station e).polarity.get k)]) s

/-- DECK x POLARITY (R58). -/
def execDeckPolarity (d : Deck) (p : Option (DeckLine × Polarity)) (s : State) : Result State :=
  laneWrite s (writeWord p
    (fun v s => s.modDeck d fun u => { u with polarity := u.polarity.put v.1 v.2 }) s)

/-- DECK x POLARITY? (R58). -/
def execDeckPolarityQuery (d : Deck) (l : Option DeckLine) (s : State) : Result State :=
  match l with
  | none => refuse .param s
  | some k => answer (.ok [polarityWord ((s.deck d).polarity.get k)]) s

/-- Write the polarity of one of the part's own lines. -/
def Part.putPolarity (p : Part) (l : PartLine) (v : Polarity) : Part :=
  match l with
  | .cal => { p with calPolarity := v }
  | .attn => { p with attnPolarity := v }

/-- PART POLARITY (R58). -/
def execPartPolarity (p : Option (PartLine × Polarity)) (s : State) : Result State :=
  laneWrite s (writeWord p (fun v s => { s with part := s.part.putPolarity v.1 v.2 }) s)

/-- PART POLARITY? (R58). -/
def execPartPolarityQuery (l : Option PartLine) (s : State) : Result State :=
  match l with
  | none => refuse .param s
  | some .cal => answer (.ok [polarityWord s.part.calPolarity]) s
  | some .attn => answer (.ok [polarityWord s.part.attnPolarity]) s

/-! ### The barrier command lines (R62, R63, R76, R77, R79) -/

/-- The outputs a mode requires at rest for the commanded position; any pulse ends (R62, R64). -/
def Driver.inMode (b : Driver) (m : DriveMode) : Driver :=
  let up := decide (b.commanded = .up)
  match m with
  | .pulse => { b with mode := m, pulsing := false, raiseOut := false, lowerOut := false }
  | .hold | .confirmed => { b with mode := m, pulsing := false, raiseOut := up, lowerOut := false }

/-- A change of drive mode takes effect (R62). -/
def changeMode (e : EndId) (m : DriveMode) (s : State) : State :=
  let s1 := s.modDriver e fun b => b.inMode m
  let l := (s.station e).lines
  match (s.driver e).state with
  | .fault => barrierCondition e s1
  | .down => if m = .confirmed ∧ (l.down && !l.up) = false then enterBarrierFault e .notDown s1 else s1
  | .raising | .up | .lowering => s1

/-- BARRIER xn MODE (R62). -/
def execBarrierMode (e : EndId) (m : Option DriveMode) (s : State) : Result State :=
  laneWrite s <|
    match m with
    | none => refuse .param s
    | some v =>
      match (s.driver e).state with
      | .down | .fault =>
        answer (.ok []) (if (s.driver e).mode = v then s else changeMode e v s)
      | .raising | .up | .lowering => refuse .busy s

/-- BARRIER xn MODE? (R62). -/
def execBarrierModeQuery (e : EndId) (s : State) : Result State :=
  answer (.ok [modeWord (s.driver e).mode]) s

/-- BARRIER xn PULSE (R63). -/
def execBarrierPulse (e : EndId) (ms : Option SetArg) (s : State) : Result State :=
  laneWrite s
    (writeSetting 100 2000 500 ms (fun v s => s.modDriver e fun b => { b with pulseWidth := v }) s)

/-- BARRIER xn PULSE? (R63). -/
def execBarrierPulseQuery (e : EndId) (s : State) : Result State :=
  answer (.ok [nat (s.driver e).pulseWidth]) s

/-- BARRIER xn TRAVEL (R63). -/
def execBarrierTravel (e : EndId) (sec : Option SetArg) (s : State) : Result State :=
  writeSetting 1 20 8 sec (fun v s => s.modDriver e fun b => { b with travelTime := v }) s

/-- BARRIER xn TRAVEL? (R63). -/
def execBarrierTravelQuery (e : EndId) (s : State) : Result State :=
  answer (.ok [nat (s.driver e).travelTime]) s

/-- A barrier that already stands or moves up. -/
def BarrierState.upward : BarrierState → Bool
  | .raising | .up => true
  | .down | .lowering | .fault => false

/-- BARRIER xn RAISE (R76): every condition of its table fails with ER 12 STATE. -/
def execBarrierRaise (e : EndId) (s : State) : Result State :=
  let st := (s.driver e).state
  if s.part.run = true ∧ (s.deck e.deck).settings.mode = .closed ∧ st ≠ .fault
      ∧ (s.barrierDown e.other = true ∨ st.upward = true) then
    let s1 := raiseExecuted e s
    answer (.ok [barrierWord (s1.driver e).state]) s1
  else refuse .state s

/-- BARRIER xn LOWER (R77). -/
def execBarrierLower (e : EndId) (s : State) : Result State :=
  if s.part.run = true ∧ (s.deck e.deck).settings.mode = .closed ∧ (s.driver e).state ≠ .fault then
    let s1 := lowerRequest e s
    answer (.ok (barrierWord (s1.driver e).state
      :: if (s1.driver e).pending = .lower then ["PENDING"] else [])) s1
  else refuse .state s

/-- BARRIER xn? (R79). -/
def execBarrierQuery (e : EndId) (s : State) : Result State :=
  let t := s.station e
  let b := t.driver
  answer (.ok [barrierWord b.state, modeWord b.mode, positionWord b.commanded, pendingWord b.pending,
    causeWord b.cause, loopWord (s.safetyOcc e), loopWord t.lines.approach,
    if t.lines.loopfault then "ACTIVE" else "INACTIVE", feedbackWord t.lines, lampWord (s.lamp e)]) s

end Sys2Proof.Machine
end

