-- ==== Sys2Proof/Machine/Printers.lean ====
section
/-! DEFINITION. Chapter 9, tickets and printers: layouts and field markers, the printer port, the job
queue, taking, printer faults, reprints, and the chapter's command lines. -/

namespace Sys2Proof.Machine

/-! ### Layouts and field markers (R169, R170) -/

/-- Right-aligned in a field. -/
def padLeft (w : Nat) (t : Text) : Text := List.replicate (w - t.length) ' ' ++ t

/-- Left-aligned in a field. -/
def padRight (w : Nat) (t : Text) : Text := t ++ List.replicate (w - t.length) ' '

/-- The status marks of a settlement (R170, ~S). -/
def SettleFlags.marks (f : SettleFlags) : Text :=
  [if f.staged then 'S' else '.', if f.presetTare then 'P' else '.', if f.calChanged then 'C' else '.',
   if f.limit then 'L' else '.', if f.manual then 'M' else '.', if f.detached then 'D' else '.',
   if f.deckChange then 'X' else '.']

/-- The second field of a settlement (R170, ~T): the second value, the tare, or spaces. -/
def Settlement.secondText (c : Settlement) : Text :=
  match c.second, c.tare with
  | some v, _ => (num v.1).toList
  | none, some t => (nat t.1).toList
  | none, none => []

/-- The width of a marker's field; none when the letter is no marker (R170). -/
def markerWidth (c : Char) : Option Nat :=
  match c with
  | 'G' | 'T' | 'N' | 'S' => some 7
  | 'C' | 'Q' | 'P' | 'D' => some 10
  | 'B' => some 11
  | 'V' | 'A' => some 6
  | 'K' => some 12
  | 'H' => some 8
  | 'Z' => some 5
  | 'X' => some 4
  | _ => none

/-- The content of a marker's field (R170). -/
def fieldText (name : Text) (j : Job) (c : Char) (w : Nat) : Text :=
  let v := j.values
  match c with
  | 'G' => padLeft w (num v.first.1).toList
  | 'T' => padLeft w v.secondText
  | 'N' => padLeft w (nat v.net).toList
  | 'C' => padLeft w (nat v.charge).toList
  | 'B' => padLeft w (num v.balanceAfter).toList
  | 'Q' => padLeft w (nat j.seq).toList
  | 'V' => padLeft w (nat v.visit).toList
  | 'P' => padRight w (tagChars v.tag)
  | 'A' => padLeft w (nat v.account).toList
  | 'K' => padRight w name
  | 'D' => padRight w (dateText j.stamp.time).toList
  | 'H' => padRight w (timeText j.stamp.time).toList
  | 'Z' => padLeft w (nat j.stamp.count).toList
  | 'S' => padRight w v.flags.marks
  | 'X' => padRight w (if j.copy then "COPY".toList else [])
  | _ => []

/-- A line with its field markers replaced, once, from left to right (R170). -/
def expandLine (name : Text) (j : Job) : Text → Text
  | '~' :: c :: rest =>
    match markerWidth c with
    | some w => fieldText name j c w ++ expandLine name j rest
    | none => '~' :: c :: expandLine name j rest
  | c :: rest => c :: expandLine name j rest
  | [] => []

/-- The printed width of a line (R170): each marker adds its field's width less two. -/
def printedWidth : Text → Nat
  | '~' :: c :: rest =>
    match markerWidth c with
    | some w => w + printedWidth rest
    | none => 2 + printedWidth rest
  | _ :: rest => 1 + printedWidth rest
  | [] => 0

/-- A layout of the store (R169). -/
def State.layout (s : State) (n : Nat) : List Text := s.layouts.getD n emptyLayout

/-- The length of a layout: the number of its highest non-empty line, or 0 (R169). -/
def layoutLength (l : List Text) : Nat := (l.reverse.dropWhile List.isEmpty).length

/-! ### Sending (R172, R174) -/

/-- The form feed that ends a ticket (R172). -/
def formFeed : Char := Char.ofNat 12

/-- The characters of line `n` of a job: its text after replacement, CR and LF, and the form feed after
the last line; a layout of length 0 is the form feed alone (R172). -/
def lineChars (s : State) (j : Job) (n : Nat) : Text :=
  let l := s.layout j.layout
  let len := layoutLength l
  let body :=
    if n ≤ len then
      expandLine (s.cls j.values.cls).name j (l.getD (n - 1) []) ++ [Char.ofNat 13, Char.ofNat 10]
    else []
  if len ≤ n then body ++ [formFeed] else body

/-- The head job starts (R174, R177): a ticket still presented is pushed aside. -/
def startJob (d : Deck) (s : State) : State :=
  match (s.deck d).printer.queue with
  | [] => s
  | j :: _ =>
    let busy := (s.deck d).lines.busy
    let first := lineChars s j 1
    s.modPrinter d fun p =>
      { p with state := .printing, presented := none, uncollected := .stopped, busyAfterEnd := false,
               charGoing := !busy, endTimer := .stopped, send := some { line := 1, rest := first } }

/-- A printer may start its head job (R174, R177). -/
def Printer.mayStart (p : Printer) : Bool :=
  !p.queue.isEmpty
    && match p.state with
      | .ready => true
      | .waitTake => p.uncollected == .expired
      | .printing | .fault => false

/-- PRINTER_JOB_START (R174, R177). -/
def execPrinterJobStart (d : Deck) (s : State) : Result State :=
  if (s.deck d).printer.mayStart then .next (startJob d s) else .next s

/-- PRINTER_CHARACTER_SENT (R172): a character other than the last has been sent; the next starts while
BUSY reads inactive. The class name of a line is read as the line begins (R173). -/
def execPrinterCharacterSent (d : Deck) (s : State) : Result State :=
  let p := (s.deck d).printer
  match p.send, p.queue with
  | some { line := n, rest := _ :: rest }, j :: _ =>
    if p.charGoing = true ∧ p.send ≠ some { line := n, rest := [formFeed] } then
      let pos : SendPosition :=
        if rest.isEmpty then { line := n + 1, rest := lineChars s j (n + 1) }
        else { line := n, rest := rest }
      let busy := (s.deck d).lines.busy
      .next (s.modPrinter d fun p => { p with send := some pos, charGoing := !busy })
    else .next s
  | _, _ => .next s

/-- The last character of the head job has been sent. -/
def Printer.lastSent (p : Printer) : Bool :=
  match p.send with
  | some pos => pos.rest.isEmpty
  | none => false

/-- PRINTER_LAST_CHARACTER_SENT (R175): the end timer starts. -/
def execPrinterLastCharacterSent (d : Deck) (s : State) : Result State :=
  let p := (s.deck d).printer
  match p.send with
  | some { line := n, rest := [c] } =>
    if p.charGoing = true ∧ c = formFeed then
      let busy := (s.deck d).lines.busy
      .next (s.modPrinter d fun p =>
        { p with send := some { line := n, rest := [] }, charGoing := false, endTimer := .running 2,
                 busyAfterEnd := busy })
    else .next s
  | _ => .next s

/-! ### The print of a job (R175, R182) -/

/-- ORIGINAL or COPY. -/
def copyWord (copy : Bool) : String := if copy then "COPY" else "ORIGINAL"

/-- The head job is printed (R175). -/
def jobPrinted (d : Deck) (s : State) : State :=
  match (s.deck d).printer.queue with
  | [] => s
  | j :: rest =>
    let s1 := s.modPrinter d fun p =>
      { p with queue := rest, presented := some j, endTimer := .stopped, send := none,
               charGoing := false, state := .waitTake, uncollected := .running p.uncollectedTime }
    let s2 := offer .ticketPrinted (.deck d) [nat j.seq, copyWord j.copy, nat j.layout] s1
    if j.copy then s2 else ticketProgress d j.seq .printed s2

/-- PRINTER_END_TIMER_EXPIRY (R175): printed when BUSY has not read active since the last character. -/
def execPrinterEndTimerExpiry (d : Deck) (s : State) : Result State :=
  let p := (s.deck d).printer
  if p.state = .printing ∧ p.endTimer.isRunning = true then
    if p.busyAfterEnd then .next (s.modPrinter d fun p => { p with endTimer := .stopped })
    else .next (jobPrinted d s)
  else .next s

/-! ### Printer faults (R178, R179) -/

/-- The PRN condition arises and the printer enters FAULT (R178). -/
def printerFaultEntry (d : Deck) (s : State) : State :=
  condArises (.prn d) (s.modPrinter d fun p =>
    match p.state with
    | .printing =>
      { p with state := .fault, condition := true, send := none, charGoing := false,
               busyAfterEnd := false, endTimer := .stopped }
    | .waitTake => { p with state := .fault, condition := true, uncollected := .stopped }
    | .ready | .fault => { p with state := .fault, condition := true })

/-- The PRN condition begins unless it is present. -/
def printerConditionBegins (d : Deck) (s : State) : State :=
  if (s.deck d).printer.condition then s else printerFaultEntry d s

/-- The PRN condition ends once PAPER and BUSY both read inactive (R178). -/
def printerConditionEnds (d : Deck) (s : State) : State :=
  let u := s.deck d
  if u.printer.condition && !u.lines.paper && !u.lines.busy then
    condEnds (.prn d) (s.modPrinter d fun p => { p with condition := false })
  else s

/-- A printer leaves FAULT when its entry is made CLEAR (R179). -/
def printerFaultExit (d : Deck) (s : State) : State :=
  s.modPrinter d fun p =>
    if p.state = .fault then
      match p.presented with
      | some _ => { p with state := .waitTake, uncollected := .running p.uncollectedTime }
      | none => { p with state := .ready }
    else p

/-- PAPER_CHANGE (R172, R178). -/
def execPaperChange (d : Deck) (active : Bool) (s : State) : Result State :=
  let s1 := s.modDeckLines d fun l => { l with paper := active }
  .next (if active then printerConditionBegins d s1 else printerConditionEnds d s1)

/-- BUSY becomes active (R172, R175, R178): the stuck timer starts. -/
def busyOn (d : Deck) (s : State) : State :=
  (s.modDeckLines d fun l => { l with busy := true }).modPrinter d fun p =>
    { p with stuck := .running 30, busyAfterEnd := p.busyAfterEnd || p.lastSent }

/-- BUSY becomes inactive (R172, R175, R178): the stuck timer stops, a job whose end was awaited is
printed, and otherwise the next character starts. -/
def busyOff (d : Deck) (s : State) : State :=
  let s1 := (s.modDeckLines d fun l => { l with busy := false }).modPrinter d fun p =>
    { p with stuck := .stopped }
  let p := (s1.deck d).printer
  let s2 :=
    if p.state = .printing then
      if p.lastSent then (if p.busyAfterEnd then jobPrinted d s1 else s1)
      else s1.modPrinter d fun p => { p with charGoing := true }
    else s1
  printerConditionEnds d s2

/-- BUSY_CHANGE (R172, R175, R178). -/
def execBusyChange (d : Deck) (active : Bool) (s : State) : Result State :=
  if (s.deck d).lines.busy = active then .next s
  else .next (if active then busyOn d s else busyOff d s)

/-- STUCK_TIMER_EXPIRY (R178): the condition arises while BUSY still reads active. -/
def execStuckTimerExpiry (d : Deck) (s : State) : Result State :=
  let u := s.deck d
  if u.printer.stuck.isRunning then
    let s1 := s.modPrinter d fun p => { p with stuck := .expired }
    .next (if u.lines.busy then printerConditionBegins d s1 else s1)
  else .next s

/-! ### Taking (R176, R177) -/

/-- The presented ticket is taken (R176). -/
def ticketTaken (d : Deck) (s : State) : State :=
  match (s.deck d).printer.presented with
  | none => s
  | some j =>
    let s1 := s.modPrinter d fun p =>
      if p.state = .waitTake then { p with presented := none, uncollected := .stopped, state := .ready }
      else { p with presented := none }
    if j.copy then s1 else ticketProgress d j.seq .taken s1

/-- TAKE_EVENT (R176): TAKEN becoming active; staying active it causes nothing further. -/
def execTakeEvent (d : Deck) (s : State) : Result State :=
  if (s.deck d).lines.taken then .next s
  else .next (ticketTaken d (s.modDeckLines d fun l => { l with taken := true }))

/-- TAKEN_INACTIVE (R176). -/
def execTakenInactive (d : Deck) (s : State) : Result State :=
  .next (s.modDeckLines d fun l => { l with taken := false })

/-- UNCOLLECTED_TIMER_EXPIRY (R177): a job queued then is started at once. -/
def execUncollectedTimerExpiry (d : Deck) (s : State) : Result State :=
  if (s.deck d).printer.uncollected.isRunning then
    let s1 := s.modPrinter d fun p => { p with uncollected := .expired }
    .next (if (s1.deck d).printer.mayStart then startJob d s1 else s1)
  else .next s

/-! ### The job queue (R173, R180) -/

/-- The job of a settlement, with its copy flag (R173). -/
def State.jobOf (s : State) (q : Nat) (copy : Bool) (st : Stamp) (c : Settlement) : Job :=
  { seq := q, layout := (s.cls c.cls).layout, copy := copy, stamp := st, values := c }

/-- A printer's queue has room (R173). -/
def Printer.room (p : Printer) : Bool := decide (p.queue.length < Config.jobCapacity)

/-- A job joins the queue. -/
def joinQueue (d : Deck) (j : Job) (s : State) : State :=
  s.modPrinter d fun p => { p with queue := p.queue ++ [j] }

/-- A settlement's job arrives (R173): it joins the queue, or is missing with a NO_TICKET report. The
progress is what the sequencer is told. -/
def settlementJob (d : Deck) (j : Job) (s : State) : TicketProgress × State :=
  if (s.deck d).printer.room then (.queued, joinQueue d j s)
  else (.missing, offer .noTicket (.deck d) [nat j.seq, nat j.values.visit] s)

/-! ### Resets (R183) -/

/-- A printer started afresh over a BUSY reading (R183): its uncollected time is kept. -/
def Printer.restarted (p : Printer) (busy : Bool) : Printer :=
  { Printer.atReset with
    stuck := if busy then .running 30 else .stopped
    uncollectedTime := p.uncollectedTime }

/-- A printer is restarted with its PRN entry already emptied; a PAPER still active raises the condition
again (R183). -/
def resetPrinter (d : Deck) (s : State) : State :=
  let l := (s.deck d).lines
  let s1 := s.modPrinter d fun p => p.restarted l.busy
  if l.paper then printerFaultEntry d s1 else s1

/-! ### The chapter's command lines (R171, R177, R180, R181) -/

/-- The lines a printer's queue holds a layout for (R171). -/
def Printer.holdsLayout (p : Printer) (n : Nat) : Bool := p.queue.any (·.layout == n)

/-- A job of either printer holds a layout (R171). -/
def State.layoutHeld (s : State) (n : Nat) : Bool :=
  s.decks.a.printer.holdsLayout n || s.decks.b.printer.holdsLayout n

/-- Write a layout. -/
def State.setLayout (s : State) (n : Nat) (l : List Text) : State :=
  { s with layouts := s.layouts.set n l }

/-- LAYOUT n LINE k text (R171), judged in the order of its table. -/
def execLayoutLine (n : Int) (k : Option Int) (text : Text) (s : State) : Result State :=
  match inRange 0 7 n, numIn 1 24 k with
  | some i, some ln =>
    if 40 < text.length ∨ text.all printable = false then refuse .param s
    else if 40 < printedWidth text then refuse .param s
    else if s.layoutHeld i then refuse .busy s
    else answer (.ok [nat (printedWidth text)]) (s.setLayout i ((s.layout i).set (ln - 1) text))
  | _, _ => refuse .param s

/-- LAYOUT n CLEAR (R171). -/
def execLayoutClear (n : Int) (s : State) : Result State :=
  match inRange 0 7 n with
  | none => refuse .param s
  | some i =>
    if s.layoutHeld i then refuse .busy s
    else answer (.ok [nat (layoutLength emptyLayout)]) (s.setLayout i emptyLayout)

/-- LAYOUT n LINE k? (R171). -/
def execLayoutLineQuery (n : Int) (k : Option Int) (s : State) : Result State :=
  match inRange 0 7 n, numIn 1 24 k with
  | some i, some ln =>
    match (s.layout i).getD (ln - 1) [] with
    | [] => answer (.ok []) s
    | c :: cs => answer (.ok [String.ofList (c :: cs)]) s
  | _, _ => refuse .param s

/-- TICKET x UNCOLLECTED (R177). -/
def execTicketUncollected (d : Deck) (sec : Option SetArg) (s : State) : Result State :=
  writeSetting 5 600 60 sec (fun v s => s.modPrinter d fun p => { p with uncollectedTime := v }) s

/-- TICKET x UNCOLLECTED? (R177). -/
def execTicketUncollectedQuery (d : Deck) (s : State) : Result State :=
  answer (.ok [nat (s.deck d).printer.uncollectedTime]) s

/-- TICKET x REPRINT s (R180), judged in the order of its table. -/
def execTicketReprint (d : Deck) (q : Option Int) (s : State) : Result State :=
  match numIn 1 Config.lastSequence q with
  | none => refuse .param s
  | some n =>
    match s.journal.record? n with
    | some { seq := _, stamp := st, body := .settle c } =>
      if (s.deck d).printer.room then
        let s1 := joinQueue d (s.jobOf n true st c) s
        answer (.ok [nat (s1.deck d).printer.queue.length]) s1
      else refuse .full s
    | _ => refuse .notFound s

/-- A copy's mark in a reply. -/
def copyMark (j : Job) : String := if j.copy then "/C" else ""

/-- The line being sent, END, or "-" (R181). -/
def Printer.lineField (p : Printer) : String :=
  if p.state = .printing then
    match p.send with
    | some pos => if pos.rest.isEmpty then "END" else nat pos.line
    | none => "-"
  else "-"

/-- The uncollected timer's field (R181). -/
def uncollectedField : Timer → String
  | .running n => nat n
  | .expired => "EXPIRED"
  | .stopped => "-"

/-- ACT or INACT. -/
def activeWord (b : Bool) : String := if b then "ACT" else "INACT"

/-- TICKET x? (R181). -/
def execTicketQuery (d : Deck) (s : State) : Result State :=
  let p := (s.deck d).printer
  let l := (s.deck d).lines
  answer (.ok [printerWord p.state, dash (fun j => nat j.seq ++ copyMark j) p.presented,
    nat p.queue.length,
    commas (p.queue.map fun j => nat j.seq ++ "/" ++ nat j.layout ++ copyMark j),
    p.lineField, commas [activeWord l.busy, activeWord l.paper, activeWord l.taken],
    uncollectedField p.uncollected]) s

end Sys2Proof.Machine
end

