-- ==== Sys2Proof/Machine/Metro.lean ====
section
/-! DEFINITION. Chapter 3, calibration and the verification lock: the switch's events, the comparison at
power-on, access to the parameters, the calibration commands, CALIB records and the lock. -/

namespace Sys2Proof.Machine

/-! ### Changed flags (R53, R54) -/

/-- The names whose changed flags are set, in R54's order. -/
def ChangedFlags.names (f : ChangedFlags) : List ParamName :=
  (if f.max then [.max] else []) ++ (if f.e then [.e] else []) ++ (if f.k then [.k] else [])
    ++ (if f.z0 then [.z0] else []) ++ (if f.trims.c1 then [.g1] else [])
    ++ (if f.trims.c2 then [.g2] else []) ++ (if f.trims.c3 then [.g3] else [])
    ++ (if f.trims.c4 then [.g4] else []) ++ (if f.cells then [.cells] else [])

/-- Put a changed flag. -/
def ChangedFlags.put (f : ChangedFlags) (n : ParamName) (b : Bool) : ChangedFlags :=
  match n with
  | .max => { f with max := b }
  | .e => { f with e := b }
  | .k => { f with k := b }
  | .z0 => { f with z0 := b }
  | .g1 => { f with trims := { f.trims with c1 := b } }
  | .g2 => { f with trims := { f.trims with c2 := b } }
  | .g3 => { f with trims := { f.trims with c3 := b } }
  | .g4 => { f with trims := { f.trims with c4 := b } }
  | .cells => { f with cells := b }

/-- A parameter differs from its snapshot value (R53). -/
def Params.differs (p snap : Params) (n : ParamName) : Bool :=
  match n with
  | .max => p.max != snap.max
  | .e => p.interval != snap.interval
  | .k => p.span != snap.span
  | .z0 => p.z0 != snap.z0
  | .g1 => p.trims.c1 != snap.trims.c1
  | .g2 => p.trims.c2 != snap.trims.c2
  | .g3 => p.trims.c3 != snap.trims.c3
  | .g4 => p.trims.c4 != snap.trims.c4
  | .cells => p.cells != snap.cells

/-- Any changed flag of either deck is set (R54). -/
def Metro.anyChanged (m : Metro) : Bool :=
  !m.changed.a.names.isEmpty || !m.changed.b.names.isEmpty

/-! ### CALIB records (R54, R55) -/

/-- The names in R54's order. -/
def ParamName.all : List ParamName := [.max, .e, .k, .z0, .g1, .g2, .g3, .g4, .cells]

/-- The union of two lists of names in R54's order (R55). -/
def unionNames (x y : List ParamName) : List ParamName :=
  ParamName.all.filter fun n => x.contains n || y.contains n

/-- A record formed behind a waiting one is merged into it (R55). -/
def CalibBody.merge (w c : CalibBody) : CalibBody :=
  { w with names := ⟨unionNames w.names.a c.names.a, unionNames w.names.b c.names.b⟩ }

/-- A CALIB record is formed (R55): requested at once, or kept waiting, or merged into the waiting one. -/
def formCalib (c : CalibBody) (s : State) : State :=
  match s.metro.inProgress, s.metro.waiting with
  | none, _ =>
    journalRequest .metrology none (.calib c) (s.modMetro fun m => { m with inProgress := some c })
  | some _, none => s.modMetro fun m => { m with waiting := some c }
  | some _, some w => s.modMetro fun m => { m with waiting := some (w.merge c) }

/-- A CALIB append completes (R55): the waiting record, if any, is requested. -/
def calibWritten (s : State) : State :=
  let s1 := s.modMetro fun m => { m with inProgress := m.waiting, waiting := none }
  match s.metro.waiting with
  | some c => journalRequest .metrology none (.calib c) s1
  | none => s1

/-! ### The switch (R44, R52, R54) -/

/-- A switch on event (R52). -/
def switchOnEvent (s : State) : State :=
  offer .calOn .none []
    (s.modMetro fun m =>
      { m with switchOn := true, snapshot := ⟨s.decks.a.params, s.decks.b.params⟩,
               changed := ⟨.none, .none⟩ })

/-- A switch off event (R54). -/
def switchOffEvent (s : State) : State :=
  let s1 := restartBoth (s.modMetro fun m => { m with switchOn := false })
  if s.metro.anyChanged then
    let c : CalibBody :=
      { cause := .switch, names := ⟨s.metro.changed.a.names, s.metro.changed.b.names⟩ }
    let count := min 65535 (s.metro.count + 1)
    let s2 := s1.modMetro fun m => { m with count := count, changed := ⟨.none, .none⟩ }
    offer .calOff .none [nat count, "CHANGED"] (formCalib c s2)
  else offer .calOff .none [nat s.metro.count, "UNCHANGED"] s1

/-- CAL_SWITCH_ON (R44, R52): a change from the stored state, once the comparison of R44 is made. -/
def execCalSwitchOn (s : State) : Result State :=
  if s.metro.compareDue = true ∨ s.metro.switchOn = true then .next s else .next (switchOnEvent s)

/-- CAL_SWITCH_OFF (R44, R54). -/
def execCalSwitchOff (s : State) : Result State :=
  if s.metro.compareDue = true ∨ s.metro.switchOn = false then .next s else .next (switchOffEvent s)

/-- CAL_POWER_UP_COMPARE (R44): the stored switch state is compared with the input. -/
def execCalPowerUpCompare (on : Bool) (s : State) : Result State :=
  if s.metro.compareDue then
    let s1 := s.modMetro fun m => { m with compareDue := false }
    .next (match s.metro.switchOn, on with
      | false, false => s1
      | false, true => switchOnEvent s1
      | true, true => offer .calOn .none [] s1
      | true, false => switchOffEvent s1)
  else .next s

/-! ### Access and writing (R46, R53) -/

/-- A calibration command's access (R46): it is judged before the command's own conditions. DESIGN CHOICE:
it is judged before the form of the parameters too (log entry 38). -/
def calAccess (s : State) (k : Result State) : Result State :=
  if s.metro.switchOn then k
  else if s.metro.lock then refuse .locked s
  else if s.part.run then refuse .state s
  else k

/-- Write a parameter; with the switch on its changed flag follows the snapshot (R46, R53). -/
def putParam (d : Deck) (n : ParamName) (f : Params → Params) (s : State) : State :=
  let s1 := s.modParams d f
  if s.metro.switchOn then
    let differs := (s1.deck d).params.differs (s.metro.snapshot.get d) n
    s1.modMetro fun m => { m with changed := m.changed.set d ((m.changed.get d).put n differs) }
  else s1

/-- Z is set equal to Z0 (R20, R47 to R51). -/
def zeroToCal (d : Deck) (s : State) : State :=
  s.modDeck d fun u => { u with wcu := { u.wcu with zero := u.params.z0 } }

/-- The deck's stability window is emptied (R49 to R51). -/
def emptyStability (d : Deck) (s : State) : State := s.modWcu d Wcu.unsettle

/-- CONSISTENT or INCONSISTENT. -/
def consistentWord (p : Params) : String := if p.consistent then "CONSISTENT" else "INCONSISTENT"

/-- CAL x MAX kg (R47). -/
def execCalMax (d : Deck) (kg : Option Int) (s : State) : Result State :=
  calAccess s <|
    match numIn 1000 150000 kg with
    | none => refuse .param s
    | some v =>
      let s1 :=
        if (s.deck d).params.max = v then s
        else zeroToCal d (putParam d .max (fun p => { p with max := v }) s)
      answer (.ok [nat v, consistentWord (s1.deck d).params]) s1

/-- CAL x INTERVAL e (R47). -/
def execCalInterval (d : Deck) (e : Option Int) (s : State) : Result State :=
  calAccess s <|
    match (numIn 1 100 e).filter intervals.contains with
    | none => refuse .param s
    | some v =>
      let s1 :=
        if (s.deck d).params.interval = v then s
        else putParam d .e (fun p => { p with interval := v }) s
      answer (.ok [nat v, consistentWord (s1.deck d).params]) s1

/-- A channel by its number. -/
def chanOf (n : Int) : Option Chan :=
  if n = 1 then some .c1 else if n = 2 then some .c2 else if n = 3 then some .c3
  else if n = 4 then some .c4 else none

/-- The name of a channel's trim. -/
def trimName : Chan → ParamName
  | .c1 => .g1
  | .c2 => .g2
  | .c3 => .g3
  | .c4 => .g4

/-- CAL x TRIM n g (R48). -/
def execCalTrim (d : Deck) (ng : Option (Int × Int)) (s : State) : Result State :=
  calAccess s <|
    match ng.bind fun p => chanOf p.1, numIn 8192 24576 (ng.map (·.2)) with
    | some ch, some g =>
      let s1 :=
        if (s.deck d).params.trims.get ch = g then s
        else
          restartWindows d (zeroToCal d
            (putParam d (trimName ch) (fun p => { p with trims := p.trims.set ch g }) s))
      answer (.ok ((s1.deck d).params.trims.toList.map nat)) s1
    | _, _ => refuse .param s

/-- A list of distinct channels, at least one, as the set of enabled cells (R48). -/
def cellsOf (ns : List Int) : Option (PerChan Bool) :=
  if ns.isEmpty = false ∧ ns.all (fun n => (chanOf n).isSome) = true ∧ ns.Nodup then
    some ⟨ns.contains 1, ns.contains 2, ns.contains 3, ns.contains 4⟩
  else none

/-- The enabled channel numbers in ascending order. -/
def cellNumbers (c : PerChan Bool) : List String :=
  (Chan.all.filter fun ch => c.get ch).map fun ch => nat ch.num

/-- CAL x CELLS n … (R48). -/
def execCalCells (d : Deck) (ns : Option (List Int)) (s : State) : Result State :=
  calAccess s <|
    match ns.bind cellsOf with
    | none => refuse .param s
    | some c =>
      let s1 :=
        if (s.deck d).params.cells = c then s
        else
          restartWindows d (zeroToCal d (putParam d .cells (fun p => { p with cells := c }) s))
      answer (.ok (cellNumbers c)) s1

/-- Write Z0, set Z equal to it and empty the stability window (R49, R51); the value already held has no
effect (R46). -/
def putZ0 (d : Deck) (z : Int) (s : State) : State :=
  if (s.deck d).params.z0 = z then s
  else emptyStability d (zeroToCal d (putParam d .z0 (fun p => { p with z0 := z }) s))

/-- Write K, set Z equal to Z0 and empty the stability window (R50, R51). -/
def putSpan (d : Deck) (k : Nat) (s : State) : State :=
  if (s.deck d).params.span = k then s
  else emptyStability d (zeroToCal d (putParam d .k (fun p => { p with span := k }) s))

/-- CAL x ZERO (R49). -/
def execCalZero (d : Deck) (s : State) : Result State :=
  calAccess s <|
    if (s.deck d).seq.state ≠ .idle then refuse .busy s
    else
      match (s.deck d).settled with
      | none => answer (.er .refused ["UNSTABLE"]) s
      | some p => answer (.ok [num p.a]) (putZ0 d p.a s)

/-- The greatest span (R45). -/
def greatestSpan : Nat := 2147483647

/-- CAL x SPAN m (R50), judged in the order of its table. -/
def execCalSpan (d : Deck) (m : Option Int) (s : State) : Result State :=
  let p := (s.deck d).params
  calAccess s <|
    match numIn (20 * p.interval) p.max m with
    | none => refuse .param s
    | some mass =>
      if (s.deck d).seq.state ≠ .idle then refuse .busy s
      else
        match (s.deck d).settled with
        | none => answer (.er .refused ["UNSTABLE"]) s
        | some q =>
          if q.a - p.z0 ≤ 0 then answer (.er .refused ["NOLOAD"]) s
          else
            match inRange 1 greatestSpan (rna ((mass * Config.spanUnit : Nat) : Int) (q.a - p.z0).toNat) with
            | none => answer (.er .refused ["RANGE"]) s
            | some k => answer (.ok [nat k]) (putSpan d k s)

/-- CAL x K k (R51). -/
def execCalK (d : Deck) (k : Option Int) (s : State) : Result State :=
  calAccess s <|
    match numIn 1 greatestSpan k with
    | none => refuse .param s
    | some v => answer (.ok [nat v]) (putSpan d v s)

/-- The limit of Z0 either way (R45). -/
def zeroLimit : Int := 50331648

/-- CAL x Z0 z (R51). -/
def execCalZ0 (d : Deck) (z : Option Int) (s : State) : Result State :=
  calAccess s <|
    match z with
    | none => refuse .param s
    | some v =>
      if -zeroLimit ≤ v ∧ v ≤ zeroLimit then answer (.ok [num v]) (putZ0 d v s) else refuse .param s

/-! ### The lock and the queries (R56, R57) -/

/-- METRO LOCK (R56), judged in the order of its table. -/
def execMetroLock (s : State) : Result State :=
  if s.metro.lock then refuse .locked s
  else if s.part.run then refuse .state s
  else if s.metro.switchOn then refuse .state s
  else if s.metro.calibPending then refuse .busy s
  else
    answer (.ok [nat s.metro.count])
      (formCalib { cause := .lock, names := ⟨[], []⟩ } (s.modMetro fun m => { m with lock := true }))

/-- The pending CALIB field (R57). -/
def Metro.pendingWord (m : Metro) : String :=
  match m.inProgress, m.waiting with
  | none, none => "NONE"
  | some _, none => "WRITING"
  | _, some _ => "WRITING+WAITING"

/-- METRO? (R57). -/
def execMetroQuery (s : State) : Result State :=
  let m := s.metro
  answer (.ok [if m.switchOn then "ON" else "OFF", if m.lock then "SET" else "CLEAR", nat m.count,
    m.pendingWord, commas (m.changed.a.names.map paramWord),
    commas (m.changed.b.names.map paramWord)]) s

/-- CAL x PARAM? (R57). -/
def execCalParamQuery (d : Deck) (s : State) : Result State :=
  let u := s.deck d
  let p := u.params
  answer (.ok ([nat p.max, nat p.interval, nat p.span, num p.z0] ++ p.trims.toList.map nat
    ++ [commas (cellNumbers p.cells), consistentWord p, num u.zeroOffset])) s

end Sys2Proof.Machine
end

