-- ==== Sys2Proof/Machine/Completion.lean ====
section
/-! DEFINITION. The completion of an append (R154) and what it does for the requester's owner: captures
(R34, R37), settlements (R116, R133, R146), CALIB records (R55) and the clock (R166). -/

namespace Sys2Proof.Machine

/-! ### Captures (R34, R37, R39, R40, R43) -/

/-- The STAGE report (R43). -/
def stageReport (d : Deck) (q : Nat) (v : Int) (k n : Nat) (s : State) : State :=
  offer .stage (.deck d) [nat k, num v, nat q, nat n] s

/-- The sequence goes into the last entry of the stage list (R34, R37). -/
def stampLast (q : Nat) : List StageEntry → List StageEntry
  | [] => []
  | [en] => [{ en with seq := some q }]
  | en :: rest => en :: stampLast q rest

/-- An append that a withdrawal or reset orphaned completes (R27, R39, R40): nothing else follows, and
a new request's first set is the next one published. -/
def Capture.orphanDone (c : Capture) : Capture :=
  { c with orphan := false, blocking := if c.state = .waiting then some .next else c.blocking }

/-- The completion of a STAGE append (R34, R37). -/
def stageDone (d : Deck) (q : Nat) (v : Int) (k n : Nat) (s : State) : State :=
  let c := (s.deck d).capture
  let s1 := stageReport d q v k n s
  if c.orphan then s1.modCapture d Capture.orphanDone
  else
    let s2 := s1.modCapture d fun c => { c with stages := stampLast q c.stages }
    match c.state, c.request with
    | .stageWrite, _ =>
      s2.modCapture d fun c =>
        { c with stage := c.stage + 1, state := .waiting, blocking := some .next }
    | .weighWrite, some r =>
      journalRequest (.capture d) (some d)
        (.weigh c.weighValue r.role r.tag r.visit ((stampLast q c.stages).filterMap (·.seq))) s2
    | _, _ => s1

/-- The completion of a WEIGH append (R37): CAPTURED, then the committed weighing to the sequencer. -/
def weighDone (d : Deck) (q count : Nat) (v : Int) (role : Role) (n : Nat) (staged : Bool) (s : State) :
    State :=
  let c := (s.deck d).capture
  let s1 := offer .captured (.deck d) [roleWord role, num v, nat q, nat n, yn staged] s
  if c.orphan then s1.modCapture d Capture.orphanDone
  else if c.state = .weighWrite then
    handOver d { value := v, seq := q, deck := d, count := count, staged := staged }
      (s1.modCapture d fun c => c.toIdle false)
  else s1

/-! ### Settlements (R116, R123, R133, R146) -/

/-- The outcome record joins the queue (R203). -/
def placeOutcome (r : Record) (s : State) : State :=
  { s with outcomes := { s.outcomes with queue := s.outcomes.queue ++ [r] } }

/-- The visit of a completed settlement (R116, R126): SETTLED for ONE_PASS, removed otherwise. -/
def settleVisit (c : Settlement) (s : State) : State :=
  match c.kind with
  | .onePass => s.modVisit c.visit fun v => { v with state := .settled, holder := .none }
  | .twoPass | .abandoned => s.removeVisit c.visit

/-- The completion of a deck's SETTLE append (R116, R146): one event. After a DECK x RESET it is carried
out whole but for entering TICKETING (R123). -/
def settleDone (d : Deck) (r : Record) (c : Settlement) (s : State) : State :=
  let orphan := (s.deck d).seq.orphanSettle
  let s1 := placeOutcome r (s.modSeq d fun q =>
    if orphan then { q with orphanSettle := false } else { q with reservation := false })
  let s2 := settleVisit c (updateTare c (debitAccount c s1))
  let s3 := offer .settled (.deck d) (settledParams r.seq c) s2
  let j := settlementJob d (s3.jobOf r.seq false r.stamp c) s3
  if orphan then j.2
  else
    enterTicketing d (j.2.modSeq d fun q => { q with ticket := some { seq := r.seq, progress := j.1 } })

/-- The completion of an ABANDONED SETTLE append (R133). -/
def abandonedDone (r : Record) (c : Settlement) (s : State) : State :=
  let s1 := placeOutcome r (s.modLink fun l => { l with closing := none })
  offer .settled .none (settledParams r.seq c) (settleVisit c s1)

/-! ### The clock (R166) -/

/-- The CLOCK condition is present while the clock is invalid or the battery reads low (R165). -/
def YardClock.faulty (k : YardClock) : Bool := !k.valid || k.batteryLow

/-- The yard clock changes; a change of its condition is signalled (R165). -/
def changeClock (f : YardClock → YardClock) (s : State) : State :=
  let s1 := { s with clock := f s.clock }
  match s.clock.faulty, s1.clock.faulty with
  | false, true => condArises .clock s1
  | true, false => condEnds .clock s1
  | _, _ => s1

/-- The completion of a CLOCK append (R166): the clock takes the new time, becomes valid, and the
overstay test is made. -/
def clockDone (t : YardTime) (s : State) : State :=
  overstayTest (changeClock (fun k => { k with now := t, valid := true }) s)

/-! ### The completion (R148, R149, R154) -/

/-- The slot is written, the record takes its sequence, the page may fill, and the append in progress
becomes none (R148, R149, R154). -/
def Journal.write (j : Journal) (i : Nat) (r : Record) : Journal :=
  { j.useSlot i (.written r) with inProgress := none, nextSeq := j.nextSeq + 1 }

/-- What the requester's owner does at the completion (R154). -/
def ownerDone (rq : Requester) (r : Record) (s : State) : State :=
  match rq, r.body with
  | .capture d, .stage v k _ n => stageDone d r.seq v k n s
  | .capture d, .weigh v role _ n ss => weighDone d r.seq r.stamp.count v role n (!ss.isEmpty) s
  | .settle d, .settle c => settleDone d r c s
  | .link, .settle c => abandonedDone r c s
  | .metrology, .calib _ => calibWritten s
  | .clock, .clock t => clockDone t s
  | _, _ => s

/-- APPEND_COMPLETE (R154): the completion of the append in progress. -/
def execAppendComplete (s : State) : Result State :=
  match s.journal.inProgress, s.journal.current? with
  | some a, some i =>
    let r : Record := { seq := s.journal.nextSeq, stamp := a.stamp, body := a.request.body }
    let s1 := levelReports s.journal (s.modJournal fun j => j.write i r)
    .next (ownerDone a.request.requester r s1)
  | _, _ => .next s

end Sys2Proof.Machine
end

