-- ==== Sys2Proof/Machine/Reports.lean ====
section
/-! DEFINITION. Chapter 11, the rows of outcomes, reports and faults, and the clock's own events. -/

namespace Sys2Proof.Machine

/-! ### The clock's events (R128, R165) -/

/-- A timer one second on (log entry 3). -/
def Timer.tick : Timer → Timer
  | .running n => .running (n - 1)
  | t => t

/-- A station's timers one second on. -/
def Station.tick (t : Station) : Station :=
  { t with
    driver := { t.driver with travel := t.driver.travel.tick }
    machine := { t.machine with
      idTimer := t.machine.idTimer.tick
      decideTimer := t.machine.decideTimer.tick
      clearTimer := t.machine.clearTimer.tick } }

/-- A deck's timers one second on. -/
def DeckUnit.tick (u : DeckUnit) : DeckUnit :=
  { u with
    seq := { u.seq with
      tailgate := u.seq.tailgate.tick
      weighTimer := u.seq.weighTimer.tick
      take := u.seq.take.tick }
    printer := { u.printer with
      endTimer := u.printer.endTimer.tick
      uncollected := u.printer.uncollected.tick
      stuck := u.printer.stuck.tick } }

/-- Every running timer one second on. -/
def tickTimers (s : State) : State :=
  { s with
    decks := ⟨s.decks.a.tick, s.decks.b.tick⟩
    ends := ⟨s.ends.a1.tick, s.ends.a2.tick, s.ends.b1.tick, s.ends.b2.tick⟩
    link := { s.link with silenceTimer := s.link.silenceTimer.tick } }

/-- The clock one second on, holding at its end (R165). -/
def YardClock.advance (k : YardClock) : YardClock := { k with now := min Config.lastSecond (k.now + 1) }

/-- CLOCK_SECOND (R165, R128). -/
def execClockSecond (s : State) : Result State :=
  .next (overstayTest { tickTimers s with clock := s.clock.advance })

/-- BATTERY_MONITOR_CHANGE (R165). -/
def execBatteryMonitorChange (low : Bool) (s : State) : Result State :=
  .next (changeClock (fun k => { k with batteryLow := low }) s)

/-! ### Outcomes (R204, R205) -/

/-- OUTCOME? (R204). -/
def execOutcomeQuery (s : State) : Result State :=
  match s.outcomes.queue with
  | [] => answer (.ok ["EMPTY"]) s
  | r :: _ => answer (.ok r.fields) s

/-- OUTCOME TAKE s (R204). -/
def execOutcomeTake (q : Option Int) (s : State) : Result State :=
  match numIn 1 Config.lastSequence q with
  | none => refuse .param s
  | some n =>
    match s.outcomes.queue with
    | [] => refuse .notFound s
    | r :: rest =>
      if r.seq = n then
        answer (.ok [nat rest.length]) { s with outcomes := { s.outcomes with queue := rest } }
      else refuse .mismatch s

/-- OUTCOME COUNT? (R204). -/
def execOutcomeCountQuery (s : State) : Result State :=
  answer (.ok [nat s.outcomes.queue.length, nat s.reservations, nat s.outcomes.high,
    nat s.outcomes.attn]) s

/-- OUTCOME HIGH n (R205). -/
def execOutcomeHigh (n : Option SetArg) (s : State) : Result State :=
  match n with
  | none => refuse .param s
  | some v =>
    answer (shownReply (v.clamped 8 64) (v.value 8 64 32))
      { s with outcomes := { s.outcomes with high := v.value 8 64 32 } }

/-- OUTCOME HIGH? (R205). -/
def execOutcomeHighQuery (s : State) : Result State := answer (.ok [nat s.outcomes.high]) s

/-- OUTCOME ATTN n (R205). -/
def execOutcomeAttn (n : Option SetArg) (s : State) : Result State :=
  match n with
  | none => refuse .param s
  | some v =>
    answer (shownReply (v.clamped 1 64) (v.value 1 64 1))
      { s with outcomes := { s.outcomes with attn := v.value 1 64 1 } }

/-- OUTCOME ATTN? (R205). -/
def execOutcomeAttnQuery (s : State) : Result State := answer (.ok [nat s.outcomes.attn]) s

/-! ### Reports (R207, R208) -/

/-- A report's fields (R208). -/
def Report.fields (r : Report) : List String :=
  [nat r.number, dateText r.time, timeText r.time, reportWord r.kind, subjectWord r.subject,
   nat r.lost] ++ r.params

/-- REPORT? (R208). -/
def execReportQuery (s : State) : Result State :=
  match s.reports.queue with
  | [] => answer (.ok ["EMPTY"]) s
  | r :: _ => answer (.ok r.fields) s

/-- REPORT TAKE n (R208). -/
def execReportTake (n : Option Int) (s : State) : Result State :=
  match numIn 1 65535 n with
  | none => refuse .param s
  | some k =>
    match s.reports.queue with
    | [] => refuse .notFound s
    | r :: rest =>
      if r.number = k then
        answer (.ok [nat rest.length]) (s.modReports fun q => { q with queue := rest })
      else refuse .mismatch s

/-- REPORT COUNT? (R208). -/
def execReportCountQuery (s : State) : Result State :=
  answer (.ok [nat s.reports.queue.length, nat s.reports.lost]) s

/-- REPORT MODE group mode (R207). -/
def execReportMode (p : Option (ReportGroup × ReportMode)) (s : State) : Result State :=
  writeWord p (fun v s => s.modReports fun q => q.setMode v.1 v.2) s

/-- REPORT MODE? group (R207). -/
def execReportModeQuery (g : Option ReportGroup) (s : State) : Result State :=
  match g with
  | none => refuse .param s
  | some k => answer (.ok [reportModeWord (s.reports.mode k)]) s

/-! ### Faults (R210, R211) -/

/-- The fields of a fault entry (R210). -/
def faultFields (f : FaultSource) (en : FaultEntry) : List String :=
  match en.state with
  | .clear => [sourceName f, EntryState.word en.state, "-", "-", "-", nat 0]
  | .active | .latched =>
    [sourceName f, EntryState.word en.state, yn en.read, dateText en.first, timeText en.first,
     nat en.count]

/-- An entry shown by a query has its read flag set, unless it is CLEAR (R210). -/
def FaultEntry.shown (en : FaultEntry) : FaultEntry := if en.raised then { en with read := true } else en

/-- The read flag of a source's entry is set (R210). -/
def markRead (s : State) (f : FaultSource) : State := s.setFault f (s.faults.get f).shown

/-- FAULT? (R210). The reply shows each read flag as it stood when the line was taken, and the query
then sets it (log entry 32). -/
def execFaultQuery (s : State) : Result State :=
  let raised := allSources.filter fun f => (s.faults.get f).raised
  let shown := raised.foldl markRead s
  match raised with
  | [] => answer (.ok ["NONE"]) s
  | _ :: _ => answer (.ok (raised.flatMap fun f => faultFields f (s.faults.get f))) shown

/-- FAULT src? (R210), the read flag shown as it stood (log entry 32). -/
def execFaultSourceQuery (src : Option FaultSource) (s : State) : Result State :=
  match src with
  | none => refuse .param s
  | some f => answer (.ok (faultFields f (s.faults.get f))) (markRead s f)

/-- What a source's entry becoming CLEAR does to the block that uses it (R211, R74, R179). -/
def entryCleared (f : FaultSource) (s : State) : State :=
  match f with
  | .bar e => withDown e (recoveryLower e) s
  | .prn d => printerFaultExit d s
  | .cell _ _ | .loop _ | .rdr _ | .journal | .clock => s

/-- FAULT CLEAR src (R210), judged in the order of its table. -/
def execFaultClear (src : Option FaultSource) (s : State) : Result State :=
  match src with
  | none => refuse .param s
  | some f =>
    let en := s.faults.get f
    match en.state with
    | .active => refuse .active s
    | .clear => answer (.ok []) s
    | .latched =>
      if en.read then answer (.ok []) (entryCleared f (s.setFault f .clear))
      else refuse .unread s

end Sys2Proof.Machine
end

