-- ==== Sys2Proof/Machine/Resets.lean ====
section
/-! DEFINITION. The three resets (section 10.7): power-on, RESET ALL and DECK x RESET, and the part modes
(R195 to R197). -/

namespace Sys2Proof.Machine

/-! ### The part mode (R195 to R197) -/

/-- A deck passes the check of R195. -/
def Params.startable (p : Params) : Bool := p.cells.toList.any id && p.consistent

/-- The letters of the decks that fail the check of R195. -/
def State.failingDecks (s : State) : List String :=
  (Deck.all.filter fun d => !(s.deck d).params.startable).map deckName

/-- The ends take the test of R85 (R100, R195). DESIGN CHOICE: in the order A1, A2, B1, B2 (log entry 45). -/
def wakeAll (s : State) : State := EndId.all.foldl (fun s e => wakeTest e s) s

/-- Put the part mode. -/
def State.setRun (s : State) (r : Bool) : State := { s with part := { s.part with run := r } }

/-- PART START (R195). -/
def execPartStart (s : State) : Result State :=
  if s.part.run then answer (.ok ["RUN"]) s
  else
    match s.failingDecks with
    | [] => answer (.ok ["RUN"]) (wakeAll (s.setRun true))
    | l :: ls => answer (.er .state ("INCONSISTENT" :: l :: ls)) s

/-- Both sequencers and all four end machines are IDLE (R196). -/
def State.allIdle (s : State) : Bool :=
  (Deck.all.all fun d => (s.deck d).seq.state == .idle)
    && EndId.all.all fun e => (s.machine e).state == .idle

/-- PART STOP (R196, R78). DESIGN CHOICE: the barriers in the order A1, A2, B1, B2 (log entry 45). -/
def execPartStop (s : State) : Result State :=
  if !s.part.run then answer (.ok ["SETUP"]) s
  else if s.allIdle then answer (.ok ["SETUP"]) (lowerBoth .b (lowerBoth .a (s.setRun false)))
  else refuse .busy s

/-- PART AUTOSTART (R197). -/
def execPartAutostart (yes : Option Bool) (s : State) : Result State :=
  laneWrite s (writeWord yes (fun v s => { s with part := { s.part with autostart := v } }) s)

/-- PART AUTOSTART? (R197). -/
def execPartAutostartQuery (s : State) : Result State := answer (.ok [yesNo s.part.autostart]) s

/-- PART RESET (R199): the reset takes effect when the reply has been sent. -/
def execPartReset (s : State) : Result State :=
  answer (.ok []) (s.modLink fun l => { l with resetAsked := true })

/-- The revision letter (R202). -/
def revisionLetter : String := String.ofList [Char.ofNat (65 + Config.siliconRevision.val)]

/-- PART ID? (R202). -/
def execPartIdQuery (s : State) : Result State :=
  answer (.ok ["PELIDRA", "YC-740", revisionLetter, if s.part.run then "RUN" else "SETUP",
    yesNo s.part.autostart]) s

/-! ### Power-on and RESET ALL (R8, R13, R26, R40, R80, R100, R124, R133, R138, R164, R183, R200) -/

/-- A deck after power-on, over its lines: what is battery-backed is kept. -/
def DeckUnit.restarted (u : DeckUnit) (l : DeckReadings) : DeckUnit :=
  let en := u.params.cells
  { u with
    channels := ⟨{ Channel.fresh with inForce := en.c1 }, { Channel.fresh with inForce := en.c2 },
                 { Channel.fresh with inForce := en.c3 }, { Channel.fresh with inForce := en.c4 }⟩
    wcu := u.wcu.restart
    capture := u.capture.toIdle false
    streak := 0
    notClear := false
    seq := .cleared
    lines := l
    printer := u.printer.restarted l.busy }

/-- An end after power-on, over its lines; its driver is started after. -/
def Station.restarted (t : Station) (l : EndReadings) : Station :=
  { t with lines := l, machine := t.machine.restarted l.approach }

/-- A visit after power-on: a LEAVING one reverts, and no block holds it (R124, R134). -/
def Visit.reverted (v : Visit) : Visit :=
  { v with holder := .none, state := if v.state = .leaving then .onSite else v.state }

/-- The visit table after power-on: ADMITTED visits are removed (R124). -/
def Visits.restarted (v : Visits) : Visits :=
  { v with table := (v.table.filter fun x => x.state != .admitted).map Visit.reverted }

/-- A silence timer started afresh (R192, R193). -/
def silenceStart (time : Nat) : Timer := if time = 0 then .stopped else .running time

/-- The link unit after power-on (R200). -/
def Link.restarted (l : Link) : Link :=
  { l with
    lineBaud := l.baud
    lineParity := l.parity
    lineChange := false
    rx := { chars := [], spoiled := false, overflow := false }
    held := none
    refusals := 0
    reply := none
    silenceTimer := silenceStart l.silence
    attended := true
    detachedSince := none
    resetAsked := false
    closing := none }

/-- Every block at its power-on value over the lines given, in SETUP, with the POWER_UP report placed. -/
def restartBlocks (r : Readings) (s : State) : State :=
  let s1 := offer .powerUp .none []
    { s with faults := .empty, reports := { s.reports with queue := [], lost := 0 } }
  { s1 with
    part := { s1.part with run := false }
    link := s1.link.restarted
    decks := ⟨s1.decks.a.restarted r.decks.a, s1.decks.b.restarted r.decks.b⟩
    ends := ⟨s1.ends.a1.restarted r.ends.a1, s1.ends.a2.restarted r.ends.a2,
             s1.ends.b1.restarted r.ends.b1, s1.ends.b2.restarted r.ends.b2⟩
    metro := { s1.metro with compareDue := true }
    visits := s1.visits.restarted
    accounts := s1.accounts.map fun a => { a with pendingCharge := 0 }
    journal := s1.journal.discard }

/-- An active LOOPFAULT line signals its condition (R61, R81). -/
def loopSignal (s : State) (e : EndId) : State :=
  if (s.station e).lines.loopfault then condArises (.loop e) s else s

/-- An active PAPER line raises the PRN condition (R183). -/
def paperSignal (s : State) (d : Deck) : State :=
  if (s.deck d).lines.paper then printerFaultEntry d s else s

/-- The detectors signal the conditions they find present (R211, R61, R165, R183). DESIGN CHOICE: the LOOPFAULT
lines, then PAPER, then the clock (log entry 46). -/
def signalPresent (s : State) : State :=
  let s1 := Deck.all.foldl paperSignal (EndId.all.foldl loopSignal s)
  if s1.clock.faulty then condArises .clock s1 else s1

/-- The part mode after a reset, from autostart and the check of R195 (R197); in RUN the ends take the
test of R85 (R100). -/
def autostart (s : State) : State :=
  if s.part.autostart && s.failingDecks.isEmpty then wakeAll (s.setRun true) else s

/-- What RESET ALL does, and power-on when the clock has been read (R199): the blocks restart, the
drivers start, present conditions are signalled, pending closes complete and the mode is set. That the
conditions the drivers find come before the others is log entry 46. -/
def resetAll (r : Readings) (s : State) : State :=
  let s1 := EndId.all.foldl (fun s e => startDriver e s) (restartBlocks r s)
  autostart (Deck.all.foldl (fun s d => completeClose d s) (signalPresent s1))

/-- The yard clock at power-on (R165). -/
def YardClock.powered (k : YardClock) (kept : Option YardTime) (low : Bool) : YardClock :=
  match kept with
  | some t => { k with now := t, batteryLow := low }
  | none => { now := 0, valid := false, batteryLow := low }

/-- POWER_ON (R200 and the rules gathered in section 10.7). -/
def execPowerOn (p : PowerUp) (s : State) : Result State :=
  .next (resetAll p.lines { s with clock := s.clock.powered p.clock p.batteryLow })

/-! ### DECK x RESET (R201) -/

/-- The sequencer's visit and record at a DECK x RESET (R123, R127). -/
def resetTransaction (d : Deck) (s : State) : State :=
  let q := (s.deck d).seq
  match q.state with
  | .idle => s.modSeq d Sequencer.toIdle
  | .settling =>
    if q.reservation then s.modSeq d fun q => { q.toIdle with orphanSettle := true }
    else (releaseHolder d q.visit (turnBackVisit q s)).modSeq d Sequencer.toIdle
  | .entering | .weighing | .committing =>
    (releaseHolder d q.visit (turnBackVisit q s)).modSeq d Sequencer.toIdle
  | .ticketing | .departing | .ejecting => (releaseHolder d q.visit s).modSeq d Sequencer.toIdle

/-- The eleven entries of a deck (R211). -/
def deckSources (d : Deck) : List FaultSource :=
  Chan.all.map (FaultSource.cell d)
    ++ [.bar (d.endAt .one), .bar (d.endAt .two), .loop (d.endAt .one), .loop (d.endAt .two),
        .rdr (d.endAt .one), .rdr (d.endAt .two), .prn d]

/-- The deck's entries are made CLEAR, with no report (R211). -/
def emptyDeckFaults (d : Deck) (s : State) : State :=
  (deckSources d).foldl (fun s f => s.setFault f .clear) s

/-- A channel whose condition is present is to signal it again (R8). -/
def Channel.remember (c : Channel) : Channel := { c with resignal := c.condition }

/-- The deck's own blocks at a DECK x RESET: windows, capture logic, arbiter, channels (R8, R26, R40,
R123). -/
def DeckUnit.reset (u : DeckUnit) : DeckUnit :=
  { u with
    wcu := u.wcu.restart
    capture := u.capture.withdraw
    streak := 0
    notClear := false
    channels := ⟨u.channels.c1.remember, u.channels.c2.remember, u.channels.c3.remember,
                 u.channels.c4.remember⟩ }

/-- The state after DECK x RESET (R201): the order of the blocks is log entry 14's. DESIGN CHOICE: of the
two drivers, the two LOOPFAULT signals, the two ends and the two tests of R85, end 1 comes before end 2 (log
entry 14). -/
def deckResetState (d : Deck) (s : State) : State :=
  let e1 := d.endAt .one
  let e2 := d.endAt .two
  let s1 := emptyDeckFaults d ((resetTransaction d s).modDeck d DeckUnit.reset)
  let s2 := offer .deckReset (.deck d) [] s1
  let s3 := loopSignal (loopSignal (resetDriver e2 (resetDriver e1 s2)) e1) e2
  let s4 := resetEnd e2 (resetEnd e1 (resetPrinter d s3))
  wakeTest e2 (wakeTest e1 (completeClose d s4))

/-- DECK x RESET (R201). -/
def execDeckReset (d : Deck) (s : State) : Result State := answer (.ok []) (deckResetState d s)

end Sys2Proof.Machine
end

