-- ==== Sys2Proof/Machine/Link.lean ====
section
/-! DEFINITION. Chapter 10, the link unit: framing a line, taking it, holding or refusing it for order,
the replies, the silence timer, and the commands of the subject LINK. -/

namespace Sys2Proof.Machine

/-! ### The commands of LINK (R184, R192, R202) -/

/-- LINK BAUD (R184): the line itself changes when the reply has been sent. -/
def execLinkBaud (b : Option SetArg) (s : State) : Result State :=
  match b with
  | none => refuse .param s
  | some v =>
    let r := v.stepped baudRates 9600 115200 9600
    answer (shownReply (v.steppedDiffers baudRates 9600) r)
      (s.modLink fun l => { l with baud := r, lineChange := true })

/-- LINK BAUD? (R184). -/
def execLinkBaudQuery (s : State) : Result State := answer (.ok [nat s.link.baud]) s

/-- LINK PARITY (R184). -/
def execLinkParity (p : Option Parity) (s : State) : Result State :=
  writeWord p (fun v s => s.modLink fun l => { l with parity := v, lineChange := true }) s

/-- LINK PARITY? (R184). -/
def execLinkParityQuery (s : State) : Result State := answer (.ok [parityWord s.link.parity]) s

/-- The silence time a value gives, and whether it was clamped (R192): 0 and OFF switch the timer off. -/
def silenceTimeOf (v : SilenceArg) : Nat × Bool :=
  match v with
  | .off => (0, false)
  | .time (.num 0) => (0, false)
  | .time a => (a.value 5 600 120, a.clamped 5 600)

/-- The silence time in a reply (R192). -/
def silenceText (n : Nat) : String := if n = 0 then "OFF" else nat n

/-- LINK SILENCE (R192): the timer starts afresh with the time written, or stops. -/
def execLinkSilence (v : Option SilenceArg) (s : State) : Result State :=
  match v with
  | none => refuse .param s
  | some a =>
    let t := silenceTimeOf a
    answer (if t.2 then .clamped [nat t.1] else .ok [silenceText t.1])
      (s.modLink fun l => { l with silence := t.1, silenceTimer := silenceStart t.1 })

/-- LINK SILENCE? (R192). -/
def execLinkSilenceQuery (s : State) : Result State := answer (.ok [silenceText s.link.silence]) s

/-- LINK? (R202). -/
def execLinkQuery (s : State) : Result State :=
  let l := s.link
  answer (.ok [nat l.baud, parityWord l.parity, silenceText l.silence,
    if l.attended then "ATTENDED" else "DETACHED", secondsLeft l.silenceTimer]) s

/-! ### Attended and detached (R92, R193) -/

/-- SILENCE_TIMER_EXPIRY (R193): the link becomes DETACHED and every referral is refused (R92). DESIGN CHOICE:
in the order A1, A2, B1, B2 (log entry 45). -/
def execSilenceTimerExpiry (s : State) : Result State :=
  if s.link.silenceTimer.isRunning = true ∧ s.link.attended = true then
    let s1 := s.modLink fun l =>
      { l with attended := false, detachedSince := some s.clock.now, silenceTimer := .stopped }
    .next (EndId.all.foldl detachEnd (offer .detached .none [nat s.link.silence] s1))
  else .next s

/-- The parameter of ATTACHED (R193): whole seconds since DETACHED, up to 65,535. Where the clock stands
before that moment the manual gives no value, and none is chosen. -/
def secondsDetached (since now : YardTime) : Nat :=
  min 65535 (if since ≤ now then now - since else Config.attachedBackward since now)

/-- The completion of a correctly framed line (R193): the silence timer restarts, and a DETACHED link
becomes ATTENDED. -/
def attach (s : State) : State :=
  let s1 := s.modLink fun l => { l with silenceTimer := silenceStart l.silence }
  if s.link.attended then s1
  else
    offer .attached .none
      [nat (match s.link.detachedSince with
        | some t => secondsDetached t s.clock.now
        | none => 0)]
      (s1.modLink fun l => { l with attended := true, detachedSince := none })

/-! ### Carrying out a line (R186, R187) -/

/-- Carry out the command a line holds. Only the host's commands are read from a line. -/
def carryOut (i : Instr) (s : State) : Result State :=
  match i with
  | .partScan rate => execPartScan rate s
  | .partScanQuery => execPartScanQuery s
  | .deckFilter d n => execDeckFilter d n s
  | .deckFilterQuery d => execDeckFilterQuery d s
  | .deckStability d mb => execDeckStability d mb s
  | .deckStabilityQuery d => execDeckStabilityQuery d s
  | .deckTrack d on => execDeckTrack d on s
  | .deckTrackQuery d => execDeckTrackQuery d s
  | .deckZero d => execDeckZero d s
  | .deckWeightQuery d => execDeckWeightQuery d s
  | .deckCellsQuery d => execDeckCellsQuery d s
  | .deckReset d => execDeckReset d s
  | .deckStaged d yes => execDeckStaged d yes s
  | .deckStagedQuery d => execDeckStagedQuery d s
  | .deckBeamsQuery d => execDeckBeamsQuery d s
  | .deckCaptureQuery d => execDeckCaptureQuery d s
  | .calMax d kg => execCalMax d kg s
  | .calInterval d e => execCalInterval d e s
  | .calTrim d ng => execCalTrim d ng s
  | .calCells d ns => execCalCells d ns s
  | .calZero d => execCalZero d s
  | .calSpan d m => execCalSpan d m s
  | .calK d k => execCalK d k s
  | .calZ0 d z => execCalZ0 d z s
  | .metroLock => execMetroLock s
  | .metroQuery => execMetroQuery s
  | .calParamQuery d => execCalParamQuery d s
  | .endPolarity e p => execEndPolarity e p s
  | .endPolarityQuery e l => execEndPolarityQuery e l s
  | .deckPolarity d p => execDeckPolarity d p s
  | .deckPolarityQuery d l => execDeckPolarityQuery d l s
  | .partPolarity p => execPartPolarity p s
  | .partPolarityQuery l => execPartPolarityQuery l s
  | .barrierMode e m => execBarrierMode e m s
  | .barrierModeQuery e => execBarrierModeQuery e s
  | .barrierPulse e ms => execBarrierPulse e ms s
  | .barrierPulseQuery e => execBarrierPulseQuery e s
  | .barrierTravel e sec => execBarrierTravel e sec s
  | .barrierTravelQuery e => execBarrierTravelQuery e s
  | .barrierRaise e => execBarrierRaise e s
  | .barrierLower e => execBarrierLower e s
  | .barrierQuery e => execBarrierQuery e s
  | .endPresent e tag => execEndPresent e tag s
  | .endAdmit e p => execEndAdmit e p s
  | .endRefuse e => execEndRefuse e s
  | .tagSet i p => execTagSet i p s
  | .tagClear i => execTagClear i s
  | .tagQuery i => execTagQuery i s
  | .tagPolicy p => execTagPolicy p s
  | .tagPolicyQuery => execTagPolicyQuery s
  | .tagMatchQuery tag => execTagMatchQuery tag s
  | .endIdtime e sec => execEndIdtime e sec s
  | .endIdtimeQuery e => execEndIdtimeQuery e s
  | .endDecide e sec => execEndDecide e sec s
  | .endDecideQuery e => execEndDecideQuery e s
  | .endCleartime e sec => execEndCleartime e sec s
  | .endCleartimeQuery e => execEndCleartimeQuery e s
  | .endQuery e => execEndQuery e s
  | .deckInbound d dir => execDeckInbound d dir s
  | .deckInboundQuery d => execDeckInboundQuery d s
  | .deckOpen d m => execDeckOpen d m s
  | .deckClose d => execDeckClose d s
  | .deckModeQuery d => execDeckModeQuery d s
  | .deckCancel d => execDeckCancel d s
  | .deckRelease d => execDeckRelease d s
  | .deckStreak d n => execDeckStreak d n s
  | .deckStreakQuery d => execDeckStreakQuery d s
  | .deckTailgate d sec => execDeckTailgate d sec s
  | .deckTailgateQuery d => execDeckTailgateQuery d s
  | .deckTimeout d sec => execDeckTimeout d sec s
  | .deckTimeoutQuery d => execDeckTimeoutQuery d s
  | .deckTaketime d sec => execDeckTaketime d sec s
  | .deckTaketimeQuery d => execDeckTaketimeQuery d s
  | .deckExit d r => execDeckExit d r s
  | .deckExitQuery d => execDeckExitQuery d s
  | .deckQuery d => execDeckQuery d s
  | .visitOverstay h => execVisitOverstay h s
  | .visitOverstayQuery => execVisitOverstayQuery s
  | .tareSet p => execTareSet p s
  | .tareClear tag => execTareClear tag s
  | .tareFindQuery tag => execTareFindQuery tag s
  | .tareIndexQuery i => execTareIndexQuery i s
  | .tareCountQuery => execTareCountQuery s
  | .tareExpiry days => execTareExpiry days s
  | .tareExpiryQuery => execTareExpiryQuery s
  | .visitClose n => execVisitClose n s
  | .visitQuery n => execVisitQuery n s
  | .visitFindQuery tag => execVisitFindQuery tag s
  | .visitNextQuery n => execVisitNextQuery n s
  | .visitCountQuery => execVisitCountQuery s
  | .accountAdd n p => execAccountAdd n p s
  | .accountDelete n => execAccountDelete n s
  | .accountCredit n amount => execAccountCredit n amount s
  | .accountLimit n amount => execAccountLimit n amount s
  | .accountClasses n cs => execAccountClasses n cs s
  | .accountStatus n w => execAccountStatus n w s
  | .accountQuery n => execAccountQuery n s
  | .accountNextQuery n => execAccountNextQuery n s
  | .accountCountQuery => execAccountCountQuery s
  | .className c text => execClassName c text s
  | .classRates c p => execClassRates c p s
  | .classMinimum c amount => execClassMinimum c amount s
  | .classLayout c n => execClassLayout c n s
  | .classStages c n => execClassStages c n s
  | .classOnepass c yes => execClassOnepass c yes s
  | .classTareupdate c yes => execClassTareupdate c yes s
  | .classQuery c => execClassQuery c s
  | .journalPrefer p => execJournalPrefer p s
  | .journalPreferQuery => execJournalPreferQuery s
  | .journalLow n => execJournalLow n s
  | .journalLowQuery => execJournalLowQuery s
  | .journalExported q => execJournalExported q s
  | .journalExportedQuery => execJournalExportedQuery s
  | .journalRetain days => execJournalRetain days s
  | .journalRetainQuery => execJournalRetainQuery s
  | .journalPurgeEnable => execJournalPurgeEnable s
  | .journalPurge n => execJournalPurge n s
  | .journalQuery => execJournalQuery s
  | .journalPageQuery p => execJournalPageQuery p s
  | .journalRead q => execJournalRead q s
  | .journalNextQuery => execJournalNextQuery s
  | .clockSet p => execClockSet p s
  | .clockQuery => execClockQuery s
  | .layoutLine n k text => execLayoutLine n k text s
  | .layoutClear n => execLayoutClear n s
  | .layoutLineQuery n k => execLayoutLineQuery n k s
  | .ticketUncollected d sec => execTicketUncollected d sec s
  | .ticketUncollectedQuery d => execTicketUncollectedQuery d s
  | .ticketReprint d q => execTicketReprint d q s
  | .ticketQuery d => execTicketQuery d s
  | .linkBaud b => execLinkBaud b s
  | .linkBaudQuery => execLinkBaudQuery s
  | .linkParity p => execLinkParity p s
  | .linkParityQuery => execLinkParityQuery s
  | .linkSilence v => execLinkSilence v s
  | .linkSilenceQuery => execLinkSilenceQuery s
  | .partStart => execPartStart s
  | .partStop => execPartStop s
  | .partAutostart yes => execPartAutostart yes s
  | .partAutostartQuery => execPartAutostartQuery s
  | .partReset => execPartReset s
  | .partIdQuery => execPartIdQuery s
  | .linkQuery => execLinkQuery s
  | .outcomeQuery => execOutcomeQuery s
  | .outcomeTake q => execOutcomeTake q s
  | .outcomeCountQuery => execOutcomeCountQuery s
  | .outcomeHigh n => execOutcomeHigh n s
  | .outcomeHighQuery => execOutcomeHighQuery s
  | .outcomeAttn n => execOutcomeAttn n s
  | .outcomeAttnQuery => execOutcomeAttnQuery s
  | .reportQuery => execReportQuery s
  | .reportTake n => execReportTake n s
  | .reportCountQuery => execReportCountQuery s
  | .reportMode p => execReportMode p s
  | .reportModeQuery g => execReportModeQuery g s
  | .faultQuery => execFaultQuery s
  | .faultSourceQuery src => execFaultSourceQuery src s
  | .faultClear src => execFaultClear src s
  | _ => .next s

/-- A line is taken (R186): it is read, carried out, and its reply formed. -/
def take (l : Line) (s : State) : Result State :=
  match l with
  | .framed t =>
    match readLine t with
    | .command i => carryOut i s
    | .wrong c => refuse c s
  | .spoiled => refuse .line s
  | .overlong => refuse .long s

/-! ### Framing (R185) -/

/-- The parity bit that makes the number of ones in the 8 data bits and itself even (R184). -/
def evenParityBit (c : Char) : Bool :=
  (List.range 8).foldl (fun b i => Bool.xor b (c.toNat.testBit i)) false

/-- The parity bit of a character sent at a parity setting (R184). -/
def parityBit (p : Parity) (c : Char) : Option Bool :=
  match p with
  | .none => none
  | .even => some (evenParityBit c)

/-- A received character passes the parity check (R184): under NONE there is none to fail. -/
def parityHolds (p : Parity) (c : LineChar) : Bool :=
  match p with
  | .none => true
  | .even => c.parity == parityBit .even c.code

/-- A character within a line is good (R185): its stop bit is there, it passes the parity check, and its
code is printable. CR and LF, which end a line, do not stand within it. -/
def goodChar (p : Parity) (c : LineChar) : Bool := c.stop && parityHolds p c && printable c.code

/-- A character is received into the buffer at the line's parity (R185): one in error spoils the line; a
201st makes it overlong, and what follows is discarded unexamined. -/
def RxBuffer.receive (p : Parity) (b : RxBuffer) (c : LineChar) : RxBuffer :=
  if b.spoiled || b.overflow then b
  else if Config.bufferLength ≤ b.chars.length then { b with overflow := true }
  else if goodChar p c then { b with chars := b.chars ++ [c.code] }
  else { b with spoiled := true }

/-- A character as the part sends it at a parity setting (R184). -/
def sentChar (p : Parity) (c : Char) : LineChar := { code := c, parity := parityBit p c, stop := true }

/-- The reply in progress as the line carries it (R184, R186): the baud rate in force on the line, and the
characters of the reply, CR and LF, at the parity in force. -/
def State.sentLine (s : State) : Option (Nat × List LineChar) :=
  s.link.reply.map fun r =>
    (s.link.lineBaud, (r.text.toList ++ ['\r', '\n']).map (sentChar s.link.lineParity))

/-- The line a buffer holds at its completion (R185); none when it is empty. -/
def RxBuffer.line (b : RxBuffer) : Option Line :=
  if b.spoiled then some .spoiled
  else if b.overflow then some .overlong
  else if b.chars.all (· == ' ') then none
  else some (.framed b.chars)

/-- An empty receive buffer with its marks clear. -/
def RxBuffer.fresh : RxBuffer := { chars := [], spoiled := false, overflow := false }

/-- A line is correctly framed. -/
def Line.isFramed : Line → Bool
  | .framed _ => true
  | .spoiled | .overlong => false

/-- A line is refused for order (R186): it is counted, up to 255. -/
def Link.refuseOne (l : Link) : Link := { l with refusals := min 255 (l.refusals + 1) }

/-- A completed line is offered (R186): taken, held, or refused for order. -/
def offerLine (l : Line) (s : State) : Result State :=
  match s.link.reply, s.link.held with
  | none, none => if s.link.refusals = 0 then take l s else .next (s.modLink Link.refuseOne)
  | some _, none =>
    if s.link.refusals = 0 then .next (s.modLink fun k => { k with held := some l })
    else .next (s.modLink Link.refuseOne)
  | _, some _ => .next (s.modLink Link.refuseOne)

/-- LINE_COMPLETE (R185, R186, R193): the characters of the line are judged at the line's parity, the
buffer emptied, and a line to be answered is offered. -/
def execLineComplete (chars : List LineChar) (s : State) : Result State :=
  let b := chars.foldl (RxBuffer.receive s.link.lineParity) s.link.rx
  let s1 := s.modLink fun l => { l with rx := .fresh }
  match b.line with
  | none => .next s1
  | some l => offerLine l (if l.isFramed then attach s1 else s1)

/-- New line settings take effect (R184). -/
def Link.settingsTakeEffect (l : Link) : Link :=
  if l.lineChange then
    { l with lineBaud := l.baud, lineParity := l.parity, lineChange := false, rx := .fresh }
  else l

/-- What follows a reply sent (R186): the held line is taken, or a refusal is answered. -/
def nextLine (s : State) : Result State :=
  match s.link.held with
  | some l => take l (s.modLink fun k => { k with held := none })
  | none =>
    if s.link.refusals = 0 then .next s
    else answer (.er .busy []) (s.modLink fun k => { k with refusals := k.refusals - 1 })

/-- REPLY_SENT (R184, R186, R199): the last character of the reply in progress has gone out. `lines` is
what the inputs show, read only when a RESET ALL takes effect. -/
def execReplySent (lines : Readings) (s : State) : Result State :=
  match s.link.reply with
  | none => .next s
  | some _ =>
    if s.link.resetAsked then .next (resetAll lines s)
    else nextLine (s.modLink fun l => { l.settingsTakeEffect with reply := none })

end Sys2Proof.Machine
end

