-- ==== Sys2Proof/Machine/Dispatch.lean ====
section
/-! DEFINITION. One arm for each command of Syntax.lean, each one direct call of its meaning. -/

namespace Sys2Proof.Machine

def exec (i : Instr) (s : State) : Host.Outcome State Fault Refusal :=
  match i with
  | .powerOn p => Sys2Proof.Machine.execPowerOn p s
  | .conversionResult d c count => Sys2Proof.Machine.execConversionResult d c count s
  | .slotEnd d => Sys2Proof.Machine.execSlotEnd d s
  | .captureGrant d => Sys2Proof.Machine.execCaptureGrant d s
  | .lampFlashToggle d => Sys2Proof.Machine.execLampFlashToggle d s
  | .calSwitchOn => Sys2Proof.Machine.execCalSwitchOn s
  | .calSwitchOff => Sys2Proof.Machine.execCalSwitchOff s
  | .calPowerUpCompare on => Sys2Proof.Machine.execCalPowerUpCompare on s
  | .approachOccupied e => Sys2Proof.Machine.execApproachOccupied e s
  | .approachClear e => Sys2Proof.Machine.execApproachClear e s
  | .safetyOccupied e => Sys2Proof.Machine.execSafetyOccupied e s
  | .safetyClear e => Sys2Proof.Machine.execSafetyClear e s
  | .loopfaultActive e => Sys2Proof.Machine.execLoopfaultActive e s
  | .loopfaultInactive e => Sys2Proof.Machine.execLoopfaultInactive e s
  | .feedbackChange e inp atPosition => Sys2Proof.Machine.execFeedbackChange e inp atPosition s
  | .beamChange d n interrupted => Sys2Proof.Machine.execBeamChange d n interrupted s
  | .travelTimerExpiry e => Sys2Proof.Machine.execTravelTimerExpiry e s
  | .pulseTimerExpiry e => Sys2Proof.Machine.execPulseTimerExpiry e s
  | .pendingRaise e => Sys2Proof.Machine.execPendingRaise e s
  | .pendingLower e => Sys2Proof.Machine.execPendingLower e s
  | .readReceived e read => Sys2Proof.Machine.execReadReceived e read s
  | .readerErrorRun e => Sys2Proof.Machine.execReaderErrorRun e s
  | .readerGoodRun e => Sys2Proof.Machine.execReaderGoodRun e s
  | .holdRetest e => Sys2Proof.Machine.execHoldRetest e s
  | .identificationTimerExpiry e => Sys2Proof.Machine.execIdentificationTimerExpiry e s
  | .decisionTimerExpiry e => Sys2Proof.Machine.execDecisionTimerExpiry e s
  | .clearTimerExpiry e => Sys2Proof.Machine.execClearTimerExpiry e s
  | .arbiterOffer d => Sys2Proof.Machine.execArbiterOffer d s
  | .passageComplete d => Sys2Proof.Machine.execPassageComplete d s
  | .closeComplete d => Sys2Proof.Machine.execCloseComplete d s
  | .tailgateTimerExpiry d => Sys2Proof.Machine.execTailgateTimerExpiry d s
  | .weighingTimerExpiry d => Sys2Proof.Machine.execWeighingTimerExpiry d s
  | .takeTimerExpiry d => Sys2Proof.Machine.execTakeTimerExpiry d s
  | .settleReserve d => Sys2Proof.Machine.execSettleReserve d s
  | .appendComplete => Sys2Proof.Machine.execAppendComplete s
  | .writeFailure => Sys2Proof.Machine.execWriteFailure s
  | .journalGrant => Sys2Proof.Machine.execJournalGrant s
  | .eraseStart => Sys2Proof.Machine.execEraseStart s
  | .eraseComplete => Sys2Proof.Machine.execEraseComplete s
  | .eraseFailure => Sys2Proof.Machine.execEraseFailure s
  | .journalScanComplete readable => Sys2Proof.Machine.execJournalScanComplete readable s
  | .clockSecond => Sys2Proof.Machine.execClockSecond s
  | .batteryMonitorChange low => Sys2Proof.Machine.execBatteryMonitorChange low s
  | .printerJobStart d => Sys2Proof.Machine.execPrinterJobStart d s
  | .printerCharacterSent d => Sys2Proof.Machine.execPrinterCharacterSent d s
  | .printerLastCharacterSent d => Sys2Proof.Machine.execPrinterLastCharacterSent d s
  | .printerEndTimerExpiry d => Sys2Proof.Machine.execPrinterEndTimerExpiry d s
  | .busyChange d active => Sys2Proof.Machine.execBusyChange d active s
  | .paperChange d active => Sys2Proof.Machine.execPaperChange d active s
  | .takeEvent d => Sys2Proof.Machine.execTakeEvent d s
  | .takenInactive d => Sys2Proof.Machine.execTakenInactive d s
  | .uncollectedTimerExpiry d => Sys2Proof.Machine.execUncollectedTimerExpiry d s
  | .stuckTimerExpiry d => Sys2Proof.Machine.execStuckTimerExpiry d s
  | .lineComplete chars => Sys2Proof.Machine.execLineComplete chars s
  | .replySent lines => Sys2Proof.Machine.execReplySent lines s
  | .silenceTimerExpiry => Sys2Proof.Machine.execSilenceTimerExpiry s
  | .partScan rate => Sys2Proof.Machine.execPartScan rate s
  | .partScanQuery => Sys2Proof.Machine.execPartScanQuery s
  | .deckFilter d n => Sys2Proof.Machine.execDeckFilter d n s
  | .deckFilterQuery d => Sys2Proof.Machine.execDeckFilterQuery d s
  | .deckStability d mb => Sys2Proof.Machine.execDeckStability d mb s
  | .deckStabilityQuery d => Sys2Proof.Machine.execDeckStabilityQuery d s
  | .deckTrack d on => Sys2Proof.Machine.execDeckTrack d on s
  | .deckTrackQuery d => Sys2Proof.Machine.execDeckTrackQuery d s
  | .deckZero d => Sys2Proof.Machine.execDeckZero d s
  | .deckWeightQuery d => Sys2Proof.Machine.execDeckWeightQuery d s
  | .deckCellsQuery d => Sys2Proof.Machine.execDeckCellsQuery d s
  | .deckReset d => Sys2Proof.Machine.execDeckReset d s
  | .deckStaged d yes => Sys2Proof.Machine.execDeckStaged d yes s
  | .deckStagedQuery d => Sys2Proof.Machine.execDeckStagedQuery d s
  | .deckBeamsQuery d => Sys2Proof.Machine.execDeckBeamsQuery d s
  | .deckCaptureQuery d => Sys2Proof.Machine.execDeckCaptureQuery d s
  | .calMax d kg => Sys2Proof.Machine.execCalMax d kg s
  | .calInterval d e => Sys2Proof.Machine.execCalInterval d e s
  | .calTrim d ng => Sys2Proof.Machine.execCalTrim d ng s
  | .calCells d ns => Sys2Proof.Machine.execCalCells d ns s
  | .calZero d => Sys2Proof.Machine.execCalZero d s
  | .calSpan d m => Sys2Proof.Machine.execCalSpan d m s
  | .calK d k => Sys2Proof.Machine.execCalK d k s
  | .calZ0 d z => Sys2Proof.Machine.execCalZ0 d z s
  | .metroLock => Sys2Proof.Machine.execMetroLock s
  | .metroQuery => Sys2Proof.Machine.execMetroQuery s
  | .calParamQuery d => Sys2Proof.Machine.execCalParamQuery d s
  | .endPolarity e p => Sys2Proof.Machine.execEndPolarity e p s
  | .endPolarityQuery e l => Sys2Proof.Machine.execEndPolarityQuery e l s
  | .deckPolarity d p => Sys2Proof.Machine.execDeckPolarity d p s
  | .deckPolarityQuery d l => Sys2Proof.Machine.execDeckPolarityQuery d l s
  | .partPolarity p => Sys2Proof.Machine.execPartPolarity p s
  | .partPolarityQuery l => Sys2Proof.Machine.execPartPolarityQuery l s
  | .barrierMode e m => Sys2Proof.Machine.execBarrierMode e m s
  | .barrierModeQuery e => Sys2Proof.Machine.execBarrierModeQuery e s
  | .barrierPulse e ms => Sys2Proof.Machine.execBarrierPulse e ms s
  | .barrierPulseQuery e => Sys2Proof.Machine.execBarrierPulseQuery e s
  | .barrierTravel e sec => Sys2Proof.Machine.execBarrierTravel e sec s
  | .barrierTravelQuery e => Sys2Proof.Machine.execBarrierTravelQuery e s
  | .barrierRaise e => Sys2Proof.Machine.execBarrierRaise e s
  | .barrierLower e => Sys2Proof.Machine.execBarrierLower e s
  | .barrierQuery e => Sys2Proof.Machine.execBarrierQuery e s
  | .endPresent e tag => Sys2Proof.Machine.execEndPresent e tag s
  | .endAdmit e p => Sys2Proof.Machine.execEndAdmit e p s
  | .endRefuse e => Sys2Proof.Machine.execEndRefuse e s
  | .tagSet k p => Sys2Proof.Machine.execTagSet k p s
  | .tagClear k => Sys2Proof.Machine.execTagClear k s
  | .tagQuery k => Sys2Proof.Machine.execTagQuery k s
  | .tagPolicy p => Sys2Proof.Machine.execTagPolicy p s
  | .tagPolicyQuery => Sys2Proof.Machine.execTagPolicyQuery s
  | .tagMatchQuery tag => Sys2Proof.Machine.execTagMatchQuery tag s
  | .endIdtime e sec => Sys2Proof.Machine.execEndIdtime e sec s
  | .endIdtimeQuery e => Sys2Proof.Machine.execEndIdtimeQuery e s
  | .endDecide e sec => Sys2Proof.Machine.execEndDecide e sec s
  | .endDecideQuery e => Sys2Proof.Machine.execEndDecideQuery e s
  | .endCleartime e sec => Sys2Proof.Machine.execEndCleartime e sec s
  | .endCleartimeQuery e => Sys2Proof.Machine.execEndCleartimeQuery e s
  | .endQuery e => Sys2Proof.Machine.execEndQuery e s
  | .deckInbound d dir => Sys2Proof.Machine.execDeckInbound d dir s
  | .deckInboundQuery d => Sys2Proof.Machine.execDeckInboundQuery d s
  | .deckOpen d m => Sys2Proof.Machine.execDeckOpen d m s
  | .deckClose d => Sys2Proof.Machine.execDeckClose d s
  | .deckModeQuery d => Sys2Proof.Machine.execDeckModeQuery d s
  | .deckCancel d => Sys2Proof.Machine.execDeckCancel d s
  | .deckRelease d => Sys2Proof.Machine.execDeckRelease d s
  | .deckStreak d n => Sys2Proof.Machine.execDeckStreak d n s
  | .deckStreakQuery d => Sys2Proof.Machine.execDeckStreakQuery d s
  | .deckTailgate d sec => Sys2Proof.Machine.execDeckTailgate d sec s
  | .deckTailgateQuery d => Sys2Proof.Machine.execDeckTailgateQuery d s
  | .deckTimeout d sec => Sys2Proof.Machine.execDeckTimeout d sec s
  | .deckTimeoutQuery d => Sys2Proof.Machine.execDeckTimeoutQuery d s
  | .deckTaketime d sec => Sys2Proof.Machine.execDeckTaketime d sec s
  | .deckTaketimeQuery d => Sys2Proof.Machine.execDeckTaketimeQuery d s
  | .deckExit d r => Sys2Proof.Machine.execDeckExit d r s
  | .deckExitQuery d => Sys2Proof.Machine.execDeckExitQuery d s
  | .deckQuery d => Sys2Proof.Machine.execDeckQuery d s
  | .visitOverstay h => Sys2Proof.Machine.execVisitOverstay h s
  | .visitOverstayQuery => Sys2Proof.Machine.execVisitOverstayQuery s
  | .tareSet p => Sys2Proof.Machine.execTareSet p s
  | .tareClear tag => Sys2Proof.Machine.execTareClear tag s
  | .tareFindQuery tag => Sys2Proof.Machine.execTareFindQuery tag s
  | .tareIndexQuery k => Sys2Proof.Machine.execTareIndexQuery k s
  | .tareCountQuery => Sys2Proof.Machine.execTareCountQuery s
  | .tareExpiry days => Sys2Proof.Machine.execTareExpiry days s
  | .tareExpiryQuery => Sys2Proof.Machine.execTareExpiryQuery s
  | .visitClose n => Sys2Proof.Machine.execVisitClose n s
  | .visitQuery n => Sys2Proof.Machine.execVisitQuery n s
  | .visitFindQuery tag => Sys2Proof.Machine.execVisitFindQuery tag s
  | .visitNextQuery n => Sys2Proof.Machine.execVisitNextQuery n s
  | .visitCountQuery => Sys2Proof.Machine.execVisitCountQuery s
  | .accountAdd n p => Sys2Proof.Machine.execAccountAdd n p s
  | .accountDelete n => Sys2Proof.Machine.execAccountDelete n s
  | .accountCredit n amount => Sys2Proof.Machine.execAccountCredit n amount s
  | .accountLimit n amount => Sys2Proof.Machine.execAccountLimit n amount s
  | .accountClasses n cs => Sys2Proof.Machine.execAccountClasses n cs s
  | .accountStatus n w => Sys2Proof.Machine.execAccountStatus n w s
  | .accountQuery n => Sys2Proof.Machine.execAccountQuery n s
  | .accountNextQuery n => Sys2Proof.Machine.execAccountNextQuery n s
  | .accountCountQuery => Sys2Proof.Machine.execAccountCountQuery s
  | .className c text => Sys2Proof.Machine.execClassName c text s
  | .classRates c p => Sys2Proof.Machine.execClassRates c p s
  | .classMinimum c amount => Sys2Proof.Machine.execClassMinimum c amount s
  | .classLayout c n => Sys2Proof.Machine.execClassLayout c n s
  | .classStages c n => Sys2Proof.Machine.execClassStages c n s
  | .classOnepass c yes => Sys2Proof.Machine.execClassOnepass c yes s
  | .classTareupdate c yes => Sys2Proof.Machine.execClassTareupdate c yes s
  | .classQuery c => Sys2Proof.Machine.execClassQuery c s
  | .journalPrefer p => Sys2Proof.Machine.execJournalPrefer p s
  | .journalPreferQuery => Sys2Proof.Machine.execJournalPreferQuery s
  | .journalLow n => Sys2Proof.Machine.execJournalLow n s
  | .journalLowQuery => Sys2Proof.Machine.execJournalLowQuery s
  | .journalExported q => Sys2Proof.Machine.execJournalExported q s
  | .journalExportedQuery => Sys2Proof.Machine.execJournalExportedQuery s
  | .journalRetain days => Sys2Proof.Machine.execJournalRetain days s
  | .journalRetainQuery => Sys2Proof.Machine.execJournalRetainQuery s
  | .journalPurgeEnable => Sys2Proof.Machine.execJournalPurgeEnable s
  | .journalPurge n => Sys2Proof.Machine.execJournalPurge n s
  | .journalQuery => Sys2Proof.Machine.execJournalQuery s
  | .journalPageQuery p => Sys2Proof.Machine.execJournalPageQuery p s
  | .journalRead q => Sys2Proof.Machine.execJournalRead q s
  | .journalNextQuery => Sys2Proof.Machine.execJournalNextQuery s
  | .clockSet p => Sys2Proof.Machine.execClockSet p s
  | .clockQuery => Sys2Proof.Machine.execClockQuery s
  | .layoutLine n k text => Sys2Proof.Machine.execLayoutLine n k text s
  | .layoutClear n => Sys2Proof.Machine.execLayoutClear n s
  | .layoutLineQuery n k => Sys2Proof.Machine.execLayoutLineQuery n k s
  | .ticketUncollected d sec => Sys2Proof.Machine.execTicketUncollected d sec s
  | .ticketUncollectedQuery d => Sys2Proof.Machine.execTicketUncollectedQuery d s
  | .ticketReprint d q => Sys2Proof.Machine.execTicketReprint d q s
  | .ticketQuery d => Sys2Proof.Machine.execTicketQuery d s
  | .linkBaud b => Sys2Proof.Machine.execLinkBaud b s
  | .linkBaudQuery => Sys2Proof.Machine.execLinkBaudQuery s
  | .linkParity p => Sys2Proof.Machine.execLinkParity p s
  | .linkParityQuery => Sys2Proof.Machine.execLinkParityQuery s
  | .linkSilence v => Sys2Proof.Machine.execLinkSilence v s
  | .linkSilenceQuery => Sys2Proof.Machine.execLinkSilenceQuery s
  | .partStart => Sys2Proof.Machine.execPartStart s
  | .partStop => Sys2Proof.Machine.execPartStop s
  | .partAutostart yes => Sys2Proof.Machine.execPartAutostart yes s
  | .partAutostartQuery => Sys2Proof.Machine.execPartAutostartQuery s
  | .partReset => Sys2Proof.Machine.execPartReset s
  | .partIdQuery => Sys2Proof.Machine.execPartIdQuery s
  | .linkQuery => Sys2Proof.Machine.execLinkQuery s
  | .outcomeQuery => Sys2Proof.Machine.execOutcomeQuery s
  | .outcomeTake q => Sys2Proof.Machine.execOutcomeTake q s
  | .outcomeCountQuery => Sys2Proof.Machine.execOutcomeCountQuery s
  | .outcomeHigh n => Sys2Proof.Machine.execOutcomeHigh n s
  | .outcomeHighQuery => Sys2Proof.Machine.execOutcomeHighQuery s
  | .outcomeAttn n => Sys2Proof.Machine.execOutcomeAttn n s
  | .outcomeAttnQuery => Sys2Proof.Machine.execOutcomeAttnQuery s
  | .reportQuery => Sys2Proof.Machine.execReportQuery s
  | .reportTake n => Sys2Proof.Machine.execReportTake n s
  | .reportCountQuery => Sys2Proof.Machine.execReportCountQuery s
  | .reportMode p => Sys2Proof.Machine.execReportMode p s
  | .reportModeQuery g => Sys2Proof.Machine.execReportModeQuery g s
  | .faultQuery => Sys2Proof.Machine.execFaultQuery s
  | .faultSourceQuery src => Sys2Proof.Machine.execFaultSourceQuery src s
  | .faultClear src => Sys2Proof.Machine.execFaultClear src s

end Sys2Proof.Machine
end

