-- ==== Sys2Proof/Safety.lean ====
section
/-! DEFINITION. What the statements say of a command and of a run: that a line is answered and nothing
else changes, and what a safe run keeps. -/

namespace Sys2Proof.Machine

/-! ### Answers -/

/-- The command is carried out and its reply is all that changes (with the purge latch, R160). -/
def Answers (i : Instr) (r : Reply) (s : State) : Prop := exec i s = .next (s.answered r)

/-- The line is refused with a code, and nothing of what it names has changed (R190). -/
def Refused (i : Instr) (c : ErCode) (s : State) : Prop := Answers i (.er c []) s

/-- The line is answered with a reply, and the state is otherwise `t`. -/
def AnswersWith (i : Instr) (r : Reply) (s t : State) : Prop := exec i s = .next (t.answered r)

/-! ### Drives -/

/-- A driver as it enters FAULT (R73). -/
def Driver.failed (b : Driver) (c : BarrierCause) : Driver :=
  { b with
    state := .fault, cause := c, travel := .stopped, condition := true
    pending := if b.pending = .lower then .none else b.pending }

/-- A driver driven up over feedback `l` (R64): RAISING with the travel timer running; a CONFIRMED barrier
whose UP input is already at position is UP at once (R68), or in FAULT if DOWN is at position too (R69). -/
def Driver.drivenUp (b : Driver) (l : EndReadings) : Driver :=
  if b.mode = .confirmed ∧ l.up = true then
    if l.down = true then b.outputsUp.failed .both
    else { b.outputsUp with state := .up, travel := .stopped }
  else { b.outputsUp with state := .raising, travel := .running b.travelTime }

/-- A driver driven down over feedback `l` (R64, R68, R69). -/
def Driver.drivenDown (b : Driver) (l : EndReadings) : Driver :=
  if b.mode = .confirmed ∧ l.down = true then
    if l.up = true then b.outputsDown.failed .both
    else { b.outputsDown with state := .down, travel := .stopped }
  else { b.outputsDown with state := .lowering, travel := .running b.travelTime }

/-- The driver of end `e` becomes `b`; one that thereby enters FAULT signals its condition (R73). -/
def putDriver (e : EndId) (b : Driver) (s : State) : State :=
  let t := s.modDriver e fun _ => b
  if b.state = .fault then condArises (.bar e) t else t

/-- A barrier driven up. -/
def drivenUp (e : EndId) (s : State) : State :=
  putDriver e ((s.driver e).drivenUp (s.station e).lines) s

/-- A barrier driven down over a clear safety loop. -/
def drivenDown (e : EndId) (s : State) : State :=
  putDriver e ((s.driver e).drivenDown (s.station e).lines) s

/-- What a lower request does (R66): a pending RAISE is dropped, and a barrier UP or RAISING is driven down,
or keeps the lower pending over an occupied loop (R70). -/
def lowered (e : EndId) (s : State) : State :=
  let b := s.driver e
  if b.state = .up ∨ b.state = .raising then
    if s.safetyOcc e = true then s.modDriver e fun b => { b with pending := .lower }
    else drivenDown e (s.modDriver e fun b => { b with pending := .none })
  else if b.pending = .raise then s.modDriver e fun b => { b with pending := .none }
  else s

/-- A driver with its outputs inactive, started over feedback `l` and a safety reading (R80). -/
def Driver.started (b : Driver) (l : EndReadings) (occ : Bool) : Driver :=
  let rest : Driver :=
    { b with
      pending := .none, cause := .none, condition := false, travel := .stopped
      pulsing := false, raiseOut := false, lowerOut := false }
  if b.mode = .confirmed ∧ l.down = true ∧ l.up = false then
    { rest with state := .down, commanded := .down }
  else if occ = false then rest.drivenDown l
  else if b.mode = .pulse then { rest with state := .up, commanded := .up, pending := .lower }
  else Driver.drivenUp { rest with pending := .lower } l

/-! ### Ends sent away -/

/-- An end goes to REFUSED with a reason and the reason before it (R92, R96): its open visit is removed, its
timers stop and the report is placed; with its clear timer already expired it goes on to IDLE (R94). -/
def sentAway (e : EndId) (r prior : Reason) (s : State) : State :=
  let m := s.machine e
  let t := offer .refused (.atEnd e) [reasonWord r, reasonWord prior, dash tagText m.tag]
    ((s.removeVisit? m.visit).modMachine e fun x =>
      { x with
        state := .refused, reason := r, prior := prior, visit := none, idTimer := .stopped
        decideTimer := .stopped })
  if m.clearTimer = .expired then
    t.modMachine e fun x =>
      { x with
        state := .idle, movement := none, tag := none, reason := .none, prior := .none
        admission := none }
  else t

/-! ### What a safe run keeps -/

/-- The zero of each deck stands within 0.02 × Max of its calibration zero (R20). -/
def ZeroKept (s : State) : Prop := ∀ d : Deck, zeroInRange (s.deck d).params (s.deck d).wcu.zero = true

/-- How many requests of a requester stand with the write arbiter, the one in progress included. -/
def Journal.load (j : Journal) (r : Requester) : Nat :=
  j.pending.countP (·.requester == r) +
    match j.inProgress with
    | some a => countOf (a.request.requester == r)
    | none => 0

/-- Every SETTLE append that will place an outcome has a place reserved for it, and the records and
reservations of the outcome queue number no more than its 64 places (R115, R132, R203). -/
def OutcomesKept (s : State) : Prop :=
  (∀ d : Deck,
    s.journal.load (.settle d) ≤ (s.deck d).seq.places
      ∧ ((s.deck d).seq.reservation = true → (s.deck d).seq.state = .settling)
      ∧ ((s.deck d).seq.orphanSettle = true → (s.deck d).seq.reservation = false)
      ∧ ((s.deck d).seq.state = .settling → (s.deck d).capture.state = .idle))
    ∧ s.journal.load .link ≤ countOf s.link.closing.isSome
    ∧ s.outcomes.queue.length + s.reservations ≤ 64

/-- The tables and queues hold no more than the manual gives them places (R90, R97, R130, R135, R139,
R169, R173, R186, R206). -/
def TablesKept (s : State) : Prop :=
  s.visits.table.length ≤ 64 ∧ s.tares.table.length = 256 ∧ s.accounts.length ≤ 128
    ∧ s.admission.entries.length = 32 ∧ s.classes.length = 16 ∧ s.layouts.length = 8
    ∧ s.reports.queue.length ≤ 48 ∧ s.reports.lost ≤ 65535 ∧ s.link.refusals ≤ 255
    ∧ s.decks.a.printer.queue.length ≤ 4 ∧ s.decks.b.printer.queue.length ≤ 4

/-- Every record of the store has a sequence below the next one, the export mark stands below it too,
and the store has 64 pages of at most 256 used slots (R147, R149, R158). -/
def JournalKept (s : State) : Prop :=
  s.journal.pages.length = 64 ∧ s.journal.exported < s.journal.nextSeq
    ∧ ∀ p ∈ s.journal.pages, p.used.length ≤ 256
        ∧ (p.state = .current → p.used.length < 256)
        ∧ ∀ r ∈ recordsOf p.used, r.seq < s.journal.nextSeq

/-- The count of a fault entry that is not CLEAR lies within 1 to 255, and a CLEAR one shows nothing
(section 11.3). -/
def FaultsKept (s : State) : Prop :=
  ∀ f : FaultSource,
    if (s.faults.get f).state = .clear then s.faults.get f = .clear
    else 1 ≤ (s.faults.get f).count ∧ (s.faults.get f).count ≤ 255

end Sys2Proof.Machine
end

