-- ==== Sys2Proof/Certificates/Slice0/Obligations.lean ====
section
/-! DEFINITION. The statements for the provers, in the order of the manual's chapters. A statement that
has several parts joins the commands of one shape; where a part rests on a choice of the model, its
docstring names the log entry (notes/assumptions/). -/

section

open Sys2Proof Sys2Proof.Machine

/-! ### Chapter 1: deck weighing -/

/-- R24: what DECK x WEIGHT? shows, in every state. -/
def Obligations.WeightQueryShowsLatestSet : Prop :=
  ∀ (d : Deck) (s : State),
    let u := s.deck d
    let flag (b : Bool) (w : String) : List String := if b then [w] else []
    Answers (.deckWeightQuery d)
      (match u.wcu.latest with
        | none => .ok ("NONE" :: flag (s.oos d) "OOS")
        | some p =>
          .ok ((if p.overload then "OVER" else if p.underload then "UNDER" else toString p.disp)
            :: (flag p.stable "STABLE" ++ flag p.occupied "OCCUPIED" ++ flag p.empty "EMPTY"
              ++ flag p.invalid "INVALID" ++ flag (s.oos d) "OOS"))) s

/-- R2, R14, R18, R22, R25: the chapter's other queries. R2, R14, R18, R22: the chapter's lane
settings, refused in RUN, clamped or rounded down in SETUP; a change restarts the windows it names,
and every deck is otherwise as it was. R13, R42: what a restart empties; that a capture logic which has
evaluated a set then shows NOSET at once, and one with NEXT keeps it, is log entry 10. That a change of the stability window clears STABLE at once is
log entry 29. -/
def Obligations.WeighingSettingsAndQueries : Prop :=
  (∀ (d : Deck) (s : State),
     let u := s.deck d
     let yn (b : Bool) : String := if b then "Y" else "N"
     let group (n : String) (c : Channel) : List String :=
       [n, yn c.inForce, toString c.count, toString c.age]
         ++ (if c.inForce = false then ["OFF"] else if 4 ≤ c.age then ["ABSENT"]
             else if c.saturated then ["SAT"]
             else if c.condition then ["RECOV", toString c.goodRun] else ["GOOD"])
     Answers .partScanQuery (.ok [toString s.part.scanRate]) s
       ∧ Answers (.deckFilterQuery d) (.ok [toString u.wcu.filterLen]) s
       ∧ Answers (.deckStabilityQuery d) (.ok [toString u.wcu.stabLen, toString u.wcu.band]) s
       ∧ Answers (.deckTrackQuery d) (.ok [if u.wcu.track then "ON" else "OFF"]) s
       ∧ Answers (.deckCellsQuery d)
           (.ok (group "1" u.channels.c1 ++ group "2" u.channels.c2 ++ group "3" u.channels.c3
             ++ group "4" u.channels.c4
             ++ match u.wcu.latest with
               | some p => [toString p.sum, toString p.a]
               | none => ["NONE", "NONE"])) s)
  ∧ (∀ (d : Deck) (s : State),
       (s.part.run = true → ∀ r n mb on,
         Refused (.partScan r) .state s ∧ Refused (.deckFilter d n) .state s
           ∧ Refused (.deckStability d mb) .state s ∧ Refused (.deckTrack d on) .state s)
       ∧ (s.part.run = false →
         (∀ v : SetArg,
           let r := v.stepped [10, 20, 40, 80] 10 80 20
           AnswersWith (.partScan (some v)) (settingReply (v.steppedDiffers [10, 20, 40, 80] 10) [r]) s
             (if r = s.part.scanRate then s
              else
               agesZero .b (agesZero .a (restartBoth { s with part := { s.part with scanRate := r } }))))
         ∧ (∀ v : SetArg,
           let r := v.stepped [1, 2, 4, 8, 16, 32] 1 32 8
           AnswersWith (.deckFilter d (some v))
             (settingReply (v.steppedDiffers [1, 2, 4, 8, 16, 32] 1) [r]) s
             (if r = (s.deck d).wcu.filterLen then s
              else restartWindows d (s.modWcu d fun w => { w with filterLen := r })))
         ∧ (∀ m b : SetArg,
           let mv := m.value 2 64 8
           let bv := b.value 1 5 1
           AnswersWith (.deckStability d (some (m, b)))
             (settingReply (m.clamped 2 64 || b.clamped 1 5) [mv, bv]) s
             (if mv = (s.deck d).wcu.stabLen ∧ bv = (s.deck d).wcu.band then s
              else s.modWcu d fun w =>
                { w with stabLen := mv, band := bv, stabWin := []
                         latest := w.latest.map fun p => { p with stable := false } }))
         ∧ (∀ on : Bool,
           AnswersWith (.deckTrack d (some on)) (.ok []) s (s.modWcu d fun w => { w with track := on }))
         ∧ Refused (.partScan none) .param s ∧ Refused (.deckFilter d none) .param s
         ∧ Refused (.deckStability d none) .param s ∧ Refused (.deckTrack d none) .param s))
  ∧ (∀ (d : Deck) (s : State),
       let restarted (u : DeckUnit) : DeckUnit :=
         { u with
           wcu := { u.wcu with filterWin := [], stabWin := [], latest := none }
           capture :=
             if u.capture.state = .waiting ∧ u.capture.orphan = false ∧ u.capture.grantDue = none
                 ∧ u.capture.blocking ≠ some .next then
               { u.capture with blocking := some .noset }
             else u.capture }
       let young (c : Channel) : Channel := { c with age := 0 }
       let u := s.deck d
       restartWindows d s = { s with decks := s.decks.set d (restarted u) }
         ∧ restartBoth s = { s with decks := ⟨restarted s.decks.a, restarted s.decks.b⟩ }
         ∧ agesZero d s = { s with decks := s.decks.set d { u with
             channels := ⟨young u.channels.c1, young u.channels.c2, young u.channels.c3,
                          young u.channels.c4⟩ } })

/-- R23: the operator zero, judged in the order of its table. That STABLE reads clear at once, and not only
from the next set, is log entry 29. -/
def Obligations.OperatorZeroIsJudgedInOrder : Prop :=
  ∀ (d : Deck) (s : State),
    let u := s.deck d
    let offset (z : Int) : Int := rna ((z - u.params.z0) * u.params.span) 16777216
    if s.metro.switchOn = true then Refused (.deckZero d) .state s
    else if u.seq.state ≠ .idle then Refused (.deckZero d) .busy s
    else
      match u.wcu.latest with
      | none => Answers (.deckZero d) (.er .refused ["UNSTABLE"]) s
      | some p =>
        if p.invalid = true ∨ p.stable = false then
          Answers (.deckZero d) (.er .refused ["UNSTABLE"]) s
        else if 50 * (offset p.a).natAbs ≤ u.params.max then
          AnswersWith (.deckZero d) (.ok [toString (offset p.a)]) s
            (s.modWcu d fun w => { w with
              zero := p.a, stabWin := [], latest := some { p with stable := false } })
        else Answers (.deckZero d) (.er .refused ["RANGE"]) s

/-- R3: a conversion result at its channel, and nowhere else but in the fault table's signal. A
condition that a DECK x RESET left to be signalled again is signalled after it (R8; the order is log
entry 9). -/
def Obligations.ConversionResultUpdatesChannel : Prop :=
  ∀ (d : Deck) (ch : Chan) (n : Int) (s : State),
    let c := (s.deck d).channels.get ch
    let run (c' : Channel) (f : State → State) : Prop :=
      exec (.conversionResult d ch n) s = .next (f (s.setChannel d ch c'))
    let got : Channel :=
      { c with count := n, age := 0, delivered := true, inSlot := true, saturated := false,
               resignal := false }
    (c.inForce = false → exec (.conversionResult d ch n) s = .next s)
    ∧ (c.inForce = true → c.resignal = false →
        (n.natAbs < 8380000 → c.condition = false → run got id)
        ∧ (n.natAbs < 8380000 → c.condition = true → c.goodRun < 15 →
            run { got with goodRun := c.goodRun + 1 } id)
        ∧ (n.natAbs < 8380000 → c.condition = true → c.goodRun = 15 →
            run { got with goodRun := 0, condition := false } (condEnds (.cell d ch)))
        ∧ (8380000 ≤ n.natAbs → c.condition = true →
            run { got with saturated := true, goodRun := 0 } id)
        ∧ (8380000 ≤ n.natAbs → c.condition = false →
            run { got with saturated := true, goodRun := 0, condition := true }
              (condArises (.cell d ch))))
    ∧ (c.inForce = true → c.resignal = true → ∀ t,
        exec (.conversionResult d ch n) (s.setChannel d ch { c with resignal := false }) = .next t →
        exec (.conversionResult d ch n) s = .next
          (if ((t.deck d).channels.get ch).condition = true then condArises (.cell d ch) t else t))

/-- R6, R7, R10 to R19, R21: the set that a slot end completes on a healthy deck, with its windows and
zero. R29, R32, R108: the set is then read by the capture logic and by the not-clear test. That a set
which passes the grant test is noted, to be granted by CAPTURE_GRANT, is log entry 2; the order of the
work within a slot end is log entry 9. -/
def Obligations.SlotEndPublishesSet : Prop :=
  ∀ (d : Deck) (s : State),
    let u := s.deck d
    let p := u.params
    let w := u.wcu
    (∀ ch : Chan,
      let c := u.channels.get ch
      c.inForce = p.cells.get ch ∧ c.inSlot = c.inForce ∧ c.delivered = c.inForce
        ∧ c.age = 0 ∧ c.resignal = false) →
    let t (ch : Chan) : Int :=
      if p.cells.get ch then rna ((u.channels.get ch).count * p.trims.get ch) 16384 else 0
    let sum := t .c1 + t .c2 + t .c3 + t .c4
    let win := (w.filterWin ++ [sum]).drop (w.filterWin.length + 1 - w.filterLen)
    let a := rna win.sum win.length
    let wt := clampInt (-999999) 999999 (rna ((a - w.zero) * p.span) 16777216)
    let stab := (w.stabWin ++ [wt]).drop (w.stabWin.length + 1 - w.stabLen)
    let spread (lim : Int) : Prop := ∀ x ∈ stab, ∀ y ∈ stab, x - y ≤ lim
    ∃ (t : State) (q : Published),
      exec (.slotEnd d) s = .next t ∧ (t.deck d).wcu.latest = some q
        ∧ q.sum = sum ∧ q.a = a ∧ q.w = wt ∧ q.disp = p.interval * rna wt p.interval
        ∧ (q.overload = true ↔ (p.max : Int) + 9 * p.interval < wt)
        ∧ (q.underload = true ↔ wt < -(20 * (p.interval : Int)))
        ∧ (q.occupied = true ↔ 20 * (p.interval : Int) ≤ wt)
        ∧ (q.empty = true ↔ wt < 10 * (p.interval : Int))
        ∧ (q.invalid = true ↔ ∃ ch, p.cells.get ch = true ∧ (u.channels.get ch).saturated = true)
        ∧ (q.stable = true ↔ stab.length = w.stabLen ∧ stab ≠ []
            ∧ spread ((w.band * p.interval : Nat) : Int))
        ∧ (t.deck d).wcu.filterWin = win ∧ (t.deck d).wcu.stabWin = stab
        ∧ ((t.deck d).wcu.zero =
            if w.track = true ∧ q.invalid = false ∧ q.stable = true ∧ u.seq.state = .idle
                ∧ s.metro.switchOn = false ∧ 2 * wt.natAbs ≤ p.interval
                ∧ 50 * (rna ((a - p.z0) * p.span) 16777216).natAbs ≤ p.max
            then a else w.zero)
        ∧ t = { s with decks := t.decks, reports := t.reports }
        ∧ (∀ d', d' ≠ d → t.deck d' = s.deck d')
        ∧ t.deck d =
            { u with
              channels := (t.deck d).channels
              wcu := { w with latest := some q, filterWin := win, stabWin := stab
                              zero := (t.deck d).wcu.zero }
              capture := (t.deck d).capture
              notClear := (t.deck d).notClear }
        ∧ (∀ ch : Chan, (t.deck d).channels.get ch
            = { u.channels.get ch with delivered := false, inSlot := false })
        ∧ (let c := u.capture
           let seen : Capture :=
             if q.stable = false ∧ (c.state = .stageWrite ∨ (c.state = .waiting ∧ 2 ≤ c.stage)) then
               { c with motion := true }
             else c
           (t.deck d).capture =
             if c.state = .waiting ∧ c.orphan = false ∧ c.grantDue = none then
               match blockingOf { s with decks := s.decks.set d { u with capture := seen } } d q with
               | some word => { seen with blocking := some word }
               | none => { seen with blocking := some .append, grantDue := some q.disp }
             else seen)
        ∧ (let found : Prop :=
             q.empty = false ∧ s.part.run = true ∧ u.settings.mode ≠ .closed ∧ u.seq.state = .idle
           ((t.deck d).notClear = true ↔ q.empty = false ∧ (found ∨ u.notClear = true))
             ∧ (found → u.notClear = false →
                 t.reports = (offer .deckNotClear (.deck d) [] s).reports)
             ∧ (¬ (found ∧ u.notClear = false) → t.reports = s.reports))

/-- R4: a channel that stays without a conversion ages at its slot end, and becomes absent at age 4. R6:
a set waits for a channel that has neither delivered nor become absent, and the delivered marks stay. R7:
an absent channel lets its set complete with its last count, INVALID. R5: an enabled setting that has
changed takes effect and restarts the windows; that the channels age first and a set may complete at the
same slot end is log entry 9. -/
def Obligations.SlotEndAgesChannel : Prop :=
  (∀ (d : Deck) (ch : Chan) (s t : State),
    let c := (s.deck d).channels.get ch
    c.inForce = true → (s.deck d).params.cells.get ch = true → c.inSlot = false →
    c.resignal = false → exec (.slotEnd d) s = .next t →
      ((t.deck d).channels.get ch).age = min 255 (c.age + 1)
      ∧ ((t.deck d).channels.get ch).count = c.count
      ∧ (((t.deck d).channels.get ch).condition = true ↔ c.condition = true ∨ c.age = 3)
      ∧ (c.condition = true → ((t.deck d).channels.get ch).goodRun = 0)
      ∧ (c.condition = false → c.age = 3 → (s.faults.get (.cell d ch)).state ≠ .active →
          (t.faults.get (.cell d ch)).state = .active)
      ∧ t = { s with decks := t.decks, reports := t.reports, faults := t.faults })
  ∧ (∀ (d : Deck) (s : State),
       let u := s.deck d
       let aged (ch : Chan) : Nat :=
         let c := u.channels.get ch
         if c.inSlot then c.age else min 255 (c.age + 1)
       let ready (ch : Chan) : Prop := (u.channels.get ch).delivered = true ∨ 4 ≤ aged ch
       let part (ch : Chan) : Int :=
         if u.params.cells.get ch then
           rna ((u.channels.get ch).count * u.params.trims.get ch) 16384
         else 0
       (∀ ch : Chan, (u.channels.get ch).inForce = u.params.cells.get ch
          ∧ (u.channels.get ch).resignal = false) →
       ∃ t, exec (.slotEnd d) s = .next t
         ∧ (∀ ch : Chan, let c := u.channels.get ch
             let c' := (t.deck d).channels.get ch
             c'.inForce = c.inForce ∧ c'.count = c.count ∧ c'.saturated = c.saturated
               ∧ c'.age = if c.inForce then aged ch else c.age)
         ∧ ((∃ ch : Chan, u.params.cells.get ch = true ∧ ¬ ready ch) →
             (t.deck d).wcu = u.wcu ∧ (t.deck d).capture = u.capture
               ∧ (t.deck d).notClear = u.notClear
               ∧ ∀ ch : Chan,
                   ((t.deck d).channels.get ch).delivered = (u.channels.get ch).delivered)
         ∧ ((∀ ch : Chan, u.params.cells.get ch = true → ready ch) →
             (∀ ch : Chan, ((t.deck d).channels.get ch).delivered = false)
               ∧ ∃ q, (t.deck d).wcu.latest = some q
                 ∧ q.sum = part .c1 + part .c2 + part .c3 + part .c4
                 ∧ (q.invalid = true ↔ ∃ ch : Chan, u.params.cells.get ch = true
                     ∧ ((u.channels.get ch).saturated = true ∨ 4 ≤ aged ch))))
  ∧ (∀ (d : Deck) (ch : Chan) (s : State),
       let u := s.deck d
       let c := u.channels.get ch
       c.inForce ≠ u.params.cells.get ch →
       ∃ t, exec (.slotEnd d) s = .next t
         ∧ (let c' := (t.deck d).channels.get ch
            c'.inForce = u.params.cells.get ch ∧ c'.age = 0 ∧ c'.goodRun = 0
              ∧ c'.condition = false ∧ c'.delivered = false ∧ c'.count = c.count
              ∧ c'.saturated = c.saturated)
         ∧ (c.inForce = true → c.condition = true → (s.faults.get (.cell d ch)).state = .active →
             (t.faults.get (.cell d ch)).state = .latched)
         ∧ (1 ≤ u.wcu.filterLen → 1 ≤ u.wcu.stabLen →
             let w' := (t.deck d).wcu
             let ready (k : Chan) : Prop :=
               let x := u.channels.get k
               x.delivered = true ∨ 4 ≤ (if x.inSlot then x.age else min 255 (x.age + 1))
             (c.inForce = false → w'.latest = none ∧ w'.filterWin = [] ∧ w'.stabWin = [])
               ∧ (c.inForce = true →
                   (∀ k : Chan, u.params.cells.get k = true →
                     (u.channels.get k).inForce = true ∧ ready k) →
                   ∃ q, w'.latest = some q ∧ w'.filterWin = [q.sum] ∧ w'.stabWin = [q.w])))

/-- R189, R191: the value a numeric setting takes, and when it is said to be clamped; a stepped
setting takes the greatest legal value not above the number given. 00_scope.md, Rounding: the
roundings take the nearest integer, a tie going away from zero (RNA) or up (RNU). -/
def Obligations.SettingsClampAndRoundingsTakeNearest : Prop :=
  (∀ (lo hi dflt : Nat) (n : Int), lo ≤ hi →
     (SetArg.min.value lo hi dflt = lo ∧ SetArg.max.value lo hi dflt = hi
       ∧ SetArg.dflt.value lo hi dflt = dflt ∧ SetArg.min.clamped lo hi = false
       ∧ SetArg.max.clamped lo hi = false ∧ SetArg.dflt.clamped lo hi = false)
     ∧ (lo : Int) ≤ (SetArg.num n).value lo hi dflt ∧ (SetArg.num n).value lo hi dflt ≤ hi
     ∧ (n < lo → (SetArg.num n).value lo hi dflt = lo)
     ∧ ((lo : Int) ≤ n → n ≤ hi → ((SetArg.num n).value lo hi dflt : Int) = n)
     ∧ ((hi : Int) < n → (SetArg.num n).value lo hi dflt = hi)
     ∧ ((SetArg.num n).clamped lo hi = true ↔ n < lo ∨ (hi : Int) < n)
     ∧ ∀ legal : List Nat, legal.Pairwise (· < ·) → lo ∈ legal → (∀ v ∈ legal, lo ≤ v) →
         let r := (SetArg.num n).stepped legal lo hi dflt
         r ∈ legal ∧ ((lo : Int) ≤ n → (r : Int) ≤ n ∧ ∀ v ∈ legal, (v : Int) ≤ n → v ≤ r)
           ∧ (n < lo → r = lo)
           ∧ ((SetArg.num n).steppedDiffers legal lo = true ↔ (r : Int) ≠ n))
  ∧ ((∀ (n : Int) (d : Nat), 0 < d →
         (2 * (rna n d * d - n)).natAbs ≤ d
           ∧ ((2 * (rna n d * d - n)).natAbs = d → n.natAbs < (rna n d * d).natAbs))
       ∧ ∀ n d : Nat, 0 < d → 2 * (rnu n d * d) ≤ 2 * n + d ∧ 2 * n < 2 * (rnu n d * d) + d)

/-! ### Chapter 2: capture -/

/-- R29: the set is granted on exactly when every condition that applies holds, and else the first that
fails gives the blocking word; SlotEndPublishesSet says that a published set is judged by it. R31, R36: a
grant that is due is carried out, and a command with none due does nothing. That the grant is a step of
its own, made with the D noted and without judging the conditions again, is log entry 2. -/
def Obligations.CaptureGrantsFollowTheTable : Prop :=
  (∀ (s : State) (d : Deck) (p : Published),
     let u := s.deck d
     let c := u.capture
     let e : Int := u.params.interval
     let final := decide (c.stageCount ≤ c.stage)
     (blockingOf s d p = none ↔
       s.oos d = false
         ∧ (s.driver (d.endAt .one)).state = .down ∧ (s.driver (d.endAt .two)).state = .down
         ∧ p.invalid = false ∧ p.overload = false ∧ p.underload = false ∧ p.stable = true
         ∧ 20 * e ≤ p.disp ∧ p.disp ≤ u.params.max
         ∧ (2 ≤ c.stage → c.motion = true)
         ∧ (2 ≤ c.stage → 10 * e ≤ (p.disp - c.lastValue).natAbs)
         ∧ (final = true → u.lines.beam1 = false ∧ u.lines.beam2 = false)
         ∧ (final = true → 2 ≤ c.stage → c.total + p.disp ≤ 3 * u.params.max))
     ∧ (s.oos d = true → blockingOf s d p = some .oos)
     ∧ (s.oos d = false → s.bothDown d = false → blockingOf s d p = some .barrier)
     ∧ blockingOf s d p =
         (if s.oos d = true then some .oos
          else if (s.driver (d.endAt .one)).state ≠ .down ∨ (s.driver (d.endAt .two)).state ≠ .down
            then some .barrier
          else if p.invalid = true then some .invalid
          else if p.overload = true then some .overload
          else if p.underload = true then some .underload
          else if p.stable = false then some .unstable
          else if p.disp < 20 * e then some .light
          else if (u.params.max : Int) < p.disp then some .heavy
          else if 2 ≤ c.stage ∧ c.motion = false then some .motion
          else if 2 ≤ c.stage ∧
              ((p.disp - ((c.stages.getLast?).map (·.value)).getD 0).natAbs : Int) < 10 * e
            then some .diff
          else if c.stageCount ≤ c.stage ∧ (u.lines.beam1 = true ∨ u.lines.beam2 = true)
            then some .beam
          else if c.stageCount ≤ c.stage ∧ 2 ≤ c.stage ∧
              3 * (u.params.max : Int) < (c.stages.map (·.value)).sum + p.disp
            then some .total
          else none))
  ∧ (∀ (d : Deck) (s : State),
       let u := s.deck d
       let c := u.capture
       let total := (c.stages.map (·.value)).foldl (· + ·) 0
       let append (b : Body) : Journal :=
         { s.journal with
           pending := s.journal.pending ++
             [{ requester := .capture d, deck := some d, body := b, attempt := 1 }] }
       let committing : Sequencer := { u.seq with state := .committing, weighTimer := .stopped }
       (c.grantDue = none → exec (.captureGrant d) s = .next s)
       ∧ ∀ v r, c.grantDue = some v → c.request = some r → c.state = .waiting →
           if c.stage < c.stageCount then
             exec (.captureGrant d) s = .next { s with
               journal := append (.stage v c.stage r.tag r.visit)
               decks := s.decks.set d { u with
                 capture := { c with
                   stages := c.stages ++ [{ value := v, seq := none }], motion := false
                   flashLit := if c.drawForward then c.flashLit else true
                   drawForward := true, state := .stageWrite, blocking := some .append
                   grantDue := none } } }
           else if c.stageCount = 1 then
             exec (.captureGrant d) s = .next { s with
               journal := append (.weigh v r.role r.tag r.visit [])
               decks := s.decks.set d { u with
                 seq := committing
                 capture := { c with
                   state := .weighWrite, blocking := some .append, drawForward := false
                   flashLit := false, grantDue := none, weighValue := v } } }
           else
             exec (.captureGrant d) s = .next { s with
               journal := append (.stage v c.stage r.tag r.visit)
               decks := s.decks.set d { u with
                 seq := committing
                 capture := { c with
                   stages := c.stages ++ [{ value := v, seq := none }]
                   state := .weighWrite, blocking := some .append, drawForward := false
                   flashLit := false, grantDue := none, weighValue := total + v } } })

/-- R28, R30, R35, R42: the chapter's other commands (R28 stands in section 2.1). -/
def Obligations.CaptureCommandsAct : Prop :=
  ∀ (d : Deck) (n : EndNo) (b : Bool) (s : State),
    let u := s.deck d
    let c := u.capture
    let put (c' : Capture) : State := { s with decks := s.decks.set d { u with capture := c' } }
    let beam (x : Bool) : String := if x then "BROKEN" else "CLEAR"
    exec (.lampFlashToggle d) s
        = .next (if c.drawForward then put { c with flashLit := !c.flashLit } else s)
      ∧ exec (.beamChange d n b) s = .next { s with
          decks := s.decks.set d { u with
            lines := if n = .one then { u.lines with beam1 := b } else { u.lines with beam2 := b } } }
      ∧ (s.part.run = true → Refused (.deckStaged d (some b)) .state s)
      ∧ (s.part.run = false →
          AnswersWith (.deckStaged d (some b)) (.ok []) s (put { c with staged := b })
            ∧ Refused (.deckStaged d none) .param s)
      ∧ Answers (.deckStagedQuery d) (.ok [if c.staged then "YES" else "NO"]) s
      ∧ Answers (.deckBeamsQuery d) (.ok [beam u.lines.beam1, beam u.lines.beam2]) s
      ∧ (c.state = .idle → Answers (.deckCaptureQuery d) (.ok ["IDLE"]) s)
      ∧ (c.state ≠ .idle → Answers (.deckCaptureQuery d)
          (.ok ([captureWord c.state, toString c.stage, toString c.stageCount,
            if c.motion then "Y" else "N", dash blockWord c.blocking]
            ++ c.stages.flatMap fun en => [toString en.value, dash (fun q : Nat => toString q) en.seq])) s)

/-! ### Chapter 3: calibration -/

/-- R44, R52, R54: the calibration switch's events, and the comparison at power-on. R55: a CALIB record
formed is requested at once, waits behind one in progress, or is merged into one that waits. That the
switch's rows do nothing while the comparison is due or when they bring no change is log entry 21. What
restartBoth does is stated in WeighingSettingsAndQueries. -/
def Obligations.CalSwitchEvents : Prop :=
  ∀ s : State,
    let m := s.metro
    let on : State := offer .calOn .none []
      { s with metro := { m with
          compareDue := false, switchOn := true
          snapshot := ⟨s.decks.a.params, s.decks.b.params⟩, changed := ⟨.none, .none⟩ } }
    let names (f : ChangedFlags) : List ParamName :=
      (if f.max then [.max] else []) ++ (if f.e then [.e] else []) ++ (if f.k then [.k] else [])
        ++ (if f.z0 then [.z0] else []) ++ (if f.trims.c1 then [.g1] else [])
        ++ (if f.trims.c2 then [.g2] else []) ++ (if f.trims.c3 then [.g3] else [])
        ++ (if f.trims.c4 then [.g4] else []) ++ (if f.cells then [.cells] else [])
    let off (t : State) : Prop :=
      let s0 := restartBoth { s with metro := { m with compareDue := false, switchOn := false } }
      if names m.changed.a = [] ∧ names m.changed.b = [] then
        t = offer .calOff .none [toString m.count, "UNCHANGED"] s0
      else
        let count := min 65535 (m.count + 1)
        t = offer .calOff .none [toString count, "CHANGED"]
          (formCalib { cause := .switch, names := ⟨names m.changed.a, names m.changed.b⟩ }
            { s0 with metro := { s0.metro with count := count, changed := ⟨.none, .none⟩ } })
    (m.compareDue = false → m.switchOn = false → exec .calSwitchOn s = .next on)
      ∧ (m.compareDue = false → m.switchOn = true →
          exec .calSwitchOn s = .next s ∧ ∃ t, exec .calSwitchOff s = .next t ∧ off t)
      ∧ (m.compareDue = false → m.switchOn = false → exec .calSwitchOff s = .next s)
      ∧ (m.compareDue = false → ∀ b, exec (.calPowerUpCompare b) s = .next s)
      ∧ (m.compareDue = true →
          exec .calSwitchOn s = .next s ∧ exec .calSwitchOff s = .next s
            ∧ (m.switchOn = false → exec (.calPowerUpCompare true) s = .next on
                ∧ exec (.calPowerUpCompare false) s
                    = .next { s with metro := { m with compareDue := false } })
            ∧ (m.switchOn = true →
                exec (.calPowerUpCompare true) s
                    = .next (offer .calOn .none [] { s with metro := { m with compareDue := false } })
                  ∧ ∃ t, exec (.calPowerUpCompare false) s = .next t ∧ off t))
      ∧ (∀ c : CalibBody,
          let both (x y : List ParamName) : List ParamName :=
            [.max, .e, .k, .z0, .g1, .g2, .g3, .g4, .cells].filter fun n => x.contains n || y.contains n
          (m.inProgress = none → formCalib c s = { s with
              metro := { m with inProgress := some c }
              journal := { s.journal with pending := s.journal.pending ++
                [{ requester := .metrology, deck := none, body := .calib c, attempt := 1 }] } })
            ∧ (m.inProgress ≠ none → m.waiting = none →
                formCalib c s = { s with metro := { m with waiting := some c } })
            ∧ (∀ w, m.inProgress ≠ none → m.waiting = some w →
                formCalib c s = { s with metro := { m with
                  waiting := some { w with
                    names := ⟨both w.names.a c.names.a, both w.names.b c.names.b⟩ } } }))

/-- R46: access to the calibration commands with the switch off. That it is judged before the form of the
parameters is log entry 38. -/
def Obligations.CalibrationAccessIsJudgedFirst : Prop :=
  ∀ (d : Deck) (s : State) (a b c f g : Option Int) (h : Option (Int × Int)) (l : Option (List Int)),
    let all (code : ErCode) : Prop :=
      Refused (.calMax d a) code s ∧ Refused (.calInterval d b) code s
        ∧ Refused (.calTrim d h) code s ∧ Refused (.calCells d l) code s
        ∧ Refused (.calZero d) code s ∧ Refused (.calSpan d c) code s
        ∧ Refused (.calK d f) code s ∧ Refused (.calZ0 d g) code s
    (s.metro.switchOn = false → s.metro.lock = true → all .locked)
      ∧ (s.metro.switchOn = false → s.metro.lock = false → s.part.run = true → all .state)

/-- R46 to R51, R53: a calibration command that passes access writes its parameter, moves Z to Z0
where the manual says so, and marks the parameter's changed flag with the switch on. An unchanged value
writes nothing, for ZERO and SPAN too: log entry 11. That an emptied stability window clears STABLE at once
is log entry 29, and that a restart of the windows shows NOSET at once, but not over NEXT, is log entry 10. -/
def Obligations.CalibrationWrites : Prop :=
  ∀ (d : Deck) (s : State),
    (s.metro.switchOn = true ∨ (s.metro.lock = false ∧ s.part.run = false)) →
    let u := s.deck d
    let p := u.params
    let w := u.wcu
    let held (p' : Params) (n : ParamName) (w' : Wcu) (c' : Capture) : State :=
      let flags := (s.metro.changed.get d).put n (p'.differs (s.metro.snapshot.get d) n)
      let marked : Metro := { s.metro with changed := s.metro.changed.set d flags }
      { s with
        decks := s.decks.set d { u with params := p', wcu := w', capture := c' }
        metro := if s.metro.switchOn then marked else s.metro }
    let word (q : Params) : String := if q.max ≤ 10000 * q.interval then "CONSISTENT" else "INCONSISTENT"
    let anew (z : Int) : Wcu := { w with zero := z, filterWin := [], stabWin := [], latest := none }
    let unsettled (z : Int) : Wcu :=
      { w with zero := z, stabWin := [], latest := w.latest.map fun q => { q with stable := false } }
    let nosetShown : Capture :=
      let c := u.capture
      if c.state = .waiting ∧ c.orphan = false ∧ c.grantDue = none
          ∧ c.blocking ≠ some .next then
        { c with blocking := some .noset }
      else c
    let settled : Option Published :=
      match w.latest with
      | some q => if q.invalid = false ∧ q.stable = true then some q else none
      | none => none
    (∀ v : Nat, 1000 ≤ v → v ≤ 150000 →
      let p' := { p with max := v }
      AnswersWith (.calMax d (some v)) (.ok [toString v, word p']) s
        (if p.max = v then s else held p' .max { w with zero := p.z0 } u.capture))
    ∧ (∀ v : Nat, v ∈ [1, 2, 5, 10, 20, 50, 100] →
      let p' := { p with interval := v }
      AnswersWith (.calInterval d (some v)) (.ok [toString v, word p']) s
        (if p.interval = v then s else held p' .e w u.capture))
    ∧ (∀ (ch : Chan) (g : Nat), 8192 ≤ g → g ≤ 24576 →
      let p' := { p with trims := p.trims.set ch g }
      AnswersWith (.calTrim d (some ((ch.num : Int), (g : Int))))
        (.ok (p'.trims.toList.map fun x : Nat => toString x)) s
        (if p.trims.get ch = g then s else held p' (trimName ch) (anew p.z0) nosetShown))
    ∧ (∀ (ns : List Int) (c : PerChan Bool), cellsOf ns = some c →
      AnswersWith (.calCells d (some ns)) (.ok (cellNumbers c)) s
        (if p.cells = c then s else held { p with cells := c } .cells (anew p.z0) nosetShown))
    ∧ (∀ k : Nat, 1 ≤ k → k ≤ 2147483647 →
      AnswersWith (.calK d (some k)) (.ok [toString k]) s
        (if p.span = k then s
         else held { p with span := k } .k (unsettled p.z0) u.capture))
    ∧ (∀ z : Int, -50331648 ≤ z → z ≤ 50331648 →
      AnswersWith (.calZ0 d (some z)) (.ok [toString z]) s
        (if p.z0 = z then s
         else held { p with z0 := z } .z0 (unsettled z) u.capture))
    ∧ (if u.seq.state ≠ .idle then Refused (.calZero d) .busy s
       else
        match settled with
        | none => Answers (.calZero d) (.er .refused ["UNSTABLE"]) s
        | some q =>
          AnswersWith (.calZero d) (.ok [toString q.a]) s
            (if p.z0 = q.a then s
             else held { p with z0 := q.a } .z0 (unsettled q.a) u.capture))
    ∧ (∀ m : Int,
      if m < 20 * p.interval ∨ p.max < m then Refused (.calSpan d (some m)) .param s
      else if u.seq.state ≠ .idle then Refused (.calSpan d (some m)) .busy s
      else
        match settled with
        | none => Answers (.calSpan d (some m)) (.er .refused ["UNSTABLE"]) s
        | some q =>
          if q.a - p.z0 ≤ 0 then Answers (.calSpan d (some m)) (.er .refused ["NOLOAD"]) s
          else
            let k := rna (m * 16777216) (q.a - p.z0).toNat
            if 1 ≤ k ∧ k ≤ 2147483647 then
              AnswersWith (.calSpan d (some m)) (.ok [toString k.toNat]) s
                (if p.span = k.toNat then s
                 else held { p with span := k.toNat } .k (unsettled p.z0) u.capture)
            else Answers (.calSpan d (some m)) (.er .refused ["RANGE"]) s)
    ∧ (∀ v : Int,
      (v < 1000 ∨ 150000 < v → Refused (.calMax d (some v)) .param s)
        ∧ (v ∉ [1, 2, 5, 10, 20, 50, 100] → Refused (.calInterval d (some v)) .param s)
        ∧ (∀ n : Int, n < 1 ∨ 4 < n ∨ v < 8192 ∨ 24576 < v →
            Refused (.calTrim d (some (n, v))) .param s)
        ∧ (v < 1 ∨ 2147483647 < v → Refused (.calK d (some v)) .param s)
        ∧ (v < -50331648 ∨ 50331648 < v → Refused (.calZ0 d (some v)) .param s))
    ∧ (∀ ns : List Int, ns = [] ∨ (∃ n ∈ ns, n < 1 ∨ 4 < n) ∨ ¬ ns.Nodup →
        Refused (.calCells d (some ns)) .param s)
    ∧ Refused (.calMax d none) .param s ∧ Refused (.calInterval d none) .param s
    ∧ Refused (.calTrim d none) .param s ∧ Refused (.calCells d none) .param s
    ∧ Refused (.calSpan d none) .param s ∧ Refused (.calK d none) .param s
    ∧ Refused (.calZ0 d none) .param s

/-- R56, R57: the lock and the chapter's queries. -/
def Obligations.VerificationLockAndQueries : Prop :=
  ∀ (d : Deck) (s : State),
    let m := s.metro
    let u := s.deck d
    let p := u.params
    (if m.lock = true then Refused .metroLock .locked s
     else if s.part.run = true ∨ m.switchOn = true then Refused .metroLock .state s
     else if m.inProgress ≠ none ∨ m.waiting ≠ none then Refused .metroLock .busy s
     else
      let c : CalibBody := { cause := .lock, names := ⟨[], []⟩ }
      AnswersWith .metroLock (.ok [toString m.count]) s { s with
        metro := { m with lock := true, inProgress := some c }
        journal := { s.journal with
          pending := s.journal.pending ++
            [{ requester := .metrology, deck := none, body := .calib c, attempt := 1 }] } })
      ∧ Answers .metroQuery
          (.ok [if m.switchOn then "ON" else "OFF", if m.lock then "SET" else "CLEAR",
            toString m.count,
            if m.waiting ≠ none then "WRITING+WAITING"
              else if m.inProgress ≠ none then "WRITING" else "NONE",
            commas (m.changed.a.names.map paramWord), commas (m.changed.b.names.map paramWord)]) s
      ∧ Answers (.calParamQuery d)
          (.ok [toString p.max, toString p.interval, toString p.span, toString p.z0,
            toString p.trims.c1, toString p.trims.c2, toString p.trims.c3, toString p.trims.c4,
            commas (cellNumbers p.cells),
            if p.max ≤ 10000 * p.interval then "CONSISTENT" else "INCONSISTENT",
            toString (rna ((u.wcu.zero - p.z0) * p.span) 16777216)]) s

/-- R46, R56: with the lock SET and the switch off, no command changes a metrological parameter.
R53, R56: no command clears the verification lock, and none lowers the calibration count. -/
def Obligations.LockHoldsAndCountNeverFalls : Prop :=
  (∀ (i : Instr) (s t : State), s.metro.lock = true → s.metro.switchOn = false →
     exec i s = .next t → ∀ d : Deck, (t.deck d).params = (s.deck d).params)
  ∧ (∀ (i : Instr) (s t : State), exec i s = .next t →
       (s.metro.lock = true → t.metro.lock = true)
         ∧ (s.metro.count ≤ 65535 → s.metro.count ≤ t.metro.count ∧ t.metro.count ≤ 65535))

/-! ### Chapter 4: barriers -/

/-- R59, R61, R70, R71: the safety loop and its detector's fault line. R109, R111: a change of the reading
at the passage end sets the passage mark and starts or stops the tailgate timer. -/
def Obligations.SafetyLoopEvents : Prop :=
  ∀ (e : EndId) (s : State),
    let l := (s.station e).lines
    let b := s.driver e
    let only (t : State) : Prop :=
      t = { s with decks := t.decks, ends := t.ends, faults := t.faults, reports := t.reports }
        ∧ (∀ e', e' ≠ e → t.station e' = s.station e') ∧ (t.station e).machine = (s.station e).machine
    let u := s.deck e.deck
    let q := u.seq
    let through : Prop :=
      ((q.state = .entering ∨ q.state = .ejecting) ∧ q.approach = some e)
        ∨ (q.state = .departing ∧ q.approach = some e.other)
    let cleared (t : State) (now : Bool) : Prop :=
      (s.safetyOcc e = true → now = false → through →
          t.decks = s.decks.set e.deck { u with seq := { q with tailgate := .stopped } })
        ∧ (¬ (s.safetyOcc e = true ∧ now = false ∧ through) → t.decks = s.decks)
    let becomesOccupied (t : State) : Prop :=
      only t ∧ t.safetyOcc e = true
        ∧ (s.safetyOcc e = false → through → t.decks = s.decks.set e.deck { u with
            seq := { q with
              passageMark := true
              tailgate := if q.state = .ejecting then q.tailgate
                else .running u.settings.tailgateTime } })
        ∧ (¬ (s.safetyOcc e = false ∧ through) → t.decks = s.decks)
        ∧ (b.state = .down ∨ b.state = .raising ∨ b.state = .up ∨ s.safetyOcc e = true →
            t.driver e = b)
        ∧ (s.safetyOcc e = false → b.state = .lowering →
            t.driver e = Driver.drivenUp { b with pending := .lower } l
              ∧ ((t.driver e).state = .fault → (t.faults.get (.bar e)).state = .active))
        ∧ (s.safetyOcc e = false → b.state = .fault → b.commanded = .down →
            (t.driver e).state = .fault ∧ (t.driver e).commanded = .up
              ∧ (t.driver e).raiseOut = true)
    (∃ t, exec (.safetyOccupied e) s = .next t ∧ becomesOccupied t
        ∧ (t.station e).lines = { l with safety := true })
      ∧ (∃ t, exec (.safetyClear e) s = .next t ∧ only t ∧ t.driver e = b ∧ t.faults = s.faults
          ∧ (t.station e).lines = { l with safety := false } ∧ t.safetyOcc e = l.loopfault
          ∧ cleared t l.loopfault)
      ∧ (l.loopfault = true → exec (.loopfaultActive e) s = .next s)
      ∧ (l.loopfault = false → ∃ t, exec (.loopfaultActive e) s = .next t ∧ becomesOccupied t
          ∧ (t.station e).lines = { l with loopfault := true }
          ∧ (t.faults.get (.loop e)).state = .active)
      ∧ (l.loopfault = false → exec (.loopfaultInactive e) s = .next s)
      ∧ (l.loopfault = true → ∃ t, exec (.loopfaultInactive e) s = .next t ∧ only t
          ∧ t.driver e = b ∧ (t.station e).lines = { l with loopfault := false }
          ∧ t.safetyOcc e = l.safety ∧ (t.faults.get (.loop e)).state ≠ .active
          ∧ cleared t l.safety)

/-- R64, R67, R68, R69: the ends of travel, of a pulse, and the feedback of a CONFIRMED driver. R73: in
FAULT its condition follows the agreement of feedback and commanded position. R65,
R66, R71: requests that stand pending are executed when their interlocks permit, and are left alone
when they do not. R64, R68: a CONFIRMED drive whose input reads at position already ends at once. -/
def Obligations.BarrierTravelAndPendingRequests : Prop :=
  (∀ (e : EndId) (s : State),
     let b := s.driver e
     let ended (st : BarrierState) : State :=
       s.modDriver e fun b => { b with state := st, travel := .stopped }
     let faulted (i : Instr) (c : BarrierCause) : Prop :=
       ∃ t, exec i s = .next t ∧ (t.driver e).state = .fault ∧ (t.driver e).cause = c
         ∧ (t.driver e).travel = .stopped ∧ (t.driver e).pending ≠ .lower
         ∧ t = { s with ends := t.ends, faults := t.faults, reports := t.reports }
         ∧ ∀ e', e' ≠ e → t.station e' = s.station e'
     let fb (inp : FeedbackInput) (v : Bool) : State := s.modLines e fun l => setFeedback l inp v
     (b.travel.isRunning = false → exec (.travelTimerExpiry e) s = .next s)
       ∧ (b.travel.isRunning = true → b.state = .raising →
           (b.mode ≠ .confirmed → exec (.travelTimerExpiry e) s = .next (ended .up))
             ∧ (b.mode = .confirmed → faulted (.travelTimerExpiry e) .notUp))
       ∧ (b.travel.isRunning = true → b.state = .lowering →
           (b.mode ≠ .confirmed →
             exec (.travelTimerExpiry e) s = .next (seqBarrierDown e (ended .down)))
             ∧ (b.mode = .confirmed → faulted (.travelTimerExpiry e) .notDown))
       ∧ exec (.pulseTimerExpiry e) s
           = .next (if b.pulsing then s.modDriver e fun b =>
               { b with pulsing := false, raiseOut := false, lowerOut := false } else s)
       ∧ (∀ inp v,
           (b.mode ≠ .confirmed → (b.state = .fault → b.condition = false) →
             exec (.feedbackChange e inp v) s = .next (fb inp v))
           ∧ (b.mode = .confirmed →
               let l := ((fb inp v).station e).lines
               (b.state ≠ .fault → l.up = true → l.down = true →
                 faulted (.feedbackChange e inp v) .both)
               ∧ (b.state = .raising → l.down = false → exec (.feedbackChange e inp v) s
                   = .next (if l.up then (fb inp v).modDriver e fun b =>
                       { b with state := .up, travel := .stopped } else fb inp v))
               ∧ (b.state = .lowering → l.up = false → exec (.feedbackChange e inp v) s
                   = .next (if l.down then seqBarrierDown e ((fb inp v).modDriver e fun b =>
                       { b with state := .down, travel := .stopped }) else fb inp v))
               ∧ (b.state = .down → l.down = false → faulted (.feedbackChange e inp v) .left)
               ∧ (b.state = .down → l.down = true → l.up = false →
                   exec (.feedbackChange e inp v) s = .next (fb inp v))
               ∧ (b.state = .up → l.up = false → faulted (.feedbackChange e inp v) .left)
               ∧ (b.state = .fault →
                   let agree : Prop :=
                     if b.commanded = .up then l.up = true ∧ l.down = false
                     else l.down = true ∧ l.up = false
                   let marked (c : Bool) : State :=
                     (fb inp v).modDriver e fun b => { b with condition := c }
                   (agree → b.condition = true →
                     exec (.feedbackChange e inp v) s = .next (condEnds (.bar e) (marked false)))
                   ∧ (¬ agree → b.condition = false →
                       exec (.feedbackChange e inp v) s = .next (condArises (.bar e) (marked true)))
                   ∧ ((agree ↔ b.condition = false) →
                       exec (.feedbackChange e inp v) s = .next (fb inp v))))))
  ∧ (∀ (e : EndId) (s : State),
       let b := s.driver e
       let l := (s.station e).lines
       let settled : State := s.modDriver e fun b => { b with pending := .none }
       let down : State := drivenDown e settled
       (b.pending = .raise → b.state = .down → (s.driver e.other).state = .down →
           exec (.pendingRaise e) s = .next (drivenUp e settled))
         ∧ (b.pending ≠ .raise ∨ b.state ≠ .down ∨ (s.driver e.other).state ≠ .down →
             exec (.pendingRaise e) s = .next s)
         ∧ (b.pending = .lower → s.safetyOcc e = false → (b.state = .raising ∨ b.state = .up) →
             exec (.pendingLower e) s
               = .next (if (down.driver e).state = .down then seqBarrierDown e down else down))
         ∧ (b.mode ≠ .confirmed ∨ l.down = false → (down.driver e).state = .lowering)
         ∧ (b.mode = .confirmed → l.down = true → l.up = false →
             (down.driver e).state = .down ∧ (down.driver e).travel = .stopped)
         ∧ (b.mode = .confirmed → l.down = true → l.up = true →
             (down.driver e).state = .fault ∧ (down.driver e).cause = .both
               ∧ (down.faults.get (.bar e)).state = .active)
         ∧ (b.pending ≠ .lower ∨ s.safetyOcc e = true ∨ b.state = .down ∨ b.state = .lowering
               ∨ b.state = .fault → exec (.pendingLower e) s = .next s))

/-- R72: no command but power-on and the reply that brings RESET ALL takes a barrier from DOWN to
RAISING or UP while the other barrier of its deck is not DOWN. -/
def Obligations.RaiseLeavesOtherBarrierDown : Prop :=
  ∀ (i : Instr) (s t : State) (e : EndId),
    (∀ p, i ≠ .powerOn p) → (s.link.resetAsked = true → ∀ r, i ≠ .replySent r) →
    exec i s = .next t → (s.driver e).state = .down →
    ((t.driver e).state = .raising ∨ (t.driver e).state = .up) → (t.driver e.other).state = .down

/-- R62, R63, R76, R77, R79: the barrier command lines. R58: polarity settings. A SAFETY or
LOOPFAULT line that was inactive becomes active with the change; the other inputs' changes arrive as
their own events (log entry 21). R62, R73: a change of mode in FAULT judges the driver's condition anew, and
a change to CONFIRMED over feedback that does not show DOWN is a fault. -/
def Obligations.BarrierCommandsAndPolarity : Prop :=
  (∀ (e : EndId) (s : State),
     let b := s.driver e
     let l := (s.station e).lines
     let u := s.deck e.deck
     let put (f : Driver → Driver) : State := s.modDriver e f
     let manual : Prop := s.part.run = true ∧ u.settings.mode = .closed ∧ b.state ≠ .fault
     (¬ (manual ∧ ((s.driver e.other).state = .down ∨ b.state = .raising ∨ b.state = .up)) →
         Refused (.barrierRaise e) .state s)
       ∧ (manual → b.state = .raising ∨ b.state = .up → AnswersWith (.barrierRaise e)
           (.ok [barrierWord b.state]) s (put fun b => { b with pending := .none }))
       ∧ (manual → (s.driver e.other).state = .down → b.state = .down ∨ b.state = .lowering →
           AnswersWith (.barrierRaise e)
             (.ok [if b.mode ≠ .confirmed ∨ l.up = false then "RAISING"
                   else if l.down = false then "UP" else "FAULT"]) s
             (drivenUp e (put fun b => { b with pending := .none })))
       ∧ (¬ manual → Refused (.barrierLower e) .state s)
       ∧ (manual →
           (b.state = .down ∨ b.state = .lowering →
             AnswersWith (.barrierLower e)
               (.ok (barrierWord b.state :: if b.pending = .lower then ["PENDING"] else [])) s
               (if b.pending = .raise then put fun b => { b with pending := .none } else s))
           ∧ (b.state = .raising ∨ b.state = .up → s.safetyOcc e = true →
               AnswersWith (.barrierLower e) (.ok [barrierWord b.state, "PENDING"]) s
                 (put fun b => { b with pending := .lower }))
           ∧ (b.state = .raising ∨ b.state = .up → s.safetyOcc e = false →
               AnswersWith (.barrierLower e)
                 (.ok [if b.mode ≠ .confirmed ∨ l.down = false then "LOWERING"
                       else if l.up = false then "DOWN" else "FAULT"]) s
                 (drivenDown e (put fun b => { b with pending := .none }))))
       ∧ (s.part.run = true → ∀ m v,
           Refused (.barrierMode e m) .state s ∧ Refused (.barrierPulse e v) .state s)
       ∧ (s.part.run = false →
           Refused (.barrierMode e none) .param s
           ∧ (∀ m, b.state = .raising ∨ b.state = .up ∨ b.state = .lowering →
               Refused (.barrierMode e (some m)) .busy s)
           ∧ (b.state = .down ∨ b.state = .fault →
               AnswersWith (.barrierMode e (some b.mode)) (.ok []) s s)
           ∧ (∀ m, b.state = .down → m ≠ b.mode → m ≠ .confirmed ∨ (l.down = true ∧ l.up = false) →
               AnswersWith (.barrierMode e (some m)) (.ok []) s (put fun b =>
                 { b with
                   mode := m, pulsing := false, lowerOut := false
                   raiseOut := decide (m ≠ .pulse ∧ b.commanded = .up) }))
           ∧ (∀ m, m ≠ b.mode →
               let turned (c : Bool) : Driver :=
                 { b with
                   mode := m, pulsing := false, lowerOut := false, condition := c
                   raiseOut := decide (m ≠ .pulse ∧ b.commanded = .up) }
               let agree : Prop :=
                 if b.commanded = .up then l.up = true ∧ l.down = false
                 else l.down = true ∧ l.up = false
               let quiet : Prop := m ≠ .confirmed ∨ agree
               (b.state = .fault → quiet → b.condition = true →
                 AnswersWith (.barrierMode e (some m)) (.ok []) s
                   (condEnds (.bar e) (put fun _ => turned false)))
               ∧ (b.state = .fault → ¬ quiet → b.condition = false →
                   AnswersWith (.barrierMode e (some m)) (.ok []) s
                     (condArises (.bar e) (put fun _ => turned true)))
               ∧ (b.state = .fault → (quiet ↔ b.condition = false) →
                   AnswersWith (.barrierMode e (some m)) (.ok []) s
                     (put fun _ => turned b.condition))
               ∧ (b.state = .down → m = .confirmed → ¬ (l.down = true ∧ l.up = false) →
                   let failed : Driver := { turned true with
                     state := .fault, cause := .notDown, travel := .stopped
                     pending := if b.pending = .lower then .none else b.pending }
                   (b.commanded = .up ∨ s.safetyOcc e = false →
                     AnswersWith (.barrierMode e (some m)) (.ok []) s
                       (condArises (.bar e) (put fun _ => failed)))
                   ∧ (b.commanded = .down → s.safetyOcc e = true →
                       ∃ t, AnswersWith (.barrierMode e (some m)) (.ok []) s t
                         ∧ t.driver e = { failed with
                             commanded := .up, raiseOut := true
                             condition := decide (¬ (l.up = true ∧ l.down = false)) }
                         ∧ (t.faults.get (.bar e)).state ≠ .clear
                         ∧ (∀ e', e' ≠ e → t.station e' = s.station e')
                         ∧ t = { s with
                             ends := t.ends, faults := t.faults, reports := t.reports })))
           ∧ Refused (.barrierPulse e none) .param s
           ∧ ∀ v : SetArg,
               AnswersWith (.barrierPulse e (some v))
                 (settingReply (v.clamped 100 2000) [v.value 100 2000 500]) s
                 (put fun b => { b with pulseWidth := v.value 100 2000 500 }))
       ∧ Refused (.barrierTravel e none) .param s
       ∧ (∀ v : SetArg,
           AnswersWith (.barrierTravel e (some v))
             (settingReply (v.clamped 1 20) [v.value 1 20 8]) s
             (put fun b => { b with travelTime := v.value 1 20 8 }))
       ∧ Answers (.barrierModeQuery e) (.ok [modeWord b.mode]) s
       ∧ Answers (.barrierPulseQuery e) (.ok [toString b.pulseWidth]) s
       ∧ Answers (.barrierTravelQuery e) (.ok [toString b.travelTime]) s
       ∧ Answers (.barrierQuery e)
           (.ok [barrierWord b.state, modeWord b.mode, positionWord b.commanded,
             pendingWord b.pending, causeWord b.cause,
             if l.safety = true ∨ l.loopfault = true then "OCC" else "CLEAR",
             if l.approach then "OCC" else "CLEAR",
             if l.loopfault then "ACTIVE" else "INACTIVE",
             if l.up = true ∧ l.down = true then "BOTH" else if l.up then "UP"
               else if l.down then "DOWN" else "NONE",
             if b.state = .up ∧ u.seq.passage = some e then "GREEN"
               else if u.capture.drawForward = true ∧ u.seq.approach = some e.other then "FLASH"
               else "RED"]) s)
  ∧ (∀ (e : EndId) (d : Deck) (s : State),
       (s.part.run = true → ∀ a b c, Refused (.endPolarity e a) .state s
           ∧ Refused (.deckPolarity d b) .state s ∧ Refused (.partPolarity c) .state s)
         ∧ (s.part.run = false →
             Refused (.endPolarity e none) .param s ∧ Refused (.deckPolarity d none) .param s
               ∧ Refused (.partPolarity none) .param s
               ∧ (∀ l v,
                   let t := s.modStation e fun x => { x with polarity := x.polarity.put l v }
                   ((s.station e).polarity.get l = v → AnswersWith (.endPolarity e (some (l, v))) (.ok []) s s)
                   ∧ ((s.station e).polarity.get l ≠ v →
                       AnswersWith (.endPolarity e (some (l, v))) (.ok []) s
                         (if l = .safety ∧ (s.station e).lines.safety = false then safetyActive e t
                          else if l = .loopfault then loopfaultOn e t else t)))
               ∧ (∀ l v, AnswersWith (.deckPolarity d (some (l, v))) (.ok []) s
                   (s.modDeck d fun u => { u with polarity := u.polarity.put l v }))
               ∧ (∀ v, AnswersWith (.partPolarity (some (.cal, v))) (.ok []) s
                     { s with part := { s.part with calPolarity := v } }
                   ∧ AnswersWith (.partPolarity (some (.attn, v))) (.ok []) s
                     { s with part := { s.part with attnPolarity := v } }))
         ∧ Refused (.endPolarityQuery e none) .param s ∧ Refused (.deckPolarityQuery d none) .param s
         ∧ Refused (.partPolarityQuery none) .param s
         ∧ (∀ l, Answers (.endPolarityQuery e (some l))
             (.ok [polarityWord ((s.station e).polarity.get l)]) s)
         ∧ (∀ l, Answers (.deckPolarityQuery d (some l))
             (.ok [polarityWord ((s.deck d).polarity.get l)]) s)
         ∧ Answers (.partPolarityQuery (some .cal)) (.ok [polarityWord s.part.calPolarity]) s
         ∧ Answers (.partPolarityQuery (some .attn)) (.ok [polarityWord s.part.attnPolarity]) s)

/-! ### Chapter 5: ends and admission -/

/-- R60, R84, R85, R94: the approach loop's two events. In SETUP the reading, the clear timer and the marks
follow the loop all the same: log entry 24. That a waking end with its conflict mark set and no held read
has no accepted tag is log entry 30. R92: a DETACHED link refuses what it would refer. What acceptTag does is stated in ReaderPortReads. -/
def Obligations.ApproachLoopEvents : Prop :=
  ∀ (e : EndId) (s : State),
    let l := (s.station e).lines
    let m := s.machine e
    let came : State := (s.modLines e fun l => { l with approach := true }).modMachine e fun m =>
      { m with clearTimer := .stopped }
    (l.approach = false → exec (.approachClear e) s = .next s)
      ∧ (l.approach = true → exec (.approachOccupied e) s = .next s
          ∧ exec (.approachClear e) s
            = .next ((s.modLines e fun l => { l with approach := false }).modMachine e fun m =>
              { m with heldRead := none, conflict := false, wrongWay := false
                       clearTimer := .running m.clearTime }))
      ∧ (l.approach = false →
          exec (.approachOccupied e) s = .next (wakeTest e came)
          ∧ (s.part.run = false ∨ m.state ≠ .idle → exec (.approachOccupied e) s = .next came)
          ∧ (s.part.run = true → m.state = .idle → s.isApproach e = false →
              exec (.approachOccupied e) s
                = .next (if m.wrongWay then came
                  else offer .wrongWay (.atEnd e) [] (came.modMachine e fun m =>
                    { m with wrongWay := true })))
          ∧ (s.part.run = true → m.state = .idle → s.isApproach e = true → m.heldRead = none →
              m.conflict = false →
              exec (.approachOccupied e) s = .next (came.modMachine e fun m =>
                { m with state := .identifying, movement := some (s.movementAt e)
                         idTimer := .running m.idTime }))
          ∧ (s.part.run = true → m.state = .idle → s.isApproach e = true → m.conflict = true →
              (s.link.attended = true → exec (.approachOccupied e) s
                = .next (offer .refer (.atEnd e) ["TAG_CONFLICT", dash tagText m.heldRead]
                    (came.modMachine e fun m =>
                      { m with
                        state := .referred, movement := some (s.movementAt e), tag := m.heldRead
                        reason := .tagConflict, prior := .none, idTimer := .stopped
                        decideTimer := .running m.decideTime })))
              ∧ (s.link.attended = false → exec (.approachOccupied e) s
                = .next (offer .refused (.atEnd e)
                    ["DETACHED", "TAG_CONFLICT", dash tagText m.heldRead]
                    ((came.removeVisit? m.visit).modMachine e fun m =>
                      { m with
                        state := .refused, movement := some (s.movementAt e), tag := m.heldRead
                        reason := .detached, prior := .tagConflict, visit := none
                        idTimer := .stopped, decideTimer := .stopped }))))
          ∧ (∀ g, s.part.run = true → m.state = .idle → s.isApproach e = true → m.conflict = false →
              m.heldRead = some g →
              exec (.approachOccupied e) s = .next (acceptTag e g (came.modMachine e fun m =>
                { m with state := .identifying, movement := some (s.movementAt e)
                         idTimer := .running m.idTime }))))

/-- R83, R84, R93: reads at a reader port whose fault condition is absent, and the condition itself. R86: a
tag accepted is decided on as one the host presents, which AdmissionDecision states. That a discarded LF
does not count toward a read's length is log entry 34; that an error run with the condition present signals
nothing is log entry 40. -/
def Obligations.ReaderPortReads : Prop :=
  (∀ cs : List RxChar,
    let kept : Text := cs.filterMap fun x =>
      match x with
      | .good c => if c = '\n' then none else some c
      | .error => none
    let digit (c : Char) : Option Nat :=
      ("0123456789ABCDEF".toList.idxOf? c).or ("0123456789abcdef".toList.idxOf? c)
    (RxChar.error ∈ cs ∨ kept.length ≠ 10 ∨ (∃ c ∈ kept, digit c = none) → readTag cs = none)
      ∧ (RxChar.error ∉ cs → kept.length = 10 → (∀ c ∈ kept, digit c ≠ none) →
          readTag cs
            = some (BitVec.ofNat 40 (kept.foldl (fun n c => 16 * n + (digit c).getD 0) 0))))
  ∧ (∀ (e : EndId) (g : Tag) (s : State), (s.machine e).state = .identifying →
      let t := acceptTag e g s
      AnswersWith (.endPresent e (some g))
        (.ok [endStateWord (t.machine e).state, reasonWord (t.machine e).reason]) s t)
  ∧ ∀ (e : EndId) (cs : List RxChar) (s : State),
    let l := (s.station e).lines
    let m := s.machine e
    let seen := m.tag.or m.heldRead
    (readTag cs = none → exec (.readReceived e cs) s = .next s)
      ∧ (m.rdrCondition = true → exec (.readerErrorRun e) s = .next s
          ∧ exec (.readerGoodRun e) s
            = .next (condEnds (.rdr e) (s.modMachine e fun m => { m with rdrCondition := false })))
      ∧ (m.rdrCondition = false → exec (.readerGoodRun e) s = .next s
          ∧ exec (.readerErrorRun e) s
            = .next (condArises (.rdr e) (s.modMachine e fun m => { m with rdrCondition := true })))
      ∧ ∀ t, readTag cs = some t →
          (m.rdrCondition = true → exec (.readReceived e cs) s
              = exec (.readReceived e cs) (condEnds (.rdr e) (s.modMachine e fun m =>
                  { m with rdrCondition := false })))
          ∧ (m.rdrCondition = false →
              (l.approach = false ∨ seen = some t → exec (.readReceived e cs) s = .next s)
              ∧ (l.approach = true → seen = none → m.state ≠ .identifying → m.state ≠ .referred →
                  exec (.readReceived e cs) s
                    = .next (s.modMachine e fun m => { m with heldRead := some t }))
              ∧ (l.approach = true → seen = none → m.state = .referred →
                  exec (.readReceived e cs) s
                    = .next (offer .refer (.atEnd e) [reasonWord m.reason, tagText t]
                        (s.modMachine e fun m => { m with heldRead := some t, tag := some t })))
              ∧ (l.approach = true → seen = none → m.state = .identifying →
                  exec (.readReceived e cs) s
                    = .next (acceptTag e t (s.modMachine e fun m => { m with heldRead := some t })))
              ∧ ∀ c, seen = some c → c ≠ t → l.approach = true →
                  (m.state = .idle ∨ m.state = .active ∨ m.state = .refused →
                    exec (.readReceived e cs) s
                      = .next (s.modMachine e fun m => { m with conflict := true }))
                  ∧ (m.state = .referred → exec (.readReceived e cs) s
                      = .next (offer .refer (.atEnd e) ["TAG_CONFLICT", dash tagText m.tag]
                          (s.modMachine e fun m =>
                            { m with conflict := true, reason := .tagConflict })))
                  ∧ (m.state = .held ∨ m.state = .ready → s.link.attended = true →
                      m.clearTimer ≠ .expired →
                      exec (.readReceived e cs) s
                        = .next (offer .refer (.atEnd e) ["TAG_CONFLICT", dash tagText m.tag]
                            ((s.removeVisit? m.visit).modMachine e fun m =>
                              { m with
                                conflict := true, visit := none, state := .referred
                                reason := .tagConflict, prior := .none, idTimer := .stopped
                                decideTimer := .running m.decideTime })))
                  ∧ (m.state = .held ∨ m.state = .ready → s.link.attended = false →
                      m.clearTimer ≠ .expired →
                      exec (.readReceived e cs) s
                        = .next (offer .refused (.atEnd e)
                            ["DETACHED", "TAG_CONFLICT", dash tagText m.tag]
                            ((s.removeVisit? m.visit).modMachine e fun m =>
                              { m with
                                conflict := true, visit := none, state := .refused
                                reason := .detached, prior := .tagConflict, idTimer := .stopped
                                decideTimer := .stopped }))))

/-- R86 to R90, R125: the admission decision, taken on a tag that the host presents. R92: what an ATTENDED
end refers, a DETACHED one refuses. R94: an end whose clear timer has expired goes to IDLE at once. -/
def Obligations.AdmissionDecision : Prop :=
  ∀ (e : EndId) (g : Tag) (s : State),
    let m := s.machine e
    let i : Instr := .endPresent e (some g)
    let ends (st : EndState) (r : Reason) (words : List String) : Prop :=
      ∃ t, AnswersWith i (.ok words) s t ∧ (t.machine e).state = st ∧ (t.machine e).reason = r
        ∧ (t.machine e).tag = some g ∧ (t.machine e).idTimer = .stopped
        ∧ t = { s with ends := t.ends, visits := t.visits, reports := t.reports }
        ∧ (∀ e', e' ≠ e → t.station e' = s.station e')
        ∧ (st ≠ .ready → t.visits = s.visits)
    Refused (.endPresent e none) .param s
      ∧ (m.state ≠ .identifying → Refused i .state s)
      ∧ (m.state = .identifying → s.link.attended = true → m.clearTimer ≠ .expired →
          m.visit = none →
          (m.movement = some .outbound →
            match s.visitOf? g with
            | none => ends .referred .noVisit ["REFERRED", "NO_VISIT"]
            | some v =>
              if v.state = .onSite ∨ v.state = .settled then ends .ready .none ["READY", "NONE"]
              else ends .referred .visitBusy ["REFERRED", "VISIT_BUSY"])
          ∧ (m.movement = some .inbound →
            if (s.visitOf? g).isSome then ends .referred .duplicate ["REFERRED", "DUPLICATE"]
            else
              match s.decidingEntry g with
              | none =>
                if s.admission.policy = .refer then
                  ends .referred .unknown ["REFERRED", "UNKNOWN"]
                else ends .refused .unknown ["REFUSED", "UNKNOWN"]
              | some (_, en) =>
                (en.action = .refer → ends .referred .listed ["REFERRED", "LISTED"])
                ∧ (en.action = .refuse → ends .refused .listed ["REFUSED", "LISTED"])
                ∧ (en.action = .allow →
                    match s.account? en.account with
                    | none => ends .referred .noAccount ["REFERRED", "NO_ACCOUNT"]
                    | some a =>
                      if a.status ≠ .open then
                        ends .referred .accountStopped ["REFERRED", "ACCOUNT_STOPPED"]
                      else if en.cls ∉ a.classes then
                        ends .referred .classDenied ["REFERRED", "CLASS_DENIED"]
                      else if a.balance + a.limit < ((s.cls en.cls).minimum : Int) then
                        ends .referred .funds ["REFERRED", "FUNDS"]
                      else if s.metro.switchOn then ends .held .cal ["HELD", "CAL"]
                      else if 64 ≤ s.visits.table.length then
                        ends .held .yardFull ["HELD", "YARD_FULL"]
                      else if s.journal.erasedCount ≤ s.journal.low then
                        ends .held .journalLow ["HELD", "JOURNAL_LOW"]
                      else if s.outcomes.high ≤ s.outcomes.queue.length then
                        ends .held .outcomeHigh ["HELD", "OUTCOME_HIGH"]
                      else
                        ends .ready .none ["READY", "NONE"]
                        ∧ ∃ t, AnswersWith i (.ok ["READY", "NONE"]) s t
                          ∧ (t.machine e).visit = some s.visits.assign
                          ∧ ∃ v, t.visits.table = s.visits.table ++ [v]
                            ∧ v.number = s.visits.assign ∧ v.tag = g ∧ v.account = en.account
                            ∧ v.cls = en.cls ∧ v.state = .admitted ∧ v.holder = .atEnd e
                            ∧ v.opened = s.clock.now ∧ v.manual = false ∧ v.first = none
                            ∧ v.overstay = false
                            ∧ (v.kind = .onePass ↔ en.onePass = true
                                ∧ (s.cls en.cls).onePassOk = true ∧ (s.validTare g).isSome = true))))
      ∧ (m.state = .identifying → s.link.attended = false → m.clearTimer ≠ .expired →
          m.visit = none →
          ∀ t, exec i { s with link := { s.link with attended := true } } = .next t →
            ∃ t', exec i s = .next t'
              ∧ ((t.machine e).state ≠ .referred →
                  t'.machine e = t.machine e ∧ t'.visits = t.visits)
              ∧ ((t.machine e).state = .referred →
                  (t'.machine e).state = .refused ∧ (t'.machine e).reason = .detached
                    ∧ (t'.machine e).prior = (t.machine e).reason ∧ (t'.machine e).tag = some g
                    ∧ t'.visits = s.visits))
      ∧ (m.state = .identifying → m.clearTimer = .expired → m.movement ≠ none →
          ∃ t, exec i s = .next t ∧ (t.machine e).state = .idle ∧ (t.machine e).tag = none
            ∧ (t.machine e).visit = none ∧ (t.machine e).movement = none
            ∧ (∀ v ∈ t.visits.table, v ∈ s.visits.table))

/-- R86, R91, R92, R94: the host's decisions, the end's timers and the retest of a hold. R90: the holds, and
what the hold check does, and a visit opened for the tag meanwhile. -/
def Obligations.EndDecisionsAndTimers : Prop :=
  ∀ (e : EndId) (s : State),
    let m := s.machine e
    let refused (r : Reason) : State :=
      offer .refused (.atEnd e) [reasonWord r, reasonWord m.reason, dash tagText m.tag]
        ((s.removeVisit? m.visit).modMachine e fun x =>
          { x with state := .refused, reason := r, prior := m.reason, visit := none
                   idTimer := .stopped, decideTimer := .stopped })
    let detached (why : Reason) : State :=
      offer .refused (.atEnd e) ["DETACHED", reasonWord why, dash tagText m.tag]
        ((s.removeVisit? m.visit).modMachine e fun x =>
          { x with state := .refused, reason := .detached, prior := why, visit := none
                   idTimer := .stopped, decideTimer := .stopped })
    let idle : State := (s.removeVisit? m.visit).modMachine e fun x =>
      { x with state := .idle, movement := none, tag := none, reason := .none, prior := .none
               admission := none, visit := none, idTimer := .stopped, decideTimer := .stopped
               clearTimer := .expired }
    (m.state ≠ .referred → ∀ p, Refused (.endAdmit e p) .state s)
      ∧ (m.state = .referred → m.movement ≠ some .inbound ∨ m.tag = none →
          ∀ p, Refused (.endAdmit e p) .state s)
      ∧ (∀ g, m.state = .referred → m.movement = some .inbound → m.tag = some g →
          Refused (.endAdmit e none) .param s
          ∧ ∀ (n c : Nat) (one : Bool),
              let i : Instr := .endAdmit e (some ⟨n, c, one⟩)
              if n < 1 ∨ 999999 < n ∨ 15 < c then Refused i .param s
              else if s.account? n = none then Refused i .notFound s
              else if (s.visitOf? g).isSome then Refused i .busy s
              else
                ∃ t, AnswersWith i (.ok [endStateWord (t.machine e).state]) s t
                  ∧ t = holdCheck e (s.modMachine e fun m => { m with
                      admission := some ⟨n, c, if one then .onePass else .twoPass, true⟩ }))
      ∧ (m.state ≠ .referred → m.state ≠ .held → m.state ≠ .ready → Refused (.endRefuse e) .state s)
      ∧ (m.state = .referred ∨ m.state = .held ∨ m.state = .ready → m.clearTimer ≠ .expired →
          AnswersWith (.endRefuse e) (.ok []) s (refused .host))
      ∧ (m.state = .identifying → m.idTimer.isRunning = true → s.link.attended = true →
          m.clearTimer ≠ .expired →
          exec (.identificationTimerExpiry e) s
            = .next (offer .refer (.atEnd e) ["NO_TAG", dash tagText m.tag]
                (s.modMachine e fun m => { m with state := .referred, reason := .noTag, prior := .none
                                                  idTimer := .stopped
                                                  decideTimer := .running m.decideTime })))
      ∧ (m.state = .identifying → m.idTimer.isRunning = true → s.link.attended = false →
          m.clearTimer ≠ .expired →
          exec (.identificationTimerExpiry e) s = .next (detached .noTag))
      ∧ (m.state ≠ .identifying ∨ m.idTimer.isRunning = false →
          exec (.identificationTimerExpiry e) s = .next s)
      ∧ (m.state = .referred → m.decideTimer.isRunning = true → m.clearTimer ≠ .expired →
          exec (.decisionTimerExpiry e) s = .next (refused .timeout))
      ∧ (m.state ≠ .referred ∨ m.decideTimer.isRunning = false →
          exec (.decisionTimerExpiry e) s = .next s)
      ∧ (m.clearTimer.isRunning = false → exec (.clearTimerExpiry e) s = .next s)
      ∧ (m.clearTimer.isRunning = true → m.state = .idle ∨ m.state = .active →
          exec (.clearTimerExpiry e) s
            = .next (s.modMachine e fun m => { m with clearTimer := .expired }))
      ∧ (m.clearTimer.isRunning = true → m.state ≠ .idle → m.state ≠ .active →
          exec (.clearTimerExpiry e) s = .next idle)
      ∧ (m.state ≠ .held → exec (.holdRetest e) s = .next s)
      ∧ (m.state = .held → ∀ r, s.firstHold m.visit.isSome = some r →
          exec (.holdRetest e) s = .next (s.modMachine e fun m => { m with reason := r }))
      ∧ (m.state = .held → s.firstHold m.visit.isSome = none → m.visit ≠ none →
          m.clearTimer ≠ .expired →
          exec (.holdRetest e) s
            = .next (s.modMachine e fun m => { m with state := .ready, reason := .none
                                                      idTimer := .stopped, decideTimer := .stopped }))
      ∧ (m.state = .held → s.firstHold false = none → m.visit = none →
          exec (.holdRetest e) s = .next (holdCheck e s))
      ∧ (∀ g, s.firstHold false = none → m.visit = none → m.tag = some g → m.admission ≠ none →
          (s.visitOf? g).isSome = true → m.clearTimer ≠ .expired →
          let duplicate : State :=
            if s.link.attended = true then
              offer .refer (.atEnd e) ["DUPLICATE", tagText g] (s.modMachine e fun m =>
                { m with state := .referred, reason := .duplicate, prior := .none
                         idTimer := .stopped, decideTimer := .running m.decideTime })
            else detached .duplicate
          holdCheck e s = duplicate
            ∧ (m.state = .held → exec (.holdRetest e) s = .next duplicate))
      ∧ (m.state = .referred → m.movement = some .inbound → m.tag ≠ none → ∀ (n c : Int) (one : Bool),
          n < 1 ∨ 999999 < n ∨ c < 0 ∨ 15 < c →
          Refused (.endAdmit e (some { account := n, cls := c, onePass := one })) .param s)
      ∧ (m.state = .referred ∨ m.state = .held ∨ m.state = .ready → m.clearTimer = .expired →
          ∃ t, AnswersWith (.endRefuse e) (.ok []) s t ∧ (t.machine e).state = .idle
            ∧ (t.machine e).visit = none)
      ∧ (∀ has : Bool, s.firstHold has =
          (if s.metro.switchOn = true then some .cal
           else if has = false ∧ 64 ≤ s.visits.table.length then some .yardFull
           else if s.journal.pages.countP (·.state == .erased) ≤ s.journal.low then some .journalLow
           else if s.outcomes.high ≤ s.outcomes.queue.length then some .outcomeHigh
           else none))
      ∧ (∀ r, s.firstHold m.visit.isSome = some r → m.clearTimer ≠ .expired →
          holdCheck e s = offer .held (.atEnd e) [reasonWord r, dash tagText m.tag]
            (s.modMachine e fun m => { m with state := .held, reason := r, idTimer := .stopped
                                              decideTimer := .stopped }))
      ∧ (∀ n, s.firstHold true = none → m.visit = some n → m.clearTimer ≠ .expired →
          holdCheck e s = s.modMachine e fun m => { m with
            state := .ready, reason := .none, idTimer := .stopped, decideTimer := .stopped })
      ∧ (∀ g ad, s.firstHold false = none → m.visit = none → m.tag = some g →
          m.admission = some ad → s.visitOf? g = none → m.clearTimer ≠ .expired →
          let n := s.visits.assign
          let may : Bool := ad.kind == .onePass && (s.cls ad.cls).onePassOk
          let kind : VisitKind :=
            if may = true ∧ (s.validTare g).isSome = true then .onePass else .twoPass
          let note : VisitNote :=
            if ad.kind = .twoPass then .none
            else if (s.cls ad.cls).onePassOk = false then .classTwoPass
            else if (s.validTare g).isSome = true then .none else .tareMissing
          let v : Visit :=
            { number := n, tag := g, account := ad.account, cls := ad.cls, kind := kind
              state := .admitted, holder := .atEnd e, opened := s.clock.now, manual := ad.manual
              note := note, first := none, tare := if may then s.validTare g else none
              overstay := false }
          holdCheck e s = offer .admitted (.atEnd e)
            [toString n, tagText g, toString ad.account, toString ad.cls, kindWord kind,
              if ad.manual then "Y" else "N", noteWord note]
            ({ s with visits := { s.visits with
                table := s.visits.table ++ [v]
                next := if 999999 ≤ n then 1 else n + 1 } }.modMachine e fun m =>
              { m with state := .ready, reason := .none, visit := some n, idTimer := .stopped
                       decideTimer := .stopped }))

/-- R97: the admission table's commands. R98, R99: an end's settings and its query. That a REFER, REFUSE or
cleared entry holds zero in its unused fields is log entry 25. -/
def Obligations.AdmissionTableAndEndSettings : Prop :=
  (∀ (i : Int) (g mask : Tag) (s : State),
     let k := i.toNat
     let en := s.admission.entries.getD k .empty
     let write (x : AdmitEntry) : State :=
       { s with admission := { s.admission with entries := s.admission.entries.set k x } }
     (i < 0 ∨ 31 < i → (∀ p, Refused (.tagSet i p) .param s) ∧ Refused (.tagClear i) .param s
         ∧ Refused (.tagQuery i) .param s)
       ∧ (0 ≤ i → i ≤ 31 →
           Refused (.tagSet i none) .param s
           ∧ (∀ (n c : Int) (one : Bool),
               let p : TagSetArgs := ⟨g, mask, .allow n c one⟩
               if n < 1 ∨ 999999 < n ∨ c < 0 ∨ 15 < c then Refused (.tagSet i (some p)) .param s
               else AnswersWith (.tagSet i (some p)) (.ok []) s
                 (write ⟨g, mask, .allow, n.toNat, c.toNat, one⟩))
           ∧ AnswersWith (.tagSet i (some ⟨g, mask, .refer⟩)) (.ok []) s
               (write ⟨g, mask, .refer, 0, 0, false⟩)
           ∧ AnswersWith (.tagSet i (some ⟨g, mask, .refuse⟩)) (.ok []) s
               (write ⟨g, mask, .refuse, 0, 0, false⟩)
           ∧ AnswersWith (.tagClear i) (.ok []) s (write .empty)
           ∧ Answers (.tagQuery i) (.ok ([tagText en.pattern, tagText en.mask, actionWord en.action]
               ++ if en.action = .allow then
                   [toString en.account, toString en.cls, if en.onePass then "ONEPASS" else "-"]
                 else [])) s)
       ∧ Refused (.tagPolicy none) .param s
       ∧ (∀ v, AnswersWith (.tagPolicy (some v)) (.ok []) s
           { s with admission := { s.admission with policy := v } })
       ∧ Answers .tagPolicyQuery (.ok [policyWord s.admission.policy]) s
       ∧ Refused (.tagMatchQuery none) .param s
       ∧ ((∀ x ∈ s.admission.entries, x.action = .empty ∨ g &&& x.mask ≠ x.pattern &&& x.mask) →
           Answers (.tagMatchQuery (some g)) (.ok ["NONE", policyWord s.admission.policy]) s)
       ∧ (∀ (n : Nat) (x : AdmitEntry), s.admission.entries[n]? = some x → x.action ≠ .empty →
           g &&& x.mask = x.pattern &&& x.mask →
           (∀ j y, j < n → s.admission.entries[j]? = some y →
             y.action = .empty ∨ g &&& y.mask ≠ y.pattern &&& y.mask) →
           Answers (.tagMatchQuery (some g)) (.ok [toString n, actionWord x.action]) s))
  ∧ (∀ (e : EndId) (s : State),
       let m := s.machine e
       let t := s.station e
       Refused (.endIdtime e none) .param s ∧ Refused (.endDecide e none) .param s
         ∧ Refused (.endCleartime e none) .param s
         ∧ (∀ v : SetArg,
             AnswersWith (.endIdtime e (some v)) (settingReply (v.clamped 2 60) [v.value 2 60 10]) s
               (s.modMachine e fun m => { m with idTime := v.value 2 60 10 })
             ∧ AnswersWith (.endDecide e (some v))
               (settingReply (v.clamped 10 600) [v.value 10 600 120]) s
               (s.modMachine e fun m => { m with decideTime := v.value 10 600 120 })
             ∧ AnswersWith (.endCleartime e (some v)) (settingReply (v.clamped 1 10) [v.value 1 10 3]) s
               (s.modMachine e fun m => { m with clearTime := v.value 1 10 3 }))
         ∧ Answers (.endIdtimeQuery e) (.ok [toString m.idTime]) s
         ∧ Answers (.endDecideQuery e) (.ok [toString m.decideTime]) s
         ∧ Answers (.endCleartimeQuery e) (.ok [toString m.clearTime]) s
         ∧ Answers (.endQuery e)
             (.ok [endStateWord m.state, dash movementWord m.movement, dash tagText m.tag,
               reasonWord m.reason, dash (fun n : Nat => toString n) m.visit,
               dash (fun a : Admission => toString a.account ++ "/" ++ toString a.cls) m.admission,
               dash (fun a : Admission => kindWord a.kind ++ if a.manual then "/M" else "") m.admission,
               match m.idTimer with
                 | .running n => toString n
                 | _ => secondsLeft m.decideTimer,
               if t.lines.approach then "OCC" else "CLEAR", dash tagText m.heldRead]) s)

/-! ### Chapter 6: deck transactions -/

/-- R104 to R107: when the arbiter offers the deck, who is eligible, whom it chooses, and what a grant taken
fixes. R95: an offer is declined by an inbound hold, or by an outbound visit no longer on site. -/
def Obligations.ArbiterOffersAndGrants : Prop :=
  ∀ (d : Deck) (s : State),
    let u := s.deck d
    let e1 := d.endAt .one
    let e2 := d.endAt .two
    let fits : Prop :=
      s.part.run = true ∧ u.seq.state = .idle ∧ u.settings.mode ≠ .closed
        ∧ u.settings.closePending = false ∧ (∃ p, u.wcu.latest = some p ∧ p.empty = true)
        ∧ (s.driver e1).state = .down ∧ (s.driver e2).state = .down
        ∧ (s.faults.bar.get e1).state = .clear ∧ (s.faults.bar.get e2).state = .clear
    let i : Instr := .arbiterOffer d
    (¬ fits → exec i s = .next s)
      ∧ (s.eligible e1 = false → s.eligible e2 = false → exec i s = .next s)
      ∧ (s.eligible e1 = true → s.eligible e2 = false → s.chosen d = some e1)
      ∧ (s.eligible e1 = false → s.eligible e2 = true → s.chosen d = some e2)
      ∧ (s.eligible e1 = true → s.eligible e2 = true →
          (s.machine e1).movement = some .outbound → (s.machine e2).movement = some .inbound →
          s.chosen d = some (if u.streak < u.settings.streakLimit then e1 else e2))
      ∧ (s.eligible e1 = true → s.eligible e2 = true →
          (s.machine e1).movement = some .inbound → (s.machine e2).movement = some .outbound →
          s.chosen d = some (if u.streak < u.settings.streakLimit then e2 else e1))
      ∧ (∀ e : EndId,
          (s.eligible e = true ↔
            (s.machine e).state = .ready ∧
              (s.oos e.deck = false
                ∨ ((s.machine e).movement = some .outbound
                  ∧ ∃ g w, (s.machine e).tag = some g ∧ s.visitOf? g = some w ∧ w.state = .settled))))
      ∧ (s.oos d = true ↔
          s.metro.switchOn = true ∨ s.metro.inProgress ≠ none ∨ s.metro.waiting ≠ none
            ∨ (∃ ch : Chan, (s.faults.get (.cell d ch)).state ≠ .clear)
            ∨ s.journal.fault = true ∨ (∀ p ∈ s.journal.pages, p.state ≠ .current)
            ∨ 4294967295 < s.journal.nextSeq ∨ 10000 * u.params.interval < u.params.max)
      ∧ ∀ e v r, fits → s.chosen d = some e →
          let granted (mv : Movement) : Prop :=
            ∃ t, exec i s = .next t
              ∧ (t.deck d).seq.state = .entering ∧ (t.deck d).seq.role = some r
              ∧ (t.deck d).seq.approach = some e ∧ (t.deck d).seq.tag = v.tag
              ∧ (t.deck d).seq.visit = v.number ∧ (t.deck d).seq.passage = some e
              ∧ (t.deck d).seq.passageMark = s.safetyOcc e
              ∧ (t.deck d).seq.lowerRequested = false
              ∧ (t.machine e).state = .active ∧ (t.machine e).tag = none
              ∧ (t.machine e).visit = none
              ∧ (let up := drivenUp e (s.modDriver e fun b => { b with pending := .none })
                 t.driver e = up.driver e ∧ t.faults = up.faults ∧ t.reports = up.reports)
              ∧ (∀ e', e' ≠ e → t.station e' = s.station e')
              ∧ (t.station e).lines = (s.station e).lines
              ∧ t.visits.table = s.visits.table.map (fun x =>
                  if x.number = v.number then
                    { x with holder := .deck d, state := if r = .second then .leaving else x.state }
                  else x)
              ∧ (t.deck d).streak =
                  (if mv = .inbound then 0
                   else if (s.machine e.other).state = .ready
                      ∧ (s.machine e.other).movement = some .inbound then min 8 (u.streak + 1)
                   else u.streak)
              ∧ (∀ d', d' ≠ d → t.deck d' = s.deck d')
              ∧ t = { s with
                  decks := t.decks, ends := t.ends, visits := t.visits, faults := t.faults
                  reports := t.reports }
          (∀ n, (s.machine e).movement = some .inbound → s.firstHold true = none →
            (s.machine e).visit = some n → s.visit? n = some v →
            r = (if v.kind = .twoPass then .first else .onePass) → granted .inbound)
          ∧ (∀ g, (s.machine e).movement = some .outbound → (s.machine e).tag = some g →
              s.visitOf? g = some v → (v.state = .onSite ∧ r = .second ∨ v.state = .settled ∧ r = .pass) →
              granted .outbound)
          ∧ (∀ h, (s.machine e).movement = some .inbound → s.firstHold true = some h →
              (s.machine e).clearTimer ≠ .expired →
              exec i s = .next (offer .held (.atEnd e) [reasonWord h, dash tagText (s.machine e).tag]
                (s.modMachine e fun m => { m with state := .held, reason := h, idTimer := .stopped
                                                  decideTimer := .stopped })))
          ∧ (∀ g : Tag, (s.machine e).movement = some .outbound → (s.machine e).tag = some g →
              (s.machine e).clearTimer ≠ .expired →
              let declined (why : Reason) : Prop :=
                let gone (st : EndState) (a b : Reason) (left : Timer) : State :=
                  s.modMachine e fun m => { m with state := st, reason := a, prior := b
                                                   idTimer := .stopped, decideTimer := left }
                (s.link.attended = true → exec i s
                    = .next (offer .refer (.atEnd e) [reasonWord why, tagText g]
                        (gone .referred why .none (.running (s.machine e).decideTime))))
                  ∧ (s.link.attended = false → (s.machine e).visit = none → exec i s
                    = .next (offer .refused (.atEnd e) ["DETACHED", reasonWord why, tagText g]
                        (gone .refused .detached why .stopped)))
              (s.visitOf? g = none → declined .noVisit)
                ∧ (∀ w, s.visitOf? g = some w → w.state = .admitted ∨ w.state = .leaving →
                    declined .visitBusy))

/-- R102, R109: the passage is complete only with the mark set and the loop clear (and, where the
state waits for it, the deck empty); the barrier is then lowered, and one that is DOWN at once ends the state
(log entry 12), which TransactionStatesEndAtBarrierDown states. That end 1 is refused first is log entry 45.
A pending close completes with the
sequencer IDLE, and R96 refuses the deck's waiting ends. -/
def Obligations.PassageAndCloseComplete : Prop :=
  ∀ (d : Deck) (s : State),
    let u := s.deck d
    let q := u.seq
    let i : Instr := .passageComplete d
    let empty : Prop := ∃ p, u.wcu.latest = some p ∧ p.empty = true
    let waiting (e : EndId) : Prop :=
      let st := (s.machine e).state
      st = .identifying ∨ st = .referred ∨ st = .held ∨ st = .ready
    (q.state ≠ .entering → q.state ≠ .departing → q.state ≠ .ejecting → exec i s = .next s)
      ∧ (q.lowerRequested = true → exec i s = .next s)
      ∧ (∀ e, q.passageEnd = some e →
          (s.safetyOcc e = true → exec i s = .next s)
          ∧ (q.passageMark = false → (q.state = .ejecting → q.unmarked = false) →
              exec i s = .next s)
          ∧ (q.state ≠ .entering → ¬ empty → exec i s = .next s)
          ∧ (q.lowerRequested = false → s.safetyOcc e = false →
              (q.passageMark = true ∨ q.state = .ejecting ∧ q.unmarked = true) →
              (q.state = .entering ∨ empty) →
              let asked : State := s.modSeq d fun q =>
                { q with passage := none, lowerRequested := true }
              let t : State := lowered e asked
              exec i s = .next (if (t.driver e).state = .down then passageEnds d t else t)
              ∧ ((s.driver e).state = .up ∨ (s.driver e).state = .raising →
                  (s.driver e).mode ≠ .confirmed →
                  exec i s = .next (asked.modDriver e fun b => { b.outputsDown with
                    state := .lowering, travel := .running b.travelTime, pending := .none }))))
      ∧ (u.settings.closePending = false ∨ q.state ≠ .idle → exec (.closeComplete d) s = .next s)
      ∧ (u.settings.closePending = true → q.state = .idle →
          ∃ t, exec (.closeComplete d) s = .next t
            ∧ t = [d.endAt .one, d.endAt .two].foldl
                (fun y e => if waiting e then sentAway e .closed (s.machine e).reason y else y)
                (s.modSettings d fun x => { x with mode := .closed, closePending := false })
            ∧ (t.deck d).settings = { u.settings with mode := .closed, closePending := false }
            ∧ (∀ e, e.deck ≠ d → t.station e = s.station e)
            ∧ ∀ e, e.deck = d →
                let m := s.machine e
                (m.state = .idle ∨ m.state = .active ∨ m.state = .refused → t.machine e = m)
                ∧ (m.state = .identifying ∨ m.state = .referred ∨ m.state = .held ∨ m.state = .ready →
                    m.clearTimer ≠ .expired →
                    (t.machine e).state = .refused ∧ (t.machine e).reason = .closed
                      ∧ (t.machine e).prior = m.reason ∧ (t.machine e).visit = none))

/-- R27, R110, R112, R119, R120: a passage state ends when its barrier is DOWN after the lower
request: at the end of its travel time in PULSE or HOLD, by its feedback in CONFIRMED, or at once where that
feedback reads DOWN already (R68). That DEPARTED names the departure end for an EJECTED vehicle too
is log entry 13, and that it then carries the role and the visit number is log entry 41. -/
def Obligations.TransactionStatesEndAtBarrierDown : Prop :=
  ∀ (e : EndId) (s : State),
    let d := e.deck
    let u := s.deck d
    let q := u.seq
    let b := s.driver e
    let l := (s.station e).lines
    let byTimer (i : Instr) : Prop :=
      i = .travelTimerExpiry e ∧ b.travel.isRunning = true ∧ b.state = .lowering
        ∧ b.mode ≠ .confirmed ∧ q.lowerRequested = true
    let byFeedback (i : Instr) : Prop :=
      i = .feedbackChange e .down true ∧ b.state = .lowering ∧ b.mode = .confirmed ∧ l.up = false
        ∧ q.lowerRequested = true
    let atOnce (i : Instr) : Prop :=
      i = .passageComplete d ∧ (b.state = .up ∨ b.state = .raising) ∧ b.mode = .confirmed
        ∧ l.down = true ∧ l.up = false ∧ s.safetyOcc e = false ∧ q.lowerRequested = false
        ∧ (q.passageMark = true ∨ q.state = .ejecting ∧ q.unmarked = true)
        ∧ (q.state = .entering ∨ ∃ p, u.wcu.latest = some p ∧ p.empty = true)
    ∀ i : Instr, byTimer i ∨ byFeedback i ∨ atOnce i →
    (∀ r, q.state = .entering → q.approach = some e → q.role = some r → r ≠ .pass →
      ∃ t, exec i s = .next t ∧ (t.driver e).state = .down
        ∧ (t.deck d).seq.state = .weighing ∧ (t.deck d).seq.passage = none
        ∧ (t.deck d).seq.weighTimer = .running u.settings.weighingTime
        ∧ (t.deck d).capture.state = .waiting ∧ (t.deck d).capture.stage = 1
        ∧ (t.deck d).capture.stages = [] ∧ (t.deck d).capture.motion = false
        ∧ (t.deck d).capture.blocking = some (if u.capture.orphan then .append else .next)
        ∧ (∀ v, s.visit? q.visit = some v →
            (t.deck d).capture.request = some ⟨r, q.tag, q.visit, v.cls⟩
            ∧ (t.deck d).capture.stageCount = if u.capture.staged then (s.cls v.cls).stages else 1)
        ∧ t = { s with decks := t.decks, ends := t.ends })
    ∧ (q.state = .entering → q.approach = some e → q.role = some .pass →
        ∃ t, exec i s = .next t ∧ (t.deck d).seq.state = .departing
          ∧ (t.deck d).seq.passage = some e.other
          ∧ ((s.driver e.other).state = .down → t.driver e.other =
              Driver.drivenUp { s.driver e.other with pending := .none }
                (s.station e.other).lines))
    ∧ (∀ ae r, (q.state = .departing ∧ q.approach = some ae ∧ ae = e.other
          ∨ q.state = .ejecting ∧ q.approach = some ae ∧ ae = e) → q.role = some r →
        (s.machine ae).visit = none → (s.station ae).lines.approach = false →
        ∃ t, exec i s = .next t ∧ (t.deck d).seq.state = .idle ∧ (t.deck d).seq.role = none
          ∧ (t.machine ae).state = .idle ∧ (t.machine ae).movement = none
          ∧ (t.machine ae).tag = none ∧ (t.machine ae).admission = none
          ∧ (s.reports.traffic = .all → s.reports.queue.length < 48 →
              ∃ p, t.reports.queue = s.reports.queue ++ [p] ∧ p.kind = .departed
                ∧ p.subject = .atEnd ae.other
                ∧ p.params = [roleWord r, toString q.visit,
                    if q.state = .departing then "THROUGH" else "EJECTED"])
          ∧ (∀ x ∈ t.visits.table, x.number = q.visit → r = .pass → q.state = .ejecting))

/-- R78, R96, R101 to R103, R190: the deck mode's commands. What wakeTest does is stated in
ApproachLoopEvents; that end 1 comes first in CLOSE and OPEN is log entry 45. R121, R122: the sequencer's settings and query. The
replies of OPEN and CLOSE in SETUP and the order of OPEN's refusals (parameter, busy, state) are log entry
22; the order of the wait words is log entry 26. -/
def Obligations.DeckModesAndSequencerSettings : Prop :=
  (∀ (d : Deck) (s : State),
     let t := (s.deck d).settings
     let idle : Prop := (s.deck d).seq.state = .idle
     let waiting (e : EndId) : Prop :=
       let st := (s.machine e).state
       st = .identifying ∨ st = .referred ∨ st = .held ∨ st = .ready
     (t.mode = .closed → AnswersWith (.deckClose d) (.ok ["CLOSED"]) s s)
       ∧ (t.mode ≠ .closed → idle → ∃ x, AnswersWith (.deckClose d) (.ok ["CLOSED"]) s x
           ∧ (x.deck d).settings = { t with mode := .closed, closePending := false }
           ∧ (∀ e, e.deck = d →
               let m := s.machine e
               (¬ waiting e → x.machine e = m)
               ∧ (waiting e → m.clearTimer ≠ .expired → x.machine e =
                   { m with state := .refused, reason := .closed, prior := m.reason, visit := none
                            idTimer := .stopped, decideTimer := .stopped }))
           ∧ x = [d.endAt .one, d.endAt .two].foldl
               (fun y e => if waiting e then sentAway e .closed (s.machine e).reason y else y)
               (s.modSettings d fun x => { x with mode := .closed, closePending := false }))
       ∧ (t.mode ≠ .closed → ¬ idle → AnswersWith (.deckClose d) (.ok ["CLOSING"]) s
           (s.modSettings d fun t => { t with closePending := true }))
       ∧ Refused (.deckOpen d none) .param s
       ∧ (s.part.run = true → t.closePending = true → ∀ m, Refused (.deckOpen d (some m)) .busy s)
       ∧ (s.part.run = true → t.closePending = false → t.mode ≠ .closed →
           ∀ m, Refused (.deckOpen d (some m)) .state s)
       ∧ (s.part.run = false ∨ (t.closePending = false ∧ t.mode = .closed) →
           ∀ m : OpenMode, ∃ x, AnswersWith (.deckOpen d (some m)) (.ok [deckModeWord (openMode m)]) s x
               ∧ (x.deck d).settings = { t with mode := openMode m }
               ∧ (s.part.run = true → (x.deck d).streak = 0)
               ∧ (t.mode = .closed → ∀ e, e.deck = d → (s.driver e).state = .up ∨ (s.driver e).state = .raising →
                   x.driver e =
                     if s.safetyOcc e then { s.driver e with pending := .lower }
                     else Driver.drivenDown { s.driver e with pending := .none } (s.station e).lines)
               ∧ (∀ e, e.deck = d → s.part.run = true → (s.machine e).state = .idle →
                   (s.station e).lines.approach = true →
                   let opened : State := s.modSettings d fun t => { t with mode := openMode m }
                   (opened.isApproach e = false → x.machine e = { s.machine e with wrongWay := true })
                   ∧ (opened.isApproach e = true → (s.machine e).heldRead = none →
                       (s.machine e).conflict = false → (s.machine e).clearTimer ≠ .expired →
                       x.machine e = { s.machine e with
                         state := .identifying, movement := some (opened.movementAt e)
                         idTimer := .running (s.machine e).idTime }))
               ∧ (∀ e, e.deck ≠ d ∨ s.part.run = false ∨ (s.machine e).state ≠ .idle
                     ∨ (s.station e).lines.approach = false → x.machine e = s.machine e)
               ∧ x =
                   let opened : State := s.modSettings d fun t => { t with mode := openMode m }
                   let ends : List EndId := [d.endAt .one, d.endAt .two]
                   let down : State :=
                     if t.mode = .closed then ends.foldl (fun y e => lowered e y) opened else opened
                   let woken : State := ends.foldl (fun y e => wakeTest e y) down
                   if s.part.run = true then woken.modDeck d fun u => { u with streak := 0 } else woken)
       ∧ Answers (.deckModeQuery d) (.ok (deckModeWord t.mode ::
           if t.closePending then ["CLOSING"] else [])) s
       ∧ (s.part.run = true → ∀ v, Refused (.deckInbound d v) .state s)
       ∧ (s.part.run = false → Refused (.deckInbound d none) .param s
           ∧ ∀ v, AnswersWith (.deckInbound d (some v)) (.ok []) s
               (s.modSettings d fun t => { t with inbound := v }))
       ∧ Answers (.deckInboundQuery d) (.ok [if t.inbound = .oneToTwo then "1TO2" else "2TO1"]) s)
  ∧ (∀ (d : Deck) (s : State),
       let u := s.deck d
       let q := u.seq
       let t := u.settings
       let put (t' : DeckSettings) : State := s.modSettings d fun _ => t'
       (∀ v : SetArg,
         AnswersWith (.deckStreak d (some v)) (settingReply (v.clamped 1 8) [v.value 1 8 3]) s
             (put { t with streakLimit := v.value 1 8 3 })
           ∧ AnswersWith (.deckTailgate d (some v)) (settingReply (v.clamped 5 120) [v.value 5 120 20]) s
             (put { t with tailgateTime := v.value 5 120 20 })
           ∧ AnswersWith (.deckTimeout d (some v)) (settingReply (v.clamped 30 900) [v.value 30 900 180]) s
             (put { t with weighingTime := v.value 30 900 180 })
           ∧ AnswersWith (.deckTaketime d (some v)) (settingReply (v.clamped 10 300) [v.value 10 300 60]) s
             (put { t with takeTime := v.value 10 300 60 }))
         ∧ (∀ r, AnswersWith (.deckExit d (some r)) (.ok []) s (put { t with release := r }))
         ∧ Refused (.deckStreak d none) .param s ∧ Refused (.deckTailgate d none) .param s
         ∧ Refused (.deckTimeout d none) .param s ∧ Refused (.deckTaketime d none) .param s
         ∧ Refused (.deckExit d none) .param s
         ∧ Answers (.deckStreakQuery d) (.ok [toString t.streakLimit]) s
         ∧ Answers (.deckTailgateQuery d) (.ok [toString t.tailgateTime]) s
         ∧ Answers (.deckTimeoutQuery d) (.ok [toString t.weighingTime]) s
         ∧ Answers (.deckTaketimeQuery d) (.ok [toString t.takeTime]) s
         ∧ Answers (.deckExitQuery d) (.ok [releaseWord t.release]) s
         ∧ Answers (.deckQuery d)
             (.ok [seqWord q.state, dash roleWord q.role, dash endName q.approach,
               if q.state = .idle then "-" else toString q.visit,
               if q.state = .idle then "-" else tagText q.tag,
               deckModeWord t.mode ++ (if t.closePending then "/CLOSING" else ""), toString u.streak,
               commas (s.oosCauses d),
               match q.state, q.passageEnd with
                 | .idle, _ => "NONE"
                 | .weighing, _ => "CAPTURE"
                 | .committing, _ => "WEIGH"
                 | .settling, _ => if q.reservation then "SETTLE" else "ROOM"
                 | .ticketing, _ => ticketWait q.ticket
                 | _, some e => s.passageWait d e
                 | _, none => "NONE",
               q.secondsField]) s)

/-- R39, R111 to R113, R117, R118, R127: a cancel, a release and the sequencer's timers. That an expired
weighing or tailgate timer is stopped is log entry 26. -/
def Obligations.CancelReleaseAndTimers : Prop :=
  ∀ (d : Deck) (s : State),
    let u := s.deck d
    let q := u.seq
    let depart (t : State) : Prop :=
      (t.deck d).seq.state = .departing ∧ (t.deck d).seq.passage = q.departure
        ∧ (t.deck d).seq.take = .stopped ∧ t.visits = s.visits
    (q.state ≠ .entering → q.state ≠ .weighing → Refused (.deckCancel d) .state s)
      ∧ (∀ e, q.state = .entering ∨ q.state = .weighing → q.approach = some e →
          ∃ t, AnswersWith (.deckCancel d) (.ok []) s t
            ∧ (t.deck d).seq.state = .ejecting ∧ (t.deck d).seq.passage = some e
            ∧ (t.deck d).seq.weighTimer = .stopped ∧ (t.deck d).seq.tailgate = .stopped
            ∧ ((t.deck d).seq.unmarked = true ↔ q.state = .entering ∧ q.passageMark = false)
            ∧ (q.state = .weighing → (t.deck d).capture.state = .idle
                ∧ (t.deck d).capture.drawForward = false ∧ (t.deck d).capture.stages = []
                ∧ ((t.deck d).capture.orphan = true ↔ u.capture.orphan = true
                    ∨ u.capture.state = .stageWrite ∨ u.capture.state = .weighWrite))
            ∧ (q.role = some .first ∨ q.role = some .onePass →
                t.visits.table = s.visits.table.filter fun x => x.number ≠ q.visit)
            ∧ (q.role = some .second → t.visits.table = s.visits.table.map fun x =>
                if x.number = q.visit then { x with state := .onSite, holder := .none } else x)
            ∧ (q.role = some .pass → t.visits = s.visits)
            ∧ t.journal = s.journal)
      ∧ (q.state ≠ .ticketing → Refused (.deckRelease d) .state s)
      ∧ (q.state = .ticketing → q.approach ≠ none →
          ∃ t, AnswersWith (.deckRelease d) (.ok []) s t ∧ depart t)
      ∧ (q.state ≠ .ticketing ∨ q.take.isRunning = false → exec (.takeTimerExpiry d) s = .next s)
      ∧ (q.state = .ticketing → q.take.isRunning = true → q.approach ≠ none →
          ∃ t, exec (.takeTimerExpiry d) s = .next t ∧ depart t
            ∧ (s.reports.weighing ≠ .none → s.reports.queue.length < 48 →
                ∃ p rest, t.reports.queue = s.reports.queue ++ p :: rest
                  ∧ p.kind = .ticketNotTaken))
      ∧ (q.state ≠ .weighing ∨ q.weighTimer.isRunning = false →
          exec (.weighingTimerExpiry d) s = .next s)
      ∧ (q.state = .weighing → q.weighTimer.isRunning = true →
          exec (.weighingTimerExpiry d) s = .next (offer .weighTimeout (.deck d)
            [dash roleWord q.role, toString q.visit, dash blockWord u.capture.blocking]
            (s.modSeq d fun q => { q with weighTimer := .stopped })))
      ∧ (q.passageEnd = none ∨ q.tailgate.isRunning = false →
          exec (.tailgateTimerExpiry d) s = .next s)
      ∧ (∀ e, q.passageEnd = some e → q.tailgate.isRunning = true →
          let t := s.modSeq d fun q => { q with tailgate := .stopped, tailgateMark := true }
          exec (.tailgateTimerExpiry d) s
            = .next (if q.tailgateMark then t
              else offer .tailgate (.atEnd e) [seqWord q.state, toString q.visit] t))

/-- R115, R140: a place is reserved only while the queue has room, and the settlement is requested
with it, its charge pending. -/
def Obligations.SettleReserveTakesPlace : Prop :=
  ∀ (d : Deck) (s : State),
    let q := (s.deck d).seq
    let room : Prop := s.outcomes.queue.length + s.reservations < 64
    let i : Instr := .settleReserve d
    (q.state ≠ .settling ∨ q.reservation = true ∨ q.orphanSettle = true ∨ ¬ room →
        exec i s = .next s)
      ∧ ∀ v g c, q.state = .settling → q.reservation = false → q.orphanSettle = false → room →
          s.visit? q.visit = some v → q.weighing = some g →
          (q.role = some .second ∧ (∃ f, v.first = some f ∧ c = settleTwoPass s v f g)
            ∨ q.role = some .onePass ∧ ∃ t, v.tare = some t ∧ c = settleOnePass s v t g) →
          exec i s = .next { s with
            decks := s.decks.set d { s.deck d with seq := { q with reservation := true } }
            accounts := s.accounts.map fun a =>
              if a.number = c.account then { a with pendingCharge := a.pendingCharge + c.charge } else a
            journal := { s.journal with pending := s.journal.pending ++
              [{ requester := .settle d, deck := some d, body := .settle c, attempt := 1 }] } }

/-- R8, R26, R40, R81, R100, R123, R183, R201, R211: what DECK x RESET leaves of its deck: the visit by
R123's table, its ends' open visits removed, its eleven fault entries emptied and raised again where their
condition is seen present, and the DECK_RESET report; and that it leaves every other visit and entry, the
other deck, the journal, the metrology block, the tables and the settings alone. The order of its work, end 1 before end 2, is
log entry 14, and so is the place kept for an orphaned settlement; that a driver RAISING over an occupied loop
keeps its travel timer, and the release of the visit's holder, is log entry 13. -/
def Obligations.DeckResetRestartsOneDeck : Prop :=
  ∀ (d : Deck) (s : State),
    let u := s.deck d
    ∃ t, AnswersWith (.deckReset d) (.ok []) s t
      ∧ (t.deck d).seq.state = .idle ∧ (t.deck d).seq.role = none
      ∧ (t.deck d).seq.reservation = false ∧ (t.deck d).seq.passage = none
      ∧ ((t.deck d).seq.orphanSettle = true ↔ u.seq.orphanSettle = true
          ∨ (u.seq.state = .settling ∧ u.seq.reservation = true))
      ∧ (t.deck d).capture.state = .idle ∧ (t.deck d).capture.drawForward = false
      ∧ (t.deck d).wcu = { u.wcu with filterWin := [], stabWin := [], latest := none }
      ∧ (t.deck d).params = u.params ∧ (t.deck d).streak = 0 ∧ (t.deck d).notClear = false
      ∧ (t.deck d).printer.queue = [] ∧ (t.deck d).printer.presented = none
      ∧ (t.deck d).settings.closePending = false
      ∧ (∀ e, e.deck = d → (s.driver e).state = .down →
          (t.driver e).state = .down ∧ (t.driver e).pending = .none)
      ∧ (∀ e, e.deck = d → s.part.run = false → t.machine e = (s.machine e).restarted
          (s.station e).lines.approach)
      ∧ (∀ d', d' ≠ d → t.deck d' = s.deck d') ∧ (∀ e, e.deck ≠ d → t.station e = s.station e)
      ∧ t = { s with
          decks := t.decks, ends := t.ends, visits := t.visits, reports := t.reports
          faults := t.faults }
      ∧ (let q := u.seq
         let settling : Bool := q.state == .settling && q.reservation
         let early : Bool :=
           (q.state == .entering || q.state == .weighing || q.state == .committing
             || q.state == .settling) && !settling
         let gone (v : Visit) : Bool :=
           (early && (q.role == some .first || q.role == some .onePass) && v.number == q.visit)
             || (s.machine (d.endAt .one)).visit == some v.number
             || (s.machine (d.endAt .two)).visit == some v.number
         let back (v : Visit) : Visit :=
           if v.number ≠ q.visit ∨ q.state = .idle ∨ settling = true then v
           else if early = true ∧ q.role = some .second then
             { v with state := .onSite, holder := .none }
           else if v.holder = .deck d then { v with holder := .none }
           else v
         t.visits = { s.visits with
           table := (s.visits.table.filter fun v => !gone v).map back })
      ∧ (∀ f : FaultSource,
          let fresh : FaultEntry := { state := .active, read := false, first := s.clock.now, count := 1 }
          match f with
          | .cell d' _ => t.faults.get f = if d' = d then .clear else s.faults.get f
          | .rdr e => t.faults.get f = if e.deck = d then .clear else s.faults.get f
          | .loop e => t.faults.get f =
              if e.deck ≠ d then s.faults.get f
              else if (s.station e).lines.loopfault then fresh else .clear
          | .prn d' => t.faults.get f =
              if d' ≠ d then s.faults.get f else if u.lines.paper then fresh else .clear
          | .bar e =>
            if e.deck = d then
              t.faults.get f = (if (t.driver e).state = .fault then fresh else .clear)
                ∧ ((s.driver e).mode ≠ .confirmed → t.faults.get f = .clear)
            else t.faults.get f = s.faults.get f
          | .journal | .clock => t.faults.get f = s.faults.get f)
      ∧ (∃ rest, t.reports.queue = (offer .deckReset (.deck d) [] s).reports.queue ++ rest)
      ∧ (∀ ch : Chan, let c := u.channels.get ch
          (t.deck d).channels.get ch = { c with resignal := c.condition })
      ∧ (t.deck d).settings =
          { u.settings with
            closePending := false
            mode := if u.settings.closePending then .closed else u.settings.mode }
      ∧ (t.deck d).lines = u.lines ∧ (t.deck d).polarity = u.polarity
      ∧ (t.deck d).capture =
          { u.capture with
            state := .idle, request := none, stageCount := 1, stage := 1, stages := []
            motion := false, blocking := none, drawForward := false, flashLit := false
            grantDue := none, weighValue := 0
            orphan := u.capture.orphan
              || decide (u.capture.state = .stageWrite ∨ u.capture.state = .weighWrite) }
      ∧ (t.deck d).printer.state = (if u.lines.paper then .fault else .ready)
      ∧ (t.deck d).printer.stuck = (if u.lines.busy then .running 30 else .stopped)
      ∧ (t.deck d).printer.uncollectedTime = u.printer.uncollectedTime
      ∧ (∀ e, e.deck = d →
          let b := s.driver e
          let m := s.machine e
          (b.state = .raising ∨ b.state = .up → s.safetyOcc e = true →
              t.driver e = { b with pending := .lower })
            ∧ (b.state = .raising ∨ b.state = .up ∨ b.state = .lowering → s.safetyOcc e = false →
                t.driver e = Driver.drivenDown { b with pending := .none } (s.station e).lines)
            ∧ (b.state = .lowering → s.safetyOcc e = true →
                t.driver e = Driver.drivenUp { b with pending := .lower } (s.station e).lines)
            ∧ (b.state = .down → t.driver e = { b with pending := .none })
            ∧ (b.state = .fault → t.driver e = b.started (s.station e).lines (s.safetyOcc e))
            ∧ ((s.station e).lines.approach = false →
                t.machine e = { m with
                  state := .idle, movement := none, tag := none, reason := .none, prior := .none
                  admission := none, visit := none, idTimer := .stopped, decideTimer := .stopped
                  clearTimer := .running m.clearTime, wrongWay := false, heldRead := none
                  conflict := false, rdrCondition := false }))

/-! ### Chapter 7: tables and settlement -/

/-- R128, R132, R134: the commands of the visit table. -/
def Obligations.VisitCommands : Prop :=
  ∀ s : State,
    let fields (v : Visit) : List String :=
      [toString v.number, tagText v.tag, toString v.account, toString v.cls, kindWord v.kind,
        visitStateWord v.state, holderWord v.holder, dateText v.opened, timeText v.opened,
        if v.manual then "Y" else "N", noteWord v.note, dash committedText v.first,
        dash tareText v.tare, if v.overstay then "Y" else "N"]
    Refused (.visitOverstay none) .param s
      ∧ (∀ h : SetArg, AnswersWith (.visitOverstay (some h))
          (settingReply (h.clamped 1 24) [h.value 1 24 12]) s
          (overstayTest { s with visits := { s.visits with overstay := h.value 1 24 12 } }))
      ∧ Answers .visitOverstayQuery (.ok [toString s.visits.overstay]) s
      ∧ Answers .visitCountQuery
          (.ok [toString s.visits.table.length, toString s.visits.next]) s
      ∧ Refused (.visitClose none) .param s ∧ Refused (.visitNextQuery none) .param s
      ∧ Refused (.visitFindQuery none) .param s
      ∧ (∀ n : Int, n < 1 ∨ 999999 < n →
          Refused (.visitClose (some n)) .param s ∧ Refused (.visitQuery n) .param s)
      ∧ (∀ n : Int, n < 0 ∨ 999999 < n → Refused (.visitNextQuery (some n)) .param s)
      ∧ (∀ n : Nat, 1 ≤ n → n ≤ 999999 →
          match s.visit? n with
          | none => Refused (.visitQuery n) .notFound s ∧ Refused (.visitClose (some n)) .notFound s
          | some v =>
            Answers (.visitQuery n) (.ok (fields v)) s
            ∧ (if v.holder ≠ .none ∨ (v.state ≠ .onSite ∧ v.state ≠ .settled)
                  ∨ s.link.closing ≠ none ∨ s.journal.has .link = true then
                Refused (.visitClose (some n)) .busy s
              else if v.state = .settled then
                AnswersWith (.visitClose (some n)) (.ok ["CLOSED"]) s (s.removeVisit n)
              else if s.journal.fault = true then Refused (.visitClose (some n)) .state s
              else if s.journal.full = true ∨ 64 ≤ s.outcomes.queue.length + s.reservations then
                Refused (.visitClose (some n)) .full s
              else
                ∀ f, v.first = some f → AnswersWith (.visitClose (some n)) (.ok ["CLOSING"]) s
                  { s with
                    visits := { s.visits with table := s.visits.table.map fun x =>
                      if x.number = n then { x with state := .leaving, holder := .link } else x }
                    link := { s.link with closing := some n }
                    journal := { s.journal with pending := s.journal.pending ++
                      [{ requester := .link, deck := none
                         body := .settle (settleAbandoned s v f), attempt := 1 }] } }))
      ∧ (∀ g, match s.visitOf? g with
          | none => Refused (.visitFindQuery (some g)) .notFound s
          | some v => v.tag = g ∧ Answers (.visitFindQuery (some g)) (.ok (fields v)) s)
      ∧ (∀ n : Nat, n ≤ 999999 →
          ((∀ v ∈ s.visits.table, v.number ≤ n) → Answers (.visitNextQuery (some n)) (.ok ["END"]) s)
          ∧ ∀ v ∈ s.visits.table, n < v.number →
              ∃ w ∈ s.visits.table, n < w.number ∧ w.number ≤ v.number
                ∧ Answers (.visitNextQuery (some n)) (.ok (fields w)) s)

/-- R129 to R131: the commands of the tare table. R139: the commands of the tariff table. -/
def Obligations.TareAndClassCommands : Prop :=
  (∀ (s : State) (g : Tag),
     let fields (i : Nat) (en : TareEntry) : List String :=
       [toString i, toString en.value, dateText en.stored, timeText en.stored,
         tareSourceWord en.source, toString en.count,
         if s.clock.now ≤ en.stored + s.tares.expiry * 86400 then "VALID" else "EXPIRED"]
     let new (kg : Nat) : Option TareEntry := some ⟨g, kg, s.clock.now, .preset, s.metro.count⟩
     let put (i : Nat) (x : Option TareEntry) : State :=
       { s with tares := { s.tares with table := s.tares.table.set i x } }
     Refused (.tareSet none) .param s ∧ Refused (.tareClear none) .param s
       ∧ Refused (.tareFindQuery none) .param s ∧ Refused (.tareExpiry none) .param s
       ∧ (∀ kg : Int, kg < 1 ∨ 450000 < kg → Refused (.tareSet (some (g, kg))) .param s)
       ∧ (∀ kg : Nat, 1 ≤ kg → kg ≤ 450000 →
           (∀ i en, s.tareOf? g = some (i, en) →
             AnswersWith (.tareSet (some (g, (kg : Int)))) (.ok [toString i]) s (put i (new kg)))
           ∧ (∀ i, s.tareOf? g = none → s.tares.table.findIdx? (·.isNone) = some i →
             AnswersWith (.tareSet (some (g, (kg : Int)))) (.ok [toString i]) s (put i (new kg)))
           ∧ (s.tareOf? g = none → s.tares.table ≠ [] → (∀ x ∈ s.tares.table, x ≠ none) →
               ∃ i old, s.tares.table[i]? = some (some old)
                 ∧ (∀ (j : Nat) en, s.tares.table[j]? = some (some en) →
                     old.stored < en.stored ∨ (old.stored = en.stored ∧ i ≤ j))
                 ∧ AnswersWith (.tareSet (some (g, (kg : Int))))
                     (.ok [toString i, "REPLACED", tagText old.tag]) s
                     (offer .tareReplaced .none [tagText old.tag, tagText g] (put i (new kg)))))
       ∧ (match s.tareOf? g with
           | none => Refused (.tareClear (some g)) .notFound s
               ∧ Refused (.tareFindQuery (some g)) .notFound s
           | some (i, en) => s.tares.table[i]? = some (some en) ∧ en.tag = g
               ∧ AnswersWith (.tareClear (some g)) (.ok []) s (put i none)
               ∧ Answers (.tareFindQuery (some g)) (.ok (fields i en)) s)
       ∧ (∀ i : Int, i < 0 ∨ 255 < i → Refused (.tareIndexQuery i) .param s)
       ∧ (∀ i : Nat, i ≤ 255 →
           match s.tares.table.getD i none with
           | none => Answers (.tareIndexQuery i) (.ok ["FREE"]) s
           | some en => Answers (.tareIndexQuery i) (.ok (fields i en)) s)
       ∧ Answers .tareCountQuery (.ok [toString (s.tares.table.countP (·.isSome))]) s
       ∧ (∀ v : SetArg, AnswersWith (.tareExpiry (some v))
           (settingReply (v.clamped 1 365) [v.value 1 365 90]) s
           { s with tares := { s.tares with expiry := v.value 1 365 90 } })
       ∧ Answers .tareExpiryQuery (.ok [toString s.tares.expiry]) s)
  ∧ (∀ (s : State) (c : Int),
       let x := s.cls c.toNat
       let put (y : WasteClass) : State := { s with classes := s.classes.set c.toNat y }
       (c < 0 ∨ 15 < c → ∀ t p a n k o u,
           Refused (.className c t) .param s ∧ Refused (.classRates c p) .param s
           ∧ Refused (.classMinimum c a) .param s ∧ Refused (.classLayout c n) .param s
           ∧ Refused (.classStages c k) .param s ∧ Refused (.classOnepass c o) .param s
           ∧ Refused (.classTareupdate c u) .param s ∧ Refused (.classQuery c) .param s)
       ∧ (0 ≤ c → c ≤ 15 →
           (∀ i o : Nat, AnswersWith (.classRates c (some ((i : Int), (o : Int))))
               (if i ≤ 100000 ∧ o ≤ 100000 then .ok [] else .er .param []) s
               (if i ≤ 100000 ∧ o ≤ 100000 then put { x with inRate := i, outRate := o } else s))
           ∧ (∀ a : Nat, AnswersWith (.classMinimum c (some a))
               (if a ≤ 1000000 then .ok [] else .er .param []) s
               (if a ≤ 1000000 then put { x with minimum := a } else s))
           ∧ (∀ n : Nat, AnswersWith (.classLayout c (some n))
               (if n ≤ 7 then .ok [] else .er .param []) s
               (if n ≤ 7 then put { x with layout := n } else s))
           ∧ (∀ n : Nat, AnswersWith (.classStages c (some n))
               (if 1 ≤ n ∧ n ≤ 3 then .ok [] else .er .param []) s
               (if 1 ≤ n ∧ n ≤ 3 then put { x with stages := n } else s))
           ∧ (∀ b, AnswersWith (.classOnepass c (some b)) (.ok []) s (put { x with onePassOk := b })
               ∧ AnswersWith (.classTareupdate c (some b)) (.ok []) s (put { x with updateTare := b }))
           ∧ (∀ n : Int, n < 0 → Refused (.classMinimum c (some n)) .param s
               ∧ Refused (.classLayout c (some n)) .param s ∧ Refused (.classStages c (some n)) .param s
               ∧ ∀ m, Refused (.classRates c (some (n, m))) .param s
                 ∧ Refused (.classRates c (some (m, n))) .param s)
           ∧ Refused (.classRates c none) .param s ∧ Refused (.classMinimum c none) .param s
           ∧ Refused (.classLayout c none) .param s ∧ Refused (.classStages c none) .param s
           ∧ Refused (.classOnepass c none) .param s ∧ Refused (.classTareupdate c none) .param s
           ∧ (∀ t : Text, t ≠ [] → t.all printable = true → t.head? ≠ some ' ' →
               t.getLast? ≠ some ' ' → ∀ j k : Nat,
               let i : Instr := .className c (List.replicate j ' ' ++ t ++ List.replicate k ' ')
               if t.length ≤ 12 then AnswersWith i (.ok []) s (put { x with name := t })
               else Refused i .param s)
           ∧ (∀ j : Nat, Refused (.className c (List.replicate j ' ')) .param s)
           ∧ Answers (.classQuery c)
               (.ok [toString x.inRate, toString x.outRate, toString x.minimum, toString x.layout,
                 toString x.stages, if x.onePassOk then "Y" else "N", if x.updateTare then "Y" else "N",
                 String.ofList x.name]) s))

/-- R135 to R138: the commands of the account table, each form outside its range included. That ACCOUNT NEXT? takes 0 to 999,999 is log entry 42. -/
def Obligations.AccountCommands : Prop :=
  ∀ s : State,
    let fields (a : Account) : List String :=
      [toString a.number, toString a.balance, toString a.limit, statusWord a.status,
        toString a.pendingCharge,
        commas (((List.range 16).filter fun c => a.classes.contains c).map fun c : Nat => toString c)]
    let put (n : Nat) (f : Account → Account) : State :=
      { s with accounts := s.accounts.map fun x => if x.number = n then f x else x }
    (∀ n : Int, n < 1 ∨ 999999 < n → ∀ p a l c w,
        Refused (.accountAdd n p) .param s ∧ Refused (.accountDelete n) .param s
        ∧ Refused (.accountCredit n a) .param s ∧ Refused (.accountLimit n l) .param s
        ∧ Refused (.accountClasses n c) .param s ∧ Refused (.accountStatus n w) .param s
        ∧ Refused (.accountQuery n) .param s)
    ∧ Answers .accountCountQuery (.ok [toString s.accounts.length]) s
    ∧ Refused (.accountNextQuery none) .param s
    ∧ (∀ n : Int, n < 0 ∨ 999999 < n → Refused (.accountNextQuery (some n)) .param s)
    ∧ (∀ n : Nat, n ≤ 999999 →
        ((∀ a ∈ s.accounts, a.number ≤ n) → Answers (.accountNextQuery (some n)) (.ok ["END"]) s)
        ∧ ∀ a ∈ s.accounts, n < a.number →
            ∃ b ∈ s.accounts, n < b.number ∧ b.number ≤ a.number
              ∧ Answers (.accountNextQuery (some n)) (.ok (fields b)) s)
    ∧ ∀ n : Nat, 1 ≤ n → n ≤ 999999 →
      Refused (.accountAdd n none) .param s ∧ Refused (.accountCredit n none) .param s
      ∧ Refused (.accountLimit n none) .param s ∧ Refused (.accountClasses n none) .param s
      ∧ Refused (.accountStatus n none) .param s
      ∧ (∀ x : Int, x < 1 ∨ 999999999 < x → Refused (.accountCredit n (some x)) .param s)
      ∧ (∀ x : Int, x < 0 ∨ 999999999 < x → Refused (.accountLimit n (some x)) .param s
          ∧ ∀ cs, Refused (.accountAdd n (some (x, cs))) .param s)
      ∧ (∀ cs : List Int, (∃ c ∈ cs, c < 0 ∨ 15 < c) ∨ ¬ cs.Nodup →
          Refused (.accountClasses n (some cs)) .param s
          ∧ ∀ x, Refused (.accountAdd n (some (x, cs))) .param s)
      ∧ (∀ (limit : Nat) (cs : List Nat), limit ≤ 999999999 → (∀ c ∈ cs, c ≤ 15) → cs.Nodup →
          let i : Instr := .accountAdd n (some (limit, cs.map fun c : Nat => (c : Int)))
          if (s.account? n).isSome then Refused i .state s
          else if 128 ≤ s.accounts.length then Refused i .full s
          else AnswersWith i (.ok []) s
            { s with accounts := s.accounts ++ [⟨n, 0, limit, .open, cs, 0⟩] })
      ∧ match s.account? n with
        | none =>
          Refused (.accountDelete n) .notFound s ∧ Refused (.accountQuery n) .notFound s
          ∧ (∀ x : Nat, 1 ≤ x → x ≤ 999999999 →
              Refused (.accountCredit n (some x)) .notFound s
                ∧ Refused (.accountLimit n (some x)) .notFound s)
          ∧ Refused (.accountLimit n (some 0)) .notFound s
          ∧ (∀ cs : List Nat, (∀ c ∈ cs, c ≤ 15) → cs.Nodup →
              Refused (.accountClasses n (some (cs.map fun c : Nat => (c : Int)))) .notFound s)
          ∧ (∀ w, Refused (.accountStatus n (some w)) .notFound s)
        | some a =>
          Answers (.accountQuery n) (.ok (fields a)) s
          ∧ ((s.visits.table.any (·.account == n) = true ∨ a.pendingCharge ≠ 0) →
              Refused (.accountDelete n) .busy s)
          ∧ (s.visits.table.any (·.account == n) = false → a.pendingCharge = 0 →
              AnswersWith (.accountDelete n) (.ok []) s
                { s with accounts := s.accounts.filter fun x => x.number ≠ n })
          ∧ (a.pendingCharge ≠ 0 → ∀ x : Nat, 1 ≤ x → x ≤ 999999999 → ∀ w,
              Refused (.accountCredit n (some x)) .busy s ∧ Refused (.accountLimit n (some x)) .busy s
                ∧ Refused (.accountClasses n (some [])) .busy s
                ∧ Refused (.accountStatus n (some w)) .busy s)
          ∧ (a.pendingCharge ≠ 0 → Refused (.accountLimit n (some 0)) .busy s
              ∧ ∀ cs : List Nat, (∀ c ∈ cs, c ≤ 15) → cs.Nodup →
                Refused (.accountClasses n (some (cs.map fun c : Nat => (c : Int)))) .busy s)
          ∧ (a.pendingCharge = 0 →
              (∀ x : Nat, 1 ≤ x → x ≤ 999999999 →
                let b : Int := min 999999999 (a.balance + x)
                let st (y : Account) : AccountStatus :=
                  if y.status = .stoppedLimit ∧ -(y.limit : Int) ≤ min 999999999 (y.balance + x)
                  then .open else y.status
                AnswersWith (.accountCredit n (some x))
                  (if 999999999 < a.balance + x then .clamped ["999999999"]
                   else .ok [toString b, statusWord (st a)]) s
                  (put n fun y => { y with balance := min 999999999 (y.balance + x), status := st y }))
              ∧ (∀ x : Nat, x ≤ 999999999 →
                let st (y : Account) : AccountStatus :=
                  if y.status = .open ∧ y.balance < -(x : Int) then .stoppedLimit
                  else if y.status = .stoppedLimit ∧ -(x : Int) ≤ y.balance then .open else y.status
                AnswersWith (.accountLimit n (some x)) (.ok [toString x, statusWord (st a)]) s
                  (put n fun y => { y with limit := x, status := st y }))
              ∧ (∀ cs : List Nat, (∀ c ∈ cs, c ≤ 15) → cs.Nodup →
                AnswersWith (.accountClasses n (some (cs.map fun c : Nat => (c : Int)))) (.ok []) s
                  (put n fun y => { y with classes := cs }))
              ∧ (if a.balance < -(a.limit : Int) then
                  Answers (.accountStatus n (some .open)) (.er .refused ["FUNDS"]) s
                 else AnswersWith (.accountStatus n (some .open)) (.ok []) s
                  (put n fun y => { y with status := .open }))
              ∧ AnswersWith (.accountStatus n (some .stopped)) (.ok []) s
                  (put n fun y => { y with status := .stoppedHost })
              ∧ AnswersWith (.accountStatus n (some .closed)) (.ok []) s
                  (put n fun y => { y with status := .closed }))

/-- R140, R141, R143 to R145: the settlement of a SECOND transaction, of a ONE_PASS transaction whose
gross passes the one-pass test of R142, and of a close (R132, R140). -/
def Obligations.SettlementsAreComputed : Prop :=
  (∀ (s : State) (v : Visit) (f g : Committed) (a : Account), s.account? v.account = some a →
     let c := s.cls v.cls
     let r := settleTwoPass s v f g
     let rate := if g.value < f.value then c.inRate else c.outRate
     let after : Int := max (-999999999) (a.balance - a.pendingCharge - r.charge)
     r.visit = v.number ∧ r.tag = v.tag ∧ r.account = v.account ∧ r.cls = v.cls ∧ r.kind = .twoPass
       ∧ r.first = (f.value, f.seq) ∧ r.second = some (g.value, g.seq) ∧ r.tare = none
       ∧ (r.net : Int) = |f.value - g.value|
       ∧ (r.dir = .inward ↔ g.value < f.value) ∧ (r.dir = .outward ↔ f.value < g.value)
       ∧ (r.dir = .none ↔ f.value = g.value)
       ∧ r.charge = max c.minimum ((2 * (r.net * rate) + 1000) / 2000)
       ∧ r.balanceAfter = after
       ∧ (r.flags.staged = true ↔ f.staged = true ∨ g.staged = true)
       ∧ r.flags.presetTare = false ∧ (r.flags.calChanged = true ↔ f.count ≠ g.count)
       ∧ (r.flags.limit = true ↔ after < -(a.limit : Int)) ∧ r.flags.manual = v.manual
       ∧ (r.flags.detached = true ↔ s.link.attended = false)
       ∧ (r.flags.deckChange = true ↔ f.deck ≠ g.deck)
       ∧ r.tareUpdate =
           if c.updateTare = true ∧ g.value < f.value then some (g.value.toNat, g.count) else none)
  ∧ (∀ (s : State) (v : Visit) (t : TareUsed) (g : Committed) (a : Account) (e : Nat),
       s.account? v.account = some a → onePassHolds g.value t.value e = true →
       let c := s.cls v.cls
       let r := settleOnePass s v t g
       let after : Int := max (-999999999) (a.balance - a.pendingCharge - r.charge)
       r.visit = v.number ∧ r.tag = v.tag ∧ r.account = v.account ∧ r.cls = v.cls
         ∧ r.kind = .onePass ∧ r.first = (g.value, g.seq) ∧ r.second = none
         ∧ r.tare = some (t.value, t.source) ∧ (r.net : Int) = g.value - t.value ∧ r.dir = .inward
         ∧ r.charge = max c.minimum ((2 * (r.net * c.inRate) + 1000) / 2000)
         ∧ r.balanceAfter = after ∧ r.tareUpdate = none
         ∧ r.flags.staged = g.staged ∧ (r.flags.presetTare = true ↔ t.source = .preset)
         ∧ (r.flags.calChanged = true ↔ t.count ≠ g.count)
         ∧ (r.flags.limit = true ↔ after < -(a.limit : Int)) ∧ r.flags.deckChange = false
         ∧ r.flags.manual = v.manual ∧ (r.flags.detached = true ↔ s.link.attended = false))
  ∧ (∀ (w : Int) (t e : Nat), onePassHolds w t e = true ↔ (t : Int) + 20 * e ≤ w)
  ∧ (∀ (s : State) (v : Visit) (g : Committed) (a : Account), s.account? v.account = some a →
       let x := settleAbandoned s v g
       x.visit = v.number ∧ x.tag = v.tag ∧ x.account = v.account ∧ x.cls = v.cls
         ∧ x.kind = .abandoned ∧ x.first = (g.value, g.seq) ∧ x.second = none ∧ x.tare = none
         ∧ x.net = 0 ∧ x.dir = .none ∧ x.charge = 0 ∧ x.tareUpdate = none
         ∧ x.balanceAfter = max (-999999999) (a.balance - a.pendingCharge)
         ∧ x.flags = ⟨g.staged, false, false, false, v.manual, false, false⟩)

/-! ### Chapter 8: journal and clock -/

/-- R149, R152, R153, R154, R162: a grant takes one pending request: of attempt number 2 before any
other, then of the preferred requester, and among those the first after the last granted in the
fixed order. That the stamp is taken at the grant is log entry 16. -/
def Obligations.JournalGrantChoosesRequest : Prop :=
  ∀ s : State,
    let j := s.journal
    let may : Prop :=
      j.scanDone = true ∧ j.inProgress = none ∧ j.fault = false ∧ j.full = false ∧ j.pending ≠ []
    let after (r : Request) : Nat := (r.requester.index + 6 - j.lastGranted.index) % 7
    let covered (r : Request) : Prop := preferCovers j.prefer r.requester = true
    (¬ may → exec .journalGrant s = .next s)
      ∧ (may → ∃ r ∈ j.pending,
          exec .journalGrant s = .next { s with journal := { j with
            pending := j.pending.filter fun x => x.requester ≠ r.requester
            inProgress := some { request := r, stamp :=
              { time := s.clock.now, deck := r.deck, count := s.metro.count, lock := s.metro.lock } }
            lastGranted := r.requester
            erase := if j.erase = .running then .suspended else j.erase } }
          ∧ ((∃ x ∈ j.pending, x.attempt = 2) → r.attempt = 2)
          ∧ ((∀ x ∈ j.pending, x.attempt ≠ 2) →
              ((∃ x ∈ j.pending, covered x) → covered r)
              ∧ ∀ x ∈ j.pending, (covered r → covered x) → after r ≤ after x))

/-- R148, R149, R154 to R157: a write that succeeds, and one that fails: the slot, the page that follows
a full one, the attempt, and the level reports. The order of a FAULT report and a level report placed by
one failure is log entry 37, that of LOW and FULL log entry 19. -/
def Obligations.WritesUseOneSlot : Prop :=
  ∀ s : State,
    let j := s.journal
    (j.inProgress = none ∨ j.current? = none →
        exec .appendComplete s = .next s ∧ exec .writeFailure s = .next s)
      ∧ ∀ a i, j.inProgress = some a → j.current? = some i →
          let n := (j.page i).used.length
          let erased (m : Nat) : Prop := (j.page ((i + 1 + m) % 64)).state = .erased
          let others (t : State) (k : Nat) : Prop :=
            ∀ m, m ≠ i → m ≠ k → t.journal.page m = j.page m
          let used (t : State) (sl : Slot) : Prop :=
            (t.journal.page i).used = (j.page i).used ++ [sl]
              ∧ (n < 255 → (t.journal.page i).state = .current ∧ t.journal.newest = j.newest
                  ∧ others t i)
              ∧ (255 ≤ n → (t.journal.page i).state = .filled)
              ∧ (255 ≤ n → j.pages.length = 64 →
                  (∀ m, m < 64 → erased m → (∀ x, x < m → ¬ erased x) →
                    let k := (i + 1 + m) % 64
                    t.journal.page k = { state := .current, used := [] } ∧ t.journal.newest = k
                      ∧ others t k)
                  ∧ ((∀ m, m < 64 → ¬ erased m) → t.journal.newest = i ∧ others t i
                      ∧ ((∀ m, m ≠ i → (j.page m).state ≠ .current) → t.journal.full = true)))
              ∧ t.journal.inProgress = none ∧ t.journal.exported = j.exported
          let low (t s' : State) : State :=
            if j.low < j.erasedCount ∧ t.journal.erasedCount ≤ j.low then
              offer .journalLow .none [toString t.journal.erasedCount, toString j.low] s'
            else s'
          let full (t s' : State) : State :=
            if t.journal.fault = false ∧ t.journal.full = true
                ∧ ¬ (j.fault = false ∧ j.full = true) then
              offer .journalFull .none [toString (t.journal.nextSeq - 1)] s'
            else s'
          (∃ t, exec .appendComplete s = .next t
              ∧ used t (.written { seq := j.nextSeq, stamp := a.stamp, body := a.request.body })
              ∧ t.journal.nextSeq = j.nextSeq + 1 ∧ t.journal.fault = j.fault
              ∧ ∃ rest, t.reports.queue = (full t (low t s)).reports.queue ++ rest)
          ∧ ∃ t, exec .writeFailure s = .next t ∧ used t .void ∧ t.journal.nextSeq = j.nextSeq
              ∧ t.journal.pending = j.pending ++ [{ a.request with attempt := 2 }]
              ∧ (a.request.attempt = 1 → t.journal.fault = j.fault ∧ t.faults = s.faults
                  ∧ t.reports = (full t (low t s)).reports)
              ∧ (a.request.attempt ≠ 1 → t.journal.fault = true
                  ∧ (t.faults.get .journal).state = .active
                  ∧ t.faults = (condArises .journal s).faults
                  ∧ t.reports = (low t (condArises .journal s)).reports)
              ∧ t = { s with journal := t.journal, reports := t.reports, faults := t.faults }

/-- R34, R37, R39, R40, R43, R55, R109, R114, R116, R117, R123, R127, R128, R133, R145, R146, R166,
R203: what a completion does for the owner of each kind of record. A STAGE completed in WEIGH_WRITE
requests the WEIGH record (R37); a capture append that a withdrawal or a reset orphaned does nothing
further (R39, R40); a tare update is stored under R130. The reports are stated for a completion that
gives no level report of its own (R157). R126, R142: a ONE_PASS gross below T + 20e converts its visit.
R128, R165: a clock set ends the CLOCK condition of a good battery and reports the overstays (log entry 36). -/
def Obligations.CompletionsReachOwners : Prop :=
  ∀ (s : State) (a : Append) (i : Nat), s.journal.inProgress = some a →
    s.journal.current? = some i →
    let r : Record := { seq := s.journal.nextSeq, stamp := a.stamp, body := a.request.body }
    let is (q : Requester) (b : Body) : Prop := a.request.requester = q ∧ a.request.body = b
    let quiet : Prop := (s.journal.page i).used.length < 255 ∧ s.journal.nextSeq < 4294967295
    let settled (c : Settlement) : List String :=
      [toString c.visit, settleKindWord c.kind, toString r.seq, toString c.net, flowWord c.dir,
        toString c.charge, commas c.flags.names]
    let orphaned (t : State) (d : Deck) : Prop :=
      let c := (s.deck d).capture
      (t.deck d).capture =
          { c with orphan := false, blocking := if c.state = .waiting then some .next else c.blocking }
        ∧ (t.deck d).seq = (s.deck d).seq ∧ t.visits = s.visits
        ∧ t.journal.pending = s.journal.pending
    (∀ (init : List StageEntry) en,
        stampLast r.seq (init ++ [en]) = init ++ [{ en with seq := some r.seq }])
    ∧ ∃ t, exec .appendComplete s = .next t
      ∧ (∀ m, is .clock (.clock m) →
          let due (v : Visit) : Prop :=
            v.overstay = false ∧ v.opened + s.visits.overstay * 3600 ≤ m
          let moved : State := { s with clock := { s.clock with now := m, valid := true } }
          let told : State :=
            if s.clock.valid = false ∧ s.clock.batteryLow = false then condEnds .clock moved
            else moved
          t.clock = moved.clock ∧ t.faults = told.faults
          ∧ t.visits.table = (s.visits.table.map fun v =>
              if due v then { v with overstay := true } else v)
          ∧ (quiet → t.reports = ((s.visits.table.filter fun v => due v).foldl
              (fun x v => offer .overstay .none
                [toString v.number, tagText v.tag, visitStateWord v.state] x) told).reports))
      ∧ (∀ c, is .metrology (.calib c) →
          t.metro.inProgress = s.metro.waiting ∧ t.metro.waiting = none
            ∧ t.journal.pending = s.journal.pending ++
              match s.metro.waiting with
              | some w => [{ requester := .metrology, deck := none, body := .calib w, attempt := 1 }]
              | none => [])
      ∧ (∀ c, is .link (.settle c) → c.kind = .abandoned →
          t.outcomes.queue = s.outcomes.queue ++ [r] ∧ t.link.closing = none
            ∧ t.visits.table = s.visits.table.filter (fun v => v.number ≠ c.visit)
            ∧ t.accounts = s.accounts ∧ t.tares = s.tares ∧ t.decks = s.decks
            ∧ (quiet → t.reports = (offer .settled .none (settled c) s).reports))
      ∧ (∀ d c, is (.settle d) (.settle c) → c.kind ≠ .abandoned →
          let q := (s.deck d).seq
          t.outcomes.queue = s.outcomes.queue ++ [r]
            ∧ t.accounts = s.accounts.map (fun x => if x.number = c.account then
                { x with balance := max (-999999999) (x.balance - c.charge)
                         pendingCharge := x.pendingCharge - c.charge
                         status := if c.flags.limit = true ∧ x.status = .open then .stoppedLimit
                                   else x.status }
                else x)
            ∧ (c.kind = .twoPass →
                t.visits.table = s.visits.table.filter fun v => v.number ≠ c.visit)
            ∧ (c.kind = .onePass → t.visits.table = s.visits.table.map fun v =>
                if v.number = c.visit then { v with state := .settled, holder := .none } else v)
            ∧ (c.tareUpdate = none → t.tares = s.tares)
            ∧ (∀ kg n, c.tareUpdate = some (kg, n) →
                let put (k : Nat) : Tares := { s.tares with
                  table := s.tares.table.set k (some ⟨c.tag, kg, s.clock.now, .weighed, n⟩) }
                (∀ k en, s.tareOf? c.tag = some (k, en) → t.tares = put k)
                ∧ (s.tareOf? c.tag = none →
                    (∀ k, s.tares.table.findIdx? (·.isNone) = some k → t.tares = put k)
                    ∧ (s.tares.table ≠ [] → (∀ x ∈ s.tares.table, x ≠ none) →
                        ∃ k old, s.tares.table[k]? = some (some old)
                          ∧ (∀ (m : Nat) en, s.tares.table[m]? = some (some en) →
                              old.stored < en.stored ∨ (old.stored = en.stored ∧ k ≤ m))
                          ∧ t.tares = put k)))
            ∧ (quiet →
                let s1 : State := match s.account? c.account with
                  | some x =>
                    if c.flags.limit = true ∧ x.status = .open then
                      offer .accountStopped .none [toString c.account,
                        toString (max (-999999999) (x.balance - c.charge)), toString x.limit] s
                    else s
                  | none => s
                let s2 : State := match c.tareUpdate with
                  | some (kg, n) => (storeTare c.tag kg .weighed n s1).2.2
                  | none => s1
                let s3 := offer .settled (.deck d) (settled c) s2
                let s4 : State :=
                  if (s.deck d).printer.queue.length < 4 then s3
                  else offer .noTicket (.deck d) [toString r.seq, toString c.visit] s3
                (q.orphanSettle = true → t.reports = s4.reports)
                ∧ ∃ rest, t.reports.queue = s4.reports.queue ++ rest)
            ∧ (q.orphanSettle = true → (t.deck d).seq = { q with orphanSettle := false })
            ∧ (∀ e, q.orphanSettle = false → q.approach = some e →
                (t.deck d).seq.reservation = false
                ∧ (t.deck d).seq.ticket = some
                    ⟨r.seq, if (s.deck d).printer.queue.length < 4 then .queued else .missing⟩
                ∧ ((t.deck d).seq.state =
                    if (s.deck d).settings.release = .atSettle
                        ∨ 4 ≤ (s.deck d).printer.queue.length then .departing else .ticketing)
                ∧ ((t.deck d).seq.state = .departing → (t.deck d).seq.passage = some e.other))
            ∧ ((s.deck d).printer.queue.length < 4 → (t.deck d).printer.queue =
                (s.deck d).printer.queue ++
                  [{ seq := r.seq, layout := (s.cls c.cls).layout, copy := false, stamp := r.stamp
                     values := c }]))
      ∧ (∀ d v k g n, is (.capture d) (.stage v k g n) → (s.deck d).capture.orphan = false →
          (s.deck d).capture.state = .stageWrite →
          (t.deck d).capture = { (s.deck d).capture with
            stages := stampLast r.seq (s.deck d).capture.stages
            stage := (s.deck d).capture.stage + 1, state := .waiting, blocking := some .next })
      ∧ (∀ d v k g n, is (.capture d) (.stage v k g n) →
          (quiet → t.reports = (offer .stage (.deck d)
            [toString k, toString v, toString r.seq, toString n] s).reports)
          ∧ ((s.deck d).capture.orphan = true → orphaned t d)
          ∧ (∀ rq init en, (s.deck d).capture.orphan = false →
              (s.deck d).capture.state = .weighWrite → (s.deck d).capture.request = some rq →
              (s.deck d).capture.stages = init ++ [en] →
              let stages := init ++ [{ en with seq := some r.seq }]
              (t.deck d).capture = { (s.deck d).capture with stages := stages }
              ∧ t.journal.pending = s.journal.pending ++
                  [{ requester := .capture d, deck := some d, attempt := 1
                     body := .weigh (s.deck d).capture.weighValue rq.role rq.tag rq.visit
                       (stages.filterMap (·.seq)) }]))
      ∧ (∀ d v ro g n ss, is (.capture d) (.weigh v ro g n ss) →
          (quiet → ∃ rest, t.reports.queue = (offer .captured (.deck d)
            [roleWord ro, toString v, toString r.seq, toString n, if ss = [] then "N" else "Y"]
            s).reports.queue ++ rest)
          ∧ ((s.deck d).capture.orphan = true → orphaned t d))
      ∧ (∀ d v ro g n ss e, is (.capture d) (.weigh v ro g n ss) →
          (s.deck d).capture.orphan = false → (s.deck d).capture.state = .weighWrite →
          (s.deck d).seq.state = .committing → (s.deck d).seq.approach = some e →
          (s.deck d).seq.role ≠ none → (s.deck d).seq.role ≠ some .pass →
          (t.deck d).capture.state = .idle
            ∧ (t.deck d).seq.weighing = some ⟨v, r.seq, d, r.stamp.count, !ss.isEmpty⟩
            ∧ ((s.deck d).seq.role = some .first →
                (t.deck d).seq.state = .departing ∧ (t.deck d).seq.passage = some e.other
                ∧ t.visits.table = s.visits.table.map fun x =>
                    if x.number = (s.deck d).seq.visit then
                      { x with first := some ⟨v, r.seq, d, r.stamp.count, !ss.isEmpty⟩
                               state := .onSite, holder := .none }
                    else x)
            ∧ ((s.deck d).seq.role = some .second →
                (t.deck d).seq.state = .settling ∧ t.visits = s.visits)
            ∧ (∀ x u, (s.deck d).seq.role = some .onePass → s.visit? (s.deck d).seq.visit = some x →
                x.tare = some u →
                if (u.value : Int) + 20 * (s.deck d).params.interval ≤ v then
                  (t.deck d).seq.state = .settling ∧ t.visits = s.visits
                    ∧ t.journal.pending = s.journal.pending
                else
                  (t.deck d).seq.state = .departing ∧ (t.deck d).seq.passage = some e.other
                  ∧ t.journal.pending = s.journal.pending
                  ∧ t.visits = { s.visits with table := s.visits.table.map fun y =>
                      if y.number = (s.deck d).seq.visit then
                        { y with kind := .twoPass, tare := none
                                 first := some ⟨v, r.seq, d, r.stamp.count, !ss.isEmpty⟩
                                 state := .onSite, holder := .none, note := .tareConflict }
                      else y }))

/-- R148, R156, R157, R162, R163: erases, with ERASE_DONE. R55, R156, R157, R164: the end of a scan,
with its level reports and the CALIB record requested again. That an erase gives an ERASED page beside a
CURRENT one though the sequence be spent, and that a scan places FULL before LOW, is log entry 19; that a
scan which cannot read the store keeps the pages, log entry 16; that the scan sets the read pointer, log
entry 27. -/
def Obligations.ErasesAndScansRun : Prop :=
  (∀ s : State,
     let j := s.journal
     let may : Prop := (∃ i, j.eraseHead = some i) ∧ j.scanDone = true ∧ j.fault = false
       ∧ j.inProgress = none ∧ (j.pending = [] ∨ j.full = true)
     (¬ may → exec .eraseStart s = .next s)
       ∧ (may → exec .eraseStart s = .next { s with journal := { j with erase := .running } })
       ∧ (j.eraseHead = none ∨ j.erase ≠ .running →
           exec .eraseComplete s = .next s ∧ exec .eraseFailure s = .next s)
       ∧ ∀ i, j.eraseHead = some i → j.erase = .running →
           (∃ t, exec .eraseComplete s = .next t
             ∧ t.journal.page i = { state := if j.hasCurrent then .erased else .current, used := [] }
             ∧ (∀ k, k ≠ i → t.journal.page k = j.page k)
             ∧ t.journal.erase = .none ∧ t.journal.nextSeq = j.nextSeq
             ∧ t.reports =
                 (offer .eraseDone .none [toString i, toString t.journal.erasedCount] s).reports
             ∧ t = { s with journal := t.journal, reports := t.reports })
           ∧ (j.eraseFailed = false →
               exec .eraseFailure s = .next { s with journal := { j with eraseFailed := true } })
           ∧ (j.eraseFailed = true → ∃ t, exec .eraseFailure s = .next t
               ∧ t.journal.fault = true ∧ t.journal.pages = j.pages
               ∧ (t.faults.get .journal).state = .active
               ∧ t.reports = (condArises .journal s).reports
               ∧ t = { s with journal := t.journal, reports := t.reports, faults := t.faults }))
  ∧ (∀ s : State,
       let j := s.journal
       let again : List Request := match s.metro.inProgress with
         | some c =>
           if j.has .metrology = true then []
           else [{ requester := .metrology, deck := none, body := .calib c, attempt := 1 }]
         | none => []
       (j.scanDone = true → ∀ b, exec (.journalScanComplete b) s = .next s)
         ∧ (j.scanDone = false →
             (∃ t, exec (.journalScanComplete false) s = .next t ∧ t.journal.fault = true
               ∧ t.journal.scanDone = true ∧ t.journal.pages = j.pages
               ∧ t.journal.nextSeq = j.nextSeq ∧ (t.faults.get .journal).state = .active
               ∧ t.journal.pending = j.pending ++ again
               ∧ t.reports = (condArises .journal s).reports
               ∧ t = { s with journal := t.journal, reports := t.reports, faults := t.faults })
             ∧ ∃ t, exec (.journalScanComplete true) s = .next t
               ∧ t.journal.fault = false ∧ t.journal.scanDone = true ∧ t.journal.cutSlot = false
               ∧ t.journal.lastGranted = .link ∧ j.nextSeq ≤ t.journal.nextSeq
               ∧ (∀ p ∈ t.journal.pages, ∀ r ∈ recordsOf p.used, r.seq < t.journal.nextSeq)
               ∧ (∀ r, r ∈ t.journal.held ↔ r ∈ j.held)
               ∧ t.journal.readPointer = (match t.journal.held with
                   | [] => 0
                   | r :: _ => r.seq)
               ∧ (j.cutSlot = false → t.journal.pages = j.pages)
               ∧ (∀ i, j.cutSlot = true → j.current? = some i →
                   (t.journal.page i).used = (j.page i).used ++ [.void])
               ∧ t.journal.pending = j.pending ++ again
               ∧ t.reports =
                   (let s1 := if t.journal.full = true then
                        offer .journalFull .none [toString (t.journal.nextSeq - 1)] s else s
                    if t.journal.erasedCount ≤ j.low then
                      offer .journalLow .none [toString t.journal.erasedCount, toString j.low] s1
                    else s1).reports
               ∧ t = { s with journal := t.journal, reports := t.reports }))

/-- R153, R157 to R159: the journal's settings. R160, R161: the purge's two lines. A purge takes the
oldest FILLED pages, each holding only records at or below the export mark and older than the retention
period, and stops at its count, at the last page, or at a page that fails; PURGE_STOP names the first
record that fails either test (log entry 19). -/
def Obligations.JournalSettingsAndPurge : Prop :=
  (∀ s : State,
     let j := s.journal
     let put (j' : Journal) : State := { s with journal := j' }
     (s.part.run = true → ∀ p, Refused (.journalPrefer p) .state s)
       ∧ (s.part.run = false → Refused (.journalPrefer none) .param s
           ∧ ∀ p, AnswersWith (.journalPrefer (some p)) (.ok []) s (put { j with prefer := p }))
       ∧ Answers .journalPreferQuery (.ok [preferWord j.prefer]) s
       ∧ Refused (.journalLow none) .param s ∧ Refused (.journalRetain none) .param s
       ∧ Refused (.journalExported none) .param s
       ∧ (∀ v : SetArg,
           let n := v.value 1 8 4
           AnswersWith (.journalLow (some v)) (settingReply (v.clamped 1 8) [n]) s
             (if j.low < j.erasedCount ∧ j.erasedCount ≤ n then
               offer .journalLow .none [toString j.erasedCount, toString n] (put { j with low := n })
              else put { j with low := n }))
       ∧ (∀ v : SetArg, AnswersWith (.journalRetain (some v))
           (settingReply (v.clamped 0 3650) [v.value 0 3650 365]) s
           (put { j with retain := v.value 0 3650 365 }))
       ∧ (∀ q : Int, q < j.exported ∨ (j.nextSeq : Int) ≤ q → 1 ≤ j.nextSeq →
           Refused (.journalExported (some q)) .param s)
       ∧ (∀ q : Nat, j.exported ≤ q → q < j.nextSeq →
           AnswersWith (.journalExported (some q)) (.ok [toString q]) s (put { j with exported := q }))
       ∧ Answers .journalLowQuery (.ok [toString j.low]) s
       ∧ Answers .journalRetainQuery (.ok [toString j.retain]) s
       ∧ Answers .journalExportedQuery (.ok [toString j.exported]) s)
  ∧ (∀ s : State,
       let j := s.journal
       exec .journalPurgeEnable s = .next { s with
           link := { s.link with reply := some (.ok []) }, journal := { j with purgeLatch := true } }
         ∧ (j.purgeLatch = false → ∀ n, Refused (.journalPurge n) .state s)
         ∧ (j.purgeLatch = true →
             Refused (.journalPurge none) .param s
             ∧ (∀ n : Int, n < 1 ∨ 63 < n → Refused (.journalPurge (some n)) .param s)
             ∧ ∀ n : Nat, 1 ≤ n → n ≤ 63 →
                 (j.fault = true → Refused (.journalPurge (some n)) .state s)
                 ∧ (j.fault = false → j.erasing = true → Refused (.journalPurge (some n)) .busy s)
                 ∧ (j.fault = false → j.erasing = false →
                     let filled : List Nat := ((List.range 64).map fun m => (j.newest + 1 + m) % 64).filter
                       fun i => (j.page i).state == .filled
                     let passes (r : Record) : Prop :=
                       r.seq ≤ j.exported ∧ r.stamp.time + j.retain * 86400 < s.clock.now
                     ∃ t k w, AnswersWith (.journalPurge (some n)) (.ok [toString k, w]) s t
                       ∧ k ≤ n ∧ k ≤ filled.length
                       ∧ t.journal.pages.length = j.pages.length
                       ∧ (∀ i, (t.journal.page i).used = (j.page i).used
                           ∧ (t.journal.page i).state =
                               if i ∈ filled.take k then .erasing else (j.page i).state)
                       ∧ (∀ i ∈ filled.take k, ∀ r ∈ recordsOf (j.page i).used, passes r)
                       ∧ (if k = n then w = "NONE" ∧ t.reports = s.reports
                          else match filled[k]? with
                            | none => w = "NO_PAGE" ∧ t.reports = s.reports
                            | some i => ∃ before r after,
                                recordsOf (j.page i).used = before ++ r :: after
                                ∧ (∀ x ∈ before, passes x) ∧ ¬ passes r
                                ∧ w = (if ∀ x ∈ recordsOf (j.page i).used, x.seq ≤ j.exported
                                       then "RETAINED" else "NOT_EXPORTED")
                                ∧ t.reports = (offer .purgeStop .none
                                    [w, toString i, toString r.seq] s).reports)
                       ∧ t = { s with
                           journal := { j with pages := t.journal.pages }, reports := t.reports })))

/-- R150, R167, R168: the journal read back, with the fields of a record of every kind; the flags' words
are R145's, and a CLOCK record's old date and time are its stamp's (R166, log entry 16). -/
def Obligations.JournalIsReadBack : Prop :=
  ∀ s : State,
    let j := s.journal
    let point (q : Nat) : State := { s with journal := { j with readPointer := q } }
    let seqOf (r : Option Record) : String := match r with
      | some r => toString r.seq
      | none => "-"
    Answers .journalQuery (.ok [seqOf j.held.head?, toString (j.nextSeq - 1), toString j.exported,
        toString (j.pages.countP (·.state == .erased)),
        if j.fault then "FAULT" else if j.full then "FULL" else "NORMAL",
        if j.erasing then "Y" else "N"]) s
      ∧ Refused (.journalPageQuery none) .param s
      ∧ (∀ p : Int, p < 0 ∨ 63 < p → Refused (.journalPageQuery (some p)) .param s)
      ∧ (∀ p : Nat, p ≤ 63 →
          let pg := j.page p
          let rs := recordsOf pg.used
          let held := if pg.state = .erasing then [] else rs
          Answers (.journalPageQuery (some p)) (.ok [pageWord pg.state, toString rs.length,
            toString (pg.used.length - rs.length), seqOf held.head?, seqOf held.getLast?]) s)
      ∧ Refused (.journalRead none) .param s
      ∧ (∀ q : Int, q < 1 ∨ 4294967295 < q → Refused (.journalRead (some q)) .param s)
      ∧ (∀ q : Nat, 1 ≤ q → q ≤ 4294967295 →
          ((∀ r ∈ j.held, r.seq ≠ q) → Refused (.journalRead (some q)) .notFound s)
          ∧ ((∃ r ∈ j.held, r.seq = q) → ∃ r ∈ j.held, r.seq = q
              ∧ AnswersWith (.journalRead (some q)) (.ok r.fields) s (point q)))
      ∧ ((∀ r ∈ j.held, r.seq ≤ j.readPointer) → Answers .journalNextQuery (.ok ["END"]) s)
      ∧ ((∃ r ∈ j.held, j.readPointer < r.seq) → ∃ r ∈ j.held, j.readPointer < r.seq
          ∧ (∀ x ∈ j.held, j.readPointer < x.seq → r.seq ≤ x.seq)
          ∧ AnswersWith .journalNextQuery (.ok r.fields) s (point r.seq))
      ∧ ∀ r : Record, r.fields.take 7 =
          [toString r.seq,
            match r.body with
              | .weigh .. => "WEIGH"
              | .stage .. => "STAGE"
              | .settle _ => "SETTLE"
              | .calib _ => "CALIB"
              | .clock _ => "CLOCK",
            dateText r.stamp.time, timeText r.stamp.time, dash deckName r.stamp.deck,
            toString r.stamp.count, if r.stamp.lock then "L" else "-"]
        ∧ r.fields.drop 7 =
          match r.body with
            | .weigh v role g n ss =>
              [toString v, roleWord role, tagText g, toString n,
                commas (ss.map fun q : Nat => toString q)]
            | .stage v k g n => [toString v, toString k, tagText g, toString n]
            | .settle c =>
              let flag (b : Bool) (w : String) : List String := if b then [w] else []
              let pair (p : Int × Nat) : String := toString p.1 ++ "/" ++ toString p.2
              [toString c.visit, tagText c.tag, toString c.account, toString c.cls,
                (match c.kind with
                  | .twoPass => "TWO_PASS"
                  | .onePass => "ONE_PASS"
                  | .abandoned => "ABANDONED"),
                pair c.first, dash pair c.second,
                (match c.tare with
                  | some (w, .weighed) => toString w ++ "/WEIGHED"
                  | some (w, .preset) => toString w ++ "/PRESET"
                  | none => "-"),
                toString c.net,
                (match c.dir with
                  | .inward => "IN"
                  | .outward => "OUT"
                  | .none => "NONE"),
                toString c.charge, toString c.balanceAfter,
                commas (flag c.flags.staged "STAGED" ++ flag c.flags.presetTare "PRESET_TARE"
                  ++ flag c.flags.calChanged "CAL_CHANGED" ++ flag c.flags.limit "LIMIT"
                  ++ flag c.flags.manual "MANUAL" ++ flag c.flags.detached "DETACHED"
                  ++ flag c.flags.deckChange "DECK_CHANGE"),
                (match c.tareUpdate with
                  | some (w, n) => toString w ++ "/" ++ toString n
                  | none => "-")]
            | .calib c =>
              [if c.cause = .switch then "SWITCH" else "LOCK", commas (c.names.a.map paramWord),
                commas (c.names.b.map paramWord)]
            | .clock m =>
              [dateText r.stamp.time, timeText r.stamp.time, dateText m, timeText m]

/-- R128, R165, R166: the yard clock. CLOCK_SECOND takes a second from every running timer (log entry 3),
moves the clock on, marks the visits that overstay and reports them in the order they were opened (log
entry 36), and changes nothing else. A change of the battery monitor signals the CLOCK condition where it
makes or ends it. -/
def Obligations.YardClockAdvancesAndIsSet : Prop :=
  ∀ s : State,
    let j := s.journal
    let now := min 3155759999 (s.clock.now + 1)
    let due (v : Visit) : Prop := v.overstay = false ∧ v.opened + s.visits.overstay * 3600 ≤ now
    let less (x : Timer) : Timer := match x with
      | .running n => .running (n - 1)
      | .stopped => .stopped
      | .expired => .expired
    let station (x : Station) : Station := { x with
      driver := { x.driver with travel := less x.driver.travel }
      machine := { x.machine with
        idTimer := less x.machine.idTimer, decideTimer := less x.machine.decideTimer
        clearTimer := less x.machine.clearTimer } }
    let unit (u : DeckUnit) : DeckUnit := { u with
      seq := { u.seq with
        tailgate := less u.seq.tailgate, weighTimer := less u.seq.weighTimer, take := less u.seq.take }
      printer := { u.printer with
        endTimer := less u.printer.endTimer, uncollected := less u.printer.uncollected
        stuck := less u.printer.stuck } }
    let at_ : State := { s with clock := { s.clock with now := now } }
    exec .clockSecond s = .next { at_ with
        decks := ⟨unit s.decks.a, unit s.decks.b⟩
        ends := ⟨station s.ends.a1, station s.ends.a2, station s.ends.b1, station s.ends.b2⟩
        link := { s.link with silenceTimer := less s.link.silenceTimer }
        visits := { s.visits with
          table := s.visits.table.map fun v => if due v then { v with overstay := true } else v }
        reports := ((s.visits.table.filter fun v => due v).foldl
          (fun x v => offer .overstay .none
            [toString v.number, tagText v.tag, visitStateWord v.state] x) at_).reports }
      ∧ (∀ low,
          let k : State := { s with clock := { s.clock with batteryLow := low } }
          exec (.batteryMonitorChange low) s = .next (
            if s.clock.valid = true ∧ s.clock.batteryLow = false ∧ low = true then condArises .clock k
            else if s.clock.valid = true ∧ s.clock.batteryLow = true ∧ low = false then
              condEnds .clock k
            else k))
      ∧ Answers .clockQuery (.ok ([dateText s.clock.now, timeText s.clock.now,
          if s.clock.valid then "VALID" else "INVALID"]
          ++ if j.has .clock then ["SETTING"] else [])) s
      ∧ ∀ p : Option ClockArgs,
          match p.bind ClockArgs.moment? with
          | none => Refused (.clockSet p) .param s
          | some m =>
            if j.fault = true then Refused (.clockSet p) .state s
            else if j.full = true then Refused (.clockSet p) .full s
            else if j.has .clock = true then Refused (.clockSet p) .busy s
            else AnswersWith (.clockSet p) (.ok ["SETTING"]) s { s with
              journal := { j with pending := j.pending ++
                [{ requester := .clock, deck := none, body := .clock m, attempt := 1 }] } }

/-- R165, R166: a date and time that the clock accepts are the ones it then shows, and lie in its
range. -/
def Obligations.CalendarRoundTrip : Prop :=
  ∀ (a : ClockArgs) (m : YardTime), ClockArgs.moment? a = some m →
    m ≤ 3155759999 ∧ dateOf (m / 86400) = (a.year, a.month, a.day)
      ∧ m % 86400 / 3600 = a.hour ∧ m % 3600 / 60 = a.minute ∧ m % 60 = a.second
      ∧ 1 ≤ a.month ∧ a.month ≤ 12

/-- R147, R149, R158: the journal's invariant, kept by every step. -/
def Obligations.JournalKeptByEveryStep : Prop :=
  ∀ s t : State, JournalKept s → step s = .next t → JournalKept t ∧ s.journal.nextSeq ≤ t.journal.nextSeq

/-! ### Chapter 9: tickets and printers -/

/-- R172, R174, R177: a printer starts its head job, sends each line with CR and LF and a form feed
after the last, and starts no character while BUSY reads active. R170: the fifteen fields, what a line
prints, and that it prints exactly its printed width when each field's content fits its width. The send
position, and the reading of a line's text and class name as the line begins, are log entry 20. -/
def Obligations.PrinterSendsTheHeadJob : Prop :=
  (∀ (s : State) (d : Deck),
     let u := s.deck d
     let p := u.printer
     let may : Prop := p.queue ≠ [] ∧ (p.state = .ready ∨ p.state = .waitTake ∧ p.uncollected = .expired)
     let sends (pos : SendPosition) : State :=
       s.modPrinter d fun p => { p with send := some pos, charGoing := !u.lines.busy }
     (¬ may → exec (.printerJobStart d) s = .next s)
       ∧ (p.charGoing = false ∨ p.send = none →
           exec (.printerCharacterSent d) s = .next s ∧ exec (.printerLastCharacterSent d) s = .next s)
       ∧ ∀ j js, p.queue = j :: js →
           let l := s.layout j.layout
           let text (n : Nat) : Text := expandLine (s.cls j.values.cls).name j (l.getD (n - 1) [])
           (may → exec (.printerJobStart d) s = .next (s.modPrinter d fun p => { p with
             state := .printing, presented := none, uncollected := .stopped, busyAfterEnd := false
             charGoing := !u.lines.busy, endTimer := .stopped
             send := some { line := 1, rest := lineChars s j 1 } }))
           ∧ (∀ n, 1 ≤ n → n < layoutLength l →
               lineChars s j n = text n ++ [Char.ofNat 13, Char.ofNat 10])
           ∧ (1 ≤ layoutLength l → lineChars s j (layoutLength l)
               = text (layoutLength l) ++ [Char.ofNat 13, Char.ofNat 10, Char.ofNat 12])
           ∧ (layoutLength l = 0 → lineChars s j 1 = [Char.ofNat 12])
           ∧ (p.charGoing = true →
               (∀ n c x rest, p.send = some { line := n, rest := c :: x :: rest } →
                 exec (.printerCharacterSent d) s = .next (sends { line := n, rest := x :: rest }))
               ∧ (∀ n c, c ≠ Char.ofNat 12 → p.send = some { line := n, rest := [c] } →
                 exec (.printerCharacterSent d) s
                   = .next (sends { line := n + 1, rest := lineChars s j (n + 1) }))
               ∧ ∀ n, p.send = some { line := n, rest := [Char.ofNat 12] } →
                 exec (.printerLastCharacterSent d) s = .next (s.modPrinter d fun p => { p with
                   send := some { line := n, rest := [] }, charGoing := false, endTimer := .running 2
                   busyAfterEnd := u.lines.busy })))
  ∧ (∀ (name : Text) (j : Job),
       let v := j.values
       let right (w : Nat) (t : String) : Text := List.replicate (w - t.toList.length) ' ' ++ t.toList
       let left (w : Nat) (t : Text) : Text := t ++ List.replicate (w - t.length) ' '
       let mark (b : Bool) (c : Char) : Char := if b then c else '.'
       let fields : List (Char × Nat × Text) :=
         [('G', 7, right 7 (toString v.first.1)),
          ('T', 7, right 7 (match v.second, v.tare with
            | some p, _ => toString p.1
            | none, some p => toString p.1
            | none, none => "")),
          ('N', 7, right 7 (toString v.net)), ('C', 10, right 10 (toString v.charge)),
          ('B', 11, right 11 (toString v.balanceAfter)), ('Q', 10, right 10 (toString j.seq)),
          ('V', 6, right 6 (toString v.visit)), ('P', 10, left 10 (tagChars v.tag)),
          ('A', 6, right 6 (toString v.account)), ('K', 12, left 12 name),
          ('D', 10, left 10 (dateText j.stamp.time).toList),
          ('H', 8, left 8 (timeText j.stamp.time).toList), ('Z', 5, right 5 (toString j.stamp.count)),
          ('S', 7, [mark v.flags.staged 'S', mark v.flags.presetTare 'P', mark v.flags.calChanged 'C',
            mark v.flags.limit 'L', mark v.flags.manual 'M', mark v.flags.detached 'D',
            mark v.flags.deckChange 'X']),
          ('X', 4, if j.copy then ['C', 'O', 'P', 'Y'] else [' ', ' ', ' ', ' '])]
       (∀ c w t, (c, w, t) ∈ fields → markerWidth c = some w ∧ fieldText name j c w = t)
         ∧ (∀ c, c ∉ fields.map (·.1) → markerWidth c = none)
         ∧ expandLine name j [] = [] ∧ expandLine name j ['~'] = ['~']
         ∧ (∀ c rest, c ≠ '~' → expandLine name j (c :: rest) = c :: expandLine name j rest)
         ∧ (∀ c rest, expandLine name j ('~' :: c :: rest) =
             match markerWidth c with
             | some w => fieldText name j c w ++ expandLine name j rest
             | none => '~' :: c :: expandLine name j rest))
  ∧ (∀ (name : Text) (j : Job) (t : Text),
       name.length ≤ 12 →
       (∀ c w, markerWidth c = some w → c ≠ 'K' → (fieldText name j c w).length = w) →
       (expandLine name j t).length = printedWidth t)

/-- R117, R172, R175, R176, R177: what prints a job, what takes its ticket, and what the sequencer
is told. That a ticket's progress changes nothing unless the sequencer is in TICKETING is log entry 26.
BUSY falling while the PRN condition is present stands with the printer's faults. -/
def Obligations.JobsPrintAndTicketsAreTaken : Prop :=
  ∀ (s : State) (d : Deck),
    let u := s.deck d
    let p := u.printer
    let q := u.seq
    let told (t s1 : State) (sq : Nat) (pr : TicketProgress) : Prop :=
      ((q.state ≠ .ticketing ∨ q.ticket.map Ticket.seq ≠ some sq) → t = s1)
        ∧ (q.state = .ticketing → q.ticket.map Ticket.seq = some sq →
            (q.release = .atTaken → pr = .printed → t = s1.modSeq d fun q =>
              { q with ticket := some ⟨sq, pr⟩, take := .running u.settings.takeTime })
            ∧ (q.release = .atPrinted ∨ pr = .taken → q.approach ≠ none →
                (t.deck d).seq.state = .departing ∧ (t.deck d).seq.ticket = some ⟨sq, pr⟩
                ∧ (t.deck d).seq.take = .stopped))
    let prints (i : Instr) (s0 : State) (j : Job) (js : List Job) : Prop :=
      let s1 := offer .ticketPrinted (.deck d)
        [toString j.seq, if j.copy then "COPY" else "ORIGINAL", toString j.layout]
        (s0.modPrinter d fun p => { p with
          queue := js, presented := some j, endTimer := .stopped, send := none, charGoing := false
          state := .waitTake, uncollected := .running p.uncollectedTime })
      ∃ t, exec i s = .next t ∧ (j.copy = true → t = s1) ∧ (j.copy = false → told t s1 j.seq .printed)
    let busyIs (b : Bool) (f : Printer → Printer) : State :=
      (s.modDeckLines d fun l => { l with busy := b }).modPrinter d f
    (p.state ≠ .printing ∨ (∀ n, p.endTimer ≠ .running n) →
        exec (.printerEndTimerExpiry d) s = .next s)
      ∧ (∀ n, p.state = .printing → p.endTimer = .running n →
          (p.busyAfterEnd = true → exec (.printerEndTimerExpiry d) s
            = .next (s.modPrinter d fun p => { p with endTimer := .stopped }))
          ∧ (p.busyAfterEnd = false → ∀ j js, p.queue = j :: js →
              prints (.printerEndTimerExpiry d) s j js))
      ∧ exec (.busyChange d u.lines.busy) s = .next s
      ∧ (u.lines.busy = false → exec (.busyChange d true) s = .next (busyIs true fun p => { p with
          stuck := .running 30
          busyAfterEnd := p.busyAfterEnd || match p.send with
            | some pos => pos.rest.isEmpty
            | none => false }))
      ∧ (u.lines.busy = true → p.condition = false →
          (p.state ≠ .printing →
            exec (.busyChange d false) s = .next (busyIs false fun p => { p with stuck := .stopped }))
          ∧ (p.state = .printing → (∀ n, p.send ≠ some { line := n, rest := [] }) →
              exec (.busyChange d false) s
                = .next (busyIs false fun p => { p with stuck := .stopped, charGoing := true }))
          ∧ (∀ n j js, p.state = .printing → p.send = some { line := n, rest := [] } →
              p.busyAfterEnd = true → p.queue = j :: js →
              prints (.busyChange d false) (busyIs false fun p => { p with stuck := .stopped }) j js))
      ∧ (u.lines.taken = true → exec (.takeEvent d) s = .next s)
      ∧ (u.lines.taken = false →
          let s0 := s.modDeckLines d fun l => { l with taken := true }
          (p.presented = none → exec (.takeEvent d) s = .next s0)
          ∧ ∀ j, p.presented = some j →
              let s1 := s0.modPrinter d fun p =>
                if p.state = .waitTake then
                  { p with presented := none, uncollected := .stopped, state := .ready }
                else { p with presented := none }
              ∃ t, exec (.takeEvent d) s = .next t ∧ (j.copy = true → t = s1)
                ∧ (j.copy = false → told t s1 j.seq .taken))
      ∧ exec (.takenInactive d) s = .next (s.modDeckLines d fun l => { l with taken := false })
      ∧ ((∀ n, p.uncollected ≠ .running n) → exec (.uncollectedTimerExpiry d) s = .next s)
      ∧ ∀ n, p.uncollected = .running n →
          (p.queue = [] → exec (.uncollectedTimerExpiry d) s
            = .next (s.modPrinter d fun p => { p with uncollected := .expired }))
          ∧ (∀ j js, p.state = .waitTake → p.queue = j :: js → ∃ t,
              exec (.uncollectedTimerExpiry d) s = .next t
              ∧ (t.deck d).printer.state = .printing ∧ (t.deck d).printer.presented = none
              ∧ (t.deck d).printer.queue = p.queue ∧ t.reports = s.reports
              ∧ (t.deck d).printer.send = some { line := 1, rest := lineChars s j 1 }
              ∧ t = s.modPrinter d fun _ => (t.deck d).printer)

/-- R178: the PRN condition, and the printer's FAULT: PAPER or an expired stuck timer over BUSY makes the
condition arise, and PAPER or BUSY becoming inactive ends it when the other reads inactive too. -/
def Obligations.PrinterFaultsFollowPaperAndBusy : Prop :=
  ∀ (s : State) (d : Deck),
    let u := s.deck d
    let p := u.printer
    let paperIs (b : Bool) : State := s.modDeckLines d fun l => { l with paper := b }
    let busyOver : State := (s.modDeckLines d fun l => { l with busy := false }).modPrinter d fun p =>
      { p with stuck := .stopped }
    let ended (s0 : State) : State :=
      condEnds (.prn d) (s0.modPrinter d fun p => { p with condition := false })
    let faulted (i : Instr) (s0 : State) : Prop := ∃ t, exec i s = .next t
      ∧ t = condArises (.prn d) (s0.modPrinter d fun p =>
          let sent := decide (p.state = .printing)
          { p with
            state := .fault, condition := true
            send := if sent then none else p.send
            charGoing := if sent then false else p.charGoing
            busyAfterEnd := if sent then false else p.busyAfterEnd
            endTimer := if sent then .stopped else p.endTimer
            uncollected := if p.state = .waitTake then .stopped else p.uncollected })
      ∧ (t.deck d).printer.state = .fault ∧ (t.deck d).printer.condition = true
      ∧ (t.deck d).printer.queue = p.queue ∧ (t.deck d).printer.presented = p.presented
      ∧ (t.faults.get (.prn d)).state = .active
      ∧ (p.state = .printing → (t.deck d).printer.send = none
          ∧ (t.deck d).printer.endTimer = .stopped ∧ (t.deck d).printer.busyAfterEnd = false)
      ∧ (p.state = .waitTake → (t.deck d).printer.uncollected = .stopped)
      ∧ (∀ f, f ≠ .prn d → t.faults.get f = s.faults.get f)
      ∧ t = { s with decks := t.decks, faults := t.faults, reports := t.reports }
    (p.condition = true → exec (.paperChange d true) s = .next (paperIs true))
      ∧ (p.condition = false → faulted (.paperChange d true) (paperIs true))
      ∧ (p.condition = false ∨ u.lines.busy = true →
          exec (.paperChange d false) s = .next (paperIs false))
      ∧ (p.condition = true → u.lines.busy = false → ∃ t, exec (.paperChange d false) s = .next t
          ∧ (t.faults.get (.prn d)).state ≠ .active ∧ t = ended (paperIs false))
      ∧ (u.lines.busy = true → p.condition = true → p.state ≠ .printing →
          (u.lines.paper = true → exec (.busyChange d false) s = .next busyOver)
          ∧ (u.lines.paper = false → ∃ t, exec (.busyChange d false) s = .next t
              ∧ (t.faults.get (.prn d)).state ≠ .active ∧ t = ended busyOver))
      ∧ ((∀ n, p.stuck ≠ .running n) → exec (.stuckTimerExpiry d) s = .next s)
      ∧ ∀ n, p.stuck = .running n →
          (u.lines.busy = false ∨ p.condition = true → exec (.stuckTimerExpiry d) s
            = .next (s.modPrinter d fun p => { p with stuck := .expired }))
          ∧ (u.lines.busy = true → p.condition = false → faulted (.stuckTimerExpiry d)
              (s.modPrinter d fun p => { p with stuck := .expired }))

/-- R169, R171, R177, R180, R181: the lines of LAYOUT and TICKET. -/
def Obligations.LayoutAndTicketCommands : Prop :=
  ∀ s : State,
    let busy (n : Nat) : Prop := (∃ j ∈ s.decks.a.printer.queue, j.layout = n)
      ∨ ∃ j ∈ s.decks.b.printer.queue, j.layout = n
    (∀ (n : Int) k t, n < 0 ∨ 7 < n →
        Refused (.layoutLine n k t) .param s ∧ Refused (.layoutClear n) .param s
        ∧ Refused (.layoutLineQuery n k) .param s)
      ∧ (∀ (n : Nat) k t, n ≤ 7 → (∀ x, k = some x → x < 1 ∨ 24 < x) →
          Refused (.layoutLine n k t) .param s ∧ Refused (.layoutLineQuery n k) .param s)
      ∧ (∀ (n k : Nat) t, n ≤ 7 → 1 ≤ k → k ≤ 24 →
          let bad : Prop := 40 < t.length ∨ 40 < printedWidth t ∨ ∃ c ∈ t, printable c = false
          (bad → Refused (.layoutLine n (some k) t) .param s)
          ∧ (¬ bad → busy n → Refused (.layoutLine n (some k) t) .busy s)
          ∧ (¬ bad → ¬ busy n → AnswersWith (.layoutLine n (some k) t) (.ok [toString (printedWidth t)])
              s { s with layouts := s.layouts.set n ((s.layout n).set (k - 1) t) })
          ∧ Answers (.layoutLineQuery n (some k)) (.ok (match (s.layout n).getD (k - 1) [] with
              | [] => []
              | c :: cs => [String.ofList (c :: cs)])) s)
      ∧ (∀ n : Nat, n ≤ 7 →
          (busy n → Refused (.layoutClear n) .busy s)
          ∧ (¬ busy n → AnswersWith (.layoutClear n) (.ok ["0"]) s
              { s with layouts := s.layouts.set n (List.replicate 24 []) }))
      ∧ ∀ d : Deck,
          let p := (s.deck d).printer
          let l := (s.deck d).lines
          let mark (j : Job) : String := if j.copy then "/C" else ""
          let act (b : Bool) : String := if b then "ACT" else "INACT"
          Refused (.ticketUncollected d none) .param s
          ∧ (∀ v : SetArg, AnswersWith (.ticketUncollected d (some v))
              (settingReply (v.clamped 5 600) [v.value 5 600 60]) s
              (s.modPrinter d fun p => { p with uncollectedTime := v.value 5 600 60 }))
          ∧ Answers (.ticketUncollectedQuery d) (.ok [toString p.uncollectedTime]) s
          ∧ Refused (.ticketReprint d none) .param s
          ∧ (∀ q : Int, q < 1 ∨ 4294967295 < q → Refused (.ticketReprint d (some q)) .param s)
          ∧ (∀ q : Nat, 1 ≤ q → q ≤ 4294967295 →
              ((∀ r ∈ s.journal.held, r.seq ≠ q) → Refused (.ticketReprint d (some q)) .notFound s)
              ∧ ∀ r, s.journal.held.find? (fun r => r.seq == q) = some r →
                  ((∀ c, r.body ≠ .settle c) → Refused (.ticketReprint d (some q)) .notFound s)
                  ∧ ∀ c, r.body = .settle c →
                      (4 ≤ p.queue.length → Refused (.ticketReprint d (some q)) .full s)
                      ∧ (p.queue.length < 4 → AnswersWith (.ticketReprint d (some q))
                          (.ok [toString (p.queue.length + 1)]) s
                          (s.modPrinter d fun p => { p with queue := p.queue ++
                            [{ seq := q, layout := (s.cls c.cls).layout, copy := true
                               stamp := r.stamp, values := c }] })))
          ∧ Answers (.ticketQuery d) (.ok [
              (match p.state with
                | .ready => "READY"
                | .printing => "PRINTING"
                | .waitTake => "WAIT_TAKE"
                | .fault => "FAULT"),
              (match p.presented with
                | some j => toString j.seq ++ mark j
                | none => "-"),
              toString p.queue.length,
              commas (p.queue.map fun j => toString j.seq ++ "/" ++ toString j.layout ++ mark j),
              (if p.state = .printing then match p.send with
                | some ⟨_, []⟩ => "END"
                | some pos => toString pos.line
                | none => "-"
              else "-"),
              act l.busy ++ "," ++ act l.paper ++ "," ++ act l.taken,
              (match p.uncollected with
                | .running n => toString n
                | .expired => "EXPIRED"
                | .stopped => "-")]) s

/-! ### Chapter 10: link and part -/

/-- R184, R185, R186, R193: how a completed line is judged, and whether it is taken, held or refused for
order. A line that is taken and names a command has that command's own effect. That a line of more than
200 spaces is overlong is log entry 8; ATTACHED's parameter after a clock set back is a free value (log
entry 4). -/
def Obligations.LinesAreJudgedAndOffered : Prop :=
  ∀ (s : State) (cs : List LineChar), s.link.rx = { chars := [], spoiled := false, overflow := false } →
    let ones (c : Char) : Nat := ((List.range 8).filter fun k => c.toNat.testBit k).length
    let good (c : LineChar) : Prop := c.stop = true ∧ printable c.code = true
      ∧ (s.link.lineParity = .even → c.parity = some (ones c.code % 2 == 1))
    let s1 : State :=
      let l : Link := { s.link with
        silenceTimer := if s.link.silence = 0 then .stopped else .running s.link.silence }
      if s.link.attended = true then { s with link := l }
      else offer .attached .none [toString (match s.link.detachedSince with
          | some t => min 65535 (if t ≤ s.clock.now then s.clock.now - t
              else Config.attachedBackward t s.clock.now)
          | none => 0)]
        { s with link := { l with attended := true, detachedSince := none } }
    let offered (s' : State) (l : Line) (taken : Prop) : Prop :=
      let held : State := { s' with link := { s'.link with held := some l } }
      let counted : State := { s' with link := { s'.link with refusals := min 255 (s.link.refusals + 1) } }
      (s.link.held = none → s.link.refusals = 0 → s.link.reply = none → taken)
        ∧ (s.link.held = none → s.link.refusals = 0 → s.link.reply ≠ none →
            exec (.lineComplete cs) s = .next held)
        ∧ (s.link.held ≠ none ∨ s.link.refusals ≠ 0 → exec (.lineComplete cs) s = .next counted)
    ((∀ c ∈ cs, good c ∧ c.code = ' ') → cs.length ≤ 200 → exec (.lineComplete cs) s = .next s)
      ∧ ((∃ c ∈ cs.take 200, ¬ good c) → offered s .spoiled (Refused (.lineComplete cs) .line s))
      ∧ (200 < cs.length → (∀ c ∈ cs.take 200, good c) →
          offered s .overlong (Refused (.lineComplete cs) .long s))
      ∧ ((∀ c ∈ cs, good c) → cs.length ≤ 200 → (∃ c ∈ cs, c.code ≠ ' ') →
          let t : Text := cs.map (·.code)
          offered s1 (.framed t) (match readLine t with
            | .wrong c => AnswersWith (.lineComplete cs) (.er c []) s s1
            | .command i => exec (.lineComplete cs) s = exec i s1))

/-- R184, R186, R193: replies are sent in order, new line settings take effect with the reply, and a
silent host is found DETACHED. The order of the REFUSED reports is log entry 45. -/
def Obligations.RepliesAndSilence : Prop :=
  ∀ s : State,
    (s.link.reply = none → ∀ r, exec (.replySent r) s = .next s)
      ∧ (s.link.reply ≠ none → s.link.resetAsked = false →
          let l : Link :=
            if s.link.lineChange = true then { s.link with
              lineBaud := s.link.baud, lineParity := s.link.parity, lineChange := false, reply := none
              rx := { chars := [], spoiled := false, overflow := false } }
            else { s.link with reply := none }
          (∀ t r, s.link.held = some (.framed t) → exec (.replySent r) s =
            match readLine t with
            | .wrong c => .next ({ s with link := { l with held := none } }.answered (.er c []))
            | .command i => exec i { s with link := { l with held := none } })
          ∧ (∀ r, s.link.held = some .spoiled →
              AnswersWith (.replySent r) (.er .line []) s { s with link := { l with held := none } })
          ∧ (∀ r, s.link.held = some .overlong →
              AnswersWith (.replySent r) (.er .long []) s { s with link := { l with held := none } })
          ∧ (∀ r, s.link.held = none → s.link.refusals = 0 →
              exec (.replySent r) s = .next { s with link := l })
          ∧ (∀ r, s.link.held = none → 0 < s.link.refusals →
              AnswersWith (.replySent r) (.er .busy []) s
                { s with link := { l with refusals := s.link.refusals - 1 } }))
      ∧ (((∀ n, s.link.silenceTimer ≠ .running n) ∨ s.link.attended = false) →
          exec .silenceTimerExpiry s = .next s)
      ∧ (∀ n, s.link.silenceTimer = .running n → s.link.attended = true →
          ∃ t, exec .silenceTimerExpiry s = .next t
            ∧ t.link = { s.link with
                attended := false, detachedSince := some s.clock.now, silenceTimer := .stopped }
            ∧ (∀ e, (t.machine e).state ≠ .referred)
            ∧ (∀ e, (s.machine e).state ≠ .referred → t.station e = s.station e)
            ∧ (∀ e, (s.machine e).state = .referred → (s.machine e).clearTimer ≠ .expired →
                t.machine e = { s.machine e with
                  state := .refused, reason := .detached, prior := (s.machine e).reason
                  visit := none, idTimer := .stopped, decideTimer := .stopped })
            ∧ t.reports = ([EndId.a1, .a2, .b1, .b2].foldl
                (fun y e => if (s.machine e).state = .referred then
                    offer .refused (.atEnd e) ["DETACHED", reasonWord (s.machine e).reason,
                      dash tagText (s.machine e).tag] y
                  else y)
                (offer .detached .none [toString s.link.silence] s)).reports
            ∧ ((∀ e, (s.machine e).state = .referred → (s.machine e).visit = none) →
                t.visits = s.visits)
            ∧ t = { s with
                link := t.link, ends := t.ends, visits := t.visits, reports := t.reports })

/-- R184, R189, R192, R202: the lines of LINK, and the baud rate and parity bits at which a reply goes
out. R78, R195, R196, R197, R199, R202: the lines of PART; the order of the
ends at PART START and of the barriers at PART STOP is log entry 45. The replies to a negative silence time, to OFF and
to PARITY are log entry 18. -/
def Obligations.LinkAndPartCommands : Prop :=
  (∀ s : State,
     let l := s.link
     let put (l' : Link) : State := { s with link := l' }
     let baud (b : Nat) : State := put { l with baud := b, lineChange := true }
     let silence (n : Nat) : State :=
       put { l with silence := n, silenceTimer := if n = 0 then .stopped else .running n }
     Refused (.linkBaud none) .param s ∧ Refused (.linkParity none) .param s
       ∧ Refused (.linkSilence none) .param s
       ∧ (∀ b : Nat, b ∈ [9600, 19200, 38400, 57600, 115200] →
           AnswersWith (.linkBaud (some (.num b))) (.ok [toString b]) s (baud b))
       ∧ (∀ n : Int, ∃ r : Nat, r ∈ [9600, 19200, 38400, 57600, 115200]
           ∧ (n < 19200 → r = 9600) ∧ (115200 ≤ n → r = 115200) ∧ (9600 ≤ n → (r : Int) ≤ n)
           ∧ (∀ k ∈ [9600, 19200, 38400, 57600, 115200], ((k : Nat) : Int) ≤ n → k ≤ r)
           ∧ (n ≠ r → AnswersWith (.linkBaud (some (.num n))) (.clamped [toString r]) s (baud r)))
       ∧ AnswersWith (.linkBaud (some .min)) (.ok ["9600"]) s (baud 9600)
       ∧ AnswersWith (.linkBaud (some .max)) (.ok ["115200"]) s (baud 115200)
       ∧ AnswersWith (.linkBaud (some .dflt)) (.ok ["9600"]) s (baud 9600)
       ∧ (∀ p : Parity, AnswersWith (.linkParity (some p)) (.ok []) s
           (put { l with parity := p, lineChange := true }))
       ∧ AnswersWith (.linkSilence (some .off)) (.ok ["OFF"]) s (silence 0)
       ∧ (∀ n : Int,
           let i : Instr := .linkSilence (some (.time (.num n)))
           (n = 0 → AnswersWith i (.ok ["OFF"]) s (silence 0))
           ∧ (n < 5 → n ≠ 0 → AnswersWith i (.clamped ["5"]) s (silence 5))
           ∧ (600 < n → AnswersWith i (.clamped ["600"]) s (silence 600)))
       ∧ (∀ n : Nat, 5 ≤ n → n ≤ 600 →
           AnswersWith (.linkSilence (some (.time (.num n)))) (.ok [toString n]) s (silence n))
       ∧ AnswersWith (.linkSilence (some (.time .min))) (.ok ["5"]) s (silence 5)
       ∧ AnswersWith (.linkSilence (some (.time .max))) (.ok ["600"]) s (silence 600)
       ∧ AnswersWith (.linkSilence (some (.time .dflt))) (.ok ["120"]) s (silence 120)
       ∧ Answers .linkBaudQuery (.ok [toString l.baud]) s
       ∧ Answers .linkParityQuery (.ok [parityWord l.parity]) s
       ∧ Answers .linkSilenceQuery (.ok [if l.silence = 0 then "OFF" else toString l.silence]) s
       ∧ Answers .linkQuery (.ok [toString l.baud, parityWord l.parity,
           if l.silence = 0 then "OFF" else toString l.silence,
           if l.attended then "ATTENDED" else "DETACHED", secondsLeft l.silenceTimer]) s
       ∧ (l.reply = none → s.sentLine = none)
       ∧ (∀ r, l.reply = some r →
           let ones (c : Char) : Nat := ((List.range 8).filter fun k => c.toNat.testBit k).length
           s.sentLine = some (l.lineBaud, (r.text.toList ++ ['\r', '\n']).map fun c =>
             { code := c, stop := true
               parity := if l.lineParity = .even then some (ones c % 2 == 1) else none })))
  ∧ (∀ s : State,
       let enabled (d : Deck) : Prop :=
         let c := (s.deck d).params.cells
         c.c1 = true ∨ c.c2 = true ∨ c.c3 = true ∨ c.c4 = true
       let passes (d : Deck) : Prop :=
         enabled d ∧ (s.deck d).params.max ≤ 10000 * (s.deck d).params.interval
       let mode (r : Bool) : Part := { s.part with run := r }
       let idle : Prop := (∀ d, (s.deck d).seq.state = .idle) ∧ ∀ e, (s.machine e).state = .idle
       let no (ls : List String) : Prop := Answers .partStart (.er .state ("INCONSISTENT" :: ls)) s
       (s.part.run = true → Answers .partStart (.ok ["RUN"]) s)
         ∧ (s.part.run = false →
             (passes .a → ¬ passes .b → no ["B"]) ∧ (¬ passes .a → passes .b → no ["A"])
             ∧ (¬ passes .a → ¬ passes .b → no ["A", "B"])
             ∧ (passes .a → passes .b → ∃ t, AnswersWith .partStart (.ok ["RUN"]) s t
                 ∧ t.part = mode true
                 ∧ (∀ e, (s.machine e).state ≠ .idle ∨ (s.station e).lines.approach = false →
                     t.station e = s.station e)
                 ∧ (∀ e, (s.machine e).state = .idle → (s.station e).lines.approach = true →
                     s.isApproach e = true → (s.machine e).heldRead = none →
                     (s.machine e).conflict = false → (s.machine e).clearTimer ≠ .expired →
                     (t.machine e).state = .identifying
                     ∧ (t.machine e).idTimer = .running (s.machine e).idTime)
                 ∧ t.decks = s.decks ∧ t.journal = s.journal ∧ t.accounts = s.accounts
                 ∧ t.faults = s.faults
                 ∧ t = [EndId.a1, .a2, .b1, .b2].foldl (fun y e => wakeTest e y)
                     { s with part := mode true }))
         ∧ (s.part.run = false → Answers .partStop (.ok ["SETUP"]) s)
         ∧ (s.part.run = true → ¬ idle → Refused .partStop .busy s)
         ∧ (s.part.run = true → idle → ∃ t, AnswersWith .partStop (.ok ["SETUP"]) s t
             ∧ t.part = mode false ∧ t.decks = s.decks ∧ t.visits = s.visits
             ∧ (∀ e, (s.driver e).state = .down ∨ (s.driver e).state = .lowering →
                 (t.driver e).state = (s.driver e).state)
             ∧ (∀ e, ((s.driver e).state = .up ∨ (s.driver e).state = .raising) →
                 ((s.safetyOcc e = true → t.driver e = { s.driver e with pending := .lower })
                 ∧ (s.safetyOcc e = false → t.driver e =
                     Driver.drivenDown { s.driver e with pending := .none } (s.station e).lines)))
             ∧ t = [EndId.a1, .a2, .b1, .b2].foldl (fun y e => lowered e y)
                 { s with part := mode false })
         ∧ (s.part.run = true → ∀ y, Refused (.partAutostart y) .state s)
         ∧ (s.part.run = false → Refused (.partAutostart none) .param s
             ∧ ∀ y, AnswersWith (.partAutostart (some y)) (.ok []) s
                 { s with part := { s.part with autostart := y } })
         ∧ Answers .partAutostartQuery (.ok [if s.part.autostart then "YES" else "NO"]) s
         ∧ AnswersWith .partReset (.ok []) s { s with link := { s.link with resetAsked := true } }
         ∧ ∃ rev : Fin 26, Answers .partIdQuery (.ok ["PELIDRA", "YC-740",
             String.ofList [Char.ofNat (65 + rev.val)], if s.part.run then "RUN" else "SETUP",
             if s.part.autostart then "YES" else "NO"]) s)

/-- R8, R13, R40, R44, R80, R100, R102, R124, R138, R164, R165, R183, R197, R200, R203, R208, R211: what
power-on and RESET ALL leave: every driver started from its mode, feedback and safety loop, and every end
machine in IDLE, or woken in RUN, and the fault table but for what is present again. What the rows carry is log entry 21; the slot of a write that was cut
off is log entry 16; the enabled settings in force and the read pointer are log entry 27. -/
def Obligations.PowerOnAndResetAll : Prop :=
  ∀ (s : State) (r : Readings) (i : Instr),
    (i = .replySent r ∧ s.link.resetAsked = true ∧ s.link.reply ≠ none
      ∨ ∃ p : PowerUp, i = .powerOn p ∧ p.lines = r) →
    ∃ t, exec i s = .next t ∧
      (∀ d, (t.deck d).seq = .cleared ∧ (t.deck d).capture.state = .idle ∧ (t.deck d).streak = 0
        ∧ (t.deck d).wcu.latest = none ∧ (t.deck d).wcu.filterWin = [] ∧ (t.deck d).wcu.stabWin = []
        ∧ (t.deck d).wcu.zero = (s.deck d).wcu.zero ∧ (t.deck d).params = (s.deck d).params
        ∧ (t.deck d).lines = r.decks.get d ∧ (t.deck d).printer.queue = []
        ∧ (t.deck d).printer.presented = none
        ∧ (t.deck d).settings = { (s.deck d).settings with
            closePending := false
            mode := if (s.deck d).settings.closePending then .closed else (s.deck d).settings.mode }
        ∧ (∀ c : Chan, (t.deck d).channels.get c =
            { inForce := (s.deck d).params.cells.get c, count := 0, age := 0, delivered := false
              inSlot := false, condition := false, goodRun := 0, saturated := false, resignal := false })
        ∧ (t.deck d).printer.state = (if (r.decks.get d).paper = true then .fault else .ready)
        ∧ (t.deck d).printer.stuck = (if (r.decks.get d).busy = true then .running 30 else .stopped)
        ∧ (t.deck d).printer.uncollectedTime = (s.deck d).printer.uncollectedTime)
      ∧ (∀ e, (t.station e).lines = r.ends.get e
          ∧ (let m := s.machine e
             let occ := (r.ends.get e).approach
             let idle : EndMachine := { m with
               state := .idle, movement := none, tag := none, reason := .none, prior := .none
               admission := none, visit := none, idTimer := .stopped, decideTimer := .stopped
               clearTimer := if occ then .stopped else .running m.clearTime
               wrongWay := false, heldRead := none, conflict := false, rdrCondition := false }
             t.machine e =
               if t.part.run = true ∧ occ = true then
                 if t.isApproach e = true then
                   { idle with state := .identifying, movement := some (t.movementAt e)
                               idTimer := .running m.idTime }
                 else { idle with wrongWay := true }
               else idle)
          ∧ (let b := s.driver e
             let l := r.ends.get e
             let occ : Prop := l.safety = true ∨ l.loopfault = true
             let rest : Driver := { b with
               pending := .none, cause := .none, condition := false, travel := .stopped
               pulsing := false, raiseOut := false, lowerOut := false }
             let down : Driver := { rest with
               state := .lowering, commanded := .down, travel := .running b.travelTime
               lowerOut := decide (b.mode = .pulse), pulsing := decide (b.mode = .pulse) }
             let up : Driver := { rest with
               state := .raising, commanded := .up, travel := .running b.travelTime
               raiseOut := true, pending := .lower }
             t.driver e = b.started l (decide occ)
             ∧ (b.mode = .confirmed → l.down = true → l.up = false →
                 t.driver e = { rest with state := .down, commanded := .down })
             ∧ (b.mode ≠ .confirmed ∨ l.down = false → ¬ occ → t.driver e = down)
             ∧ (b.mode = .pulse → occ →
                 t.driver e = { rest with state := .up, commanded := .up, pending := .lower })
             ∧ (b.mode = .hold → occ → t.driver e = up)
             ∧ (b.mode = .confirmed → l.down = false → l.up = false → occ → t.driver e = up)
             ∧ (b.mode = .confirmed → l.down = false → l.up = true → occ →
                 t.driver e = { up with state := .up, travel := .stopped })
             ∧ (b.mode = .confirmed → l.down = true → l.up = true →
                 (t.driver e).state = .fault ∧ (t.driver e).cause = .both)))
      ∧ (∀ f : FaultSource,
          let present : Prop :=
            match f with
            | .cell _ _ | .rdr _ | .journal => False
            | .bar e => (s.driver e).mode = .confirmed ∧ (r.ends.get e).up = true
                ∧ (r.ends.get e).down = true
            | .loop e => (r.ends.get e).loopfault = true
            | .prn d => (r.decks.get d).paper = true
            | .clock => t.clock.valid = false ∨ t.clock.batteryLow = true
          (present → t.faults.get f =
              { state := .active, read := false, first := t.clock.now, count := 1 })
            ∧ (¬ present → t.faults.get f = .clear))
      ∧ (t.part.run = true ↔ s.part.autostart = true ∧ ∀ d,
          (s.deck d).params.cells.toList.any id = true
            ∧ (s.deck d).params.max ≤ 10000 * (s.deck d).params.interval)
      ∧ t.part.autostart = s.part.autostart
      ∧ t.link = { s.link with
          lineBaud := s.link.baud, lineParity := s.link.parity, lineChange := false
          rx := { chars := [], spoiled := false, overflow := false }, held := none, refusals := 0
          reply := none, attended := true, detachedSince := none, resetAsked := false, closing := none
          silenceTimer := if s.link.silence = 0 then .stopped else .running s.link.silence }
      ∧ t.metro = { s.metro with compareDue := true }
      ∧ t.visits = { s.visits with
          table := (s.visits.table.filter fun v => v.state ≠ .admitted).map fun v =>
            { v with holder := .none, state := if v.state = .leaving then .onSite else v.state } }
      ∧ t.tares = s.tares ∧ t.classes = s.classes ∧ t.layouts = s.layouts ∧ t.admission = s.admission
      ∧ t.accounts = (s.accounts.map fun a => { a with pendingCharge := 0 })
      ∧ t.outcomes = s.outcomes
      ∧ t.journal = { s.journal with
          fault := false, scanDone := false, pending := [], inProgress := none, lastGranted := .link
          cutSlot := s.journal.cutSlot || s.journal.inProgress.isSome
          erase := .none, eraseFailed := false, purgeLatch := false }
      ∧ (∃ rs, t.reports.queue = { number := s.reports.next, time := t.clock.now, kind := .powerUp
                                   subject := .none, lost := 0, params := [] } :: rs)
      ∧ (∀ x, i = .replySent x → t.clock = s.clock)
      ∧ ∀ p : PowerUp, i = .powerOn p → t.clock = (match p.clock with
          | some k => { s.clock with now := k, batteryLow := p.batteryLow }
          | none => { now := 0, valid := false, batteryLow := p.batteryLow })

/-! ### Chapter 11: outcomes, reports, faults -/

/-- R150, R203 to R205: the lines of OUTCOME. -/
def Obligations.OutcomeQueueCommands : Prop :=
  ∀ s : State,
    let o := s.outcomes
    let put (o' : Outcomes) : State := { s with outcomes := o' }
    let reserved (d : Deck) : Nat :=
      (if (s.deck d).seq.reservation then 1 else 0) + if (s.deck d).seq.orphanSettle then 1 else 0
    Answers .outcomeQuery (.ok (match o.queue with
        | [] => ["EMPTY"]
        | r :: _ => r.fields)) s
      ∧ Refused (.outcomeTake none) .param s
      ∧ (∀ q : Int, q < 1 ∨ 4294967295 < q → Refused (.outcomeTake (some q)) .param s)
      ∧ (∀ q : Nat, 1 ≤ q → q ≤ 4294967295 →
          (o.queue = [] → Refused (.outcomeTake (some q)) .notFound s)
          ∧ ∀ r rs, o.queue = r :: rs →
              (r.seq ≠ q → Refused (.outcomeTake (some q)) .mismatch s)
              ∧ (r.seq = q → AnswersWith (.outcomeTake (some q)) (.ok [toString rs.length]) s
                  (put { o with queue := rs })))
      ∧ Answers .outcomeCountQuery (.ok [toString o.queue.length,
          toString (reserved .a + reserved .b + if s.link.closing.isSome then 1 else 0),
          toString o.high, toString o.attn]) s
      ∧ Refused (.outcomeHigh none) .param s ∧ Refused (.outcomeAttn none) .param s
      ∧ (∀ v : SetArg, AnswersWith (.outcomeHigh (some v))
          (let n := [toString (v.value 8 64 32)]
            if v.clamped 8 64 then .clamped n else .ok n) s (put { o with high := v.value 8 64 32 }))
      ∧ (∀ v : SetArg, AnswersWith (.outcomeAttn (some v))
          (let n := [toString (v.value 1 64 1)]
            if v.clamped 1 64 then .clamped n else .ok n) s (put { o with attn := v.value 1 64 1 }))
      ∧ Answers .outcomeHighQuery (.ok [toString o.high]) s
      ∧ Answers .outcomeAttnQuery (.ok [toString o.attn]) s

/-- R206 to R208: the lines of REPORT, the kinds each mode selects, and the placing of an offered report.
The reply to TAKE, the number of reports left, is log entry 23. -/
def Obligations.ReportQueueCommands : Prop :=
  ∀ s : State,
    let q := s.reports
    let put (q' : Reports) : State := { s with reports := q' }
    Answers .reportQuery (.ok (match q.queue with
        | [] => ["EMPTY"]
        | r :: _ => [toString r.number, dateText r.time, timeText r.time, reportWord r.kind,
            subjectWord r.subject, toString r.lost] ++ r.params)) s
      ∧ Refused (.reportTake none) .param s
      ∧ (∀ n : Int, n < 1 ∨ 65535 < n → Refused (.reportTake (some n)) .param s)
      ∧ (∀ n : Nat, 1 ≤ n → n ≤ 65535 →
          (q.queue = [] → Refused (.reportTake (some n)) .notFound s)
          ∧ ∀ r rs, q.queue = r :: rs →
              (r.number ≠ n → Refused (.reportTake (some n)) .mismatch s)
              ∧ (r.number = n → AnswersWith (.reportTake (some n)) (.ok [toString rs.length]) s
                  (put { q with queue := rs })))
      ∧ Answers .reportCountQuery (.ok [toString q.queue.length, toString q.lost]) s
      ∧ Refused (.reportMode none) .param s ∧ Refused (.reportModeQuery none) .param s
      ∧ (∀ m, AnswersWith (.reportMode (some (.traffic, m))) (.ok []) s (put { q with traffic := m })
          ∧ AnswersWith (.reportMode (some (.weighing, m))) (.ok []) s (put { q with weighing := m })
          ∧ AnswersWith (.reportMode (some (.journal, m))) (.ok []) s (put { q with journal := m })
          ∧ AnswersWith (.reportMode (some (.faults, m))) (.ok []) s (put { q with faults := m }))
      ∧ (∀ g, Answers (.reportModeQuery (some g)) (.ok [match q.mode g with
          | .all => "ALL"
          | .exceptions => "EXCEPTIONS"
          | .none => "NONE"]) s)
      ∧ (∀ (g : ReportGroup) (kinds marked : List ReportKind),
          (g, kinds, marked) ∈ [
            (ReportGroup.traffic,
              [ReportKind.wrongWay, .refer, .admitted, .refused, .held, .departed, .tailgate,
                .deckNotClear, .overstay],
              [ReportKind.refer, .refused, .tailgate, .deckNotClear, .overstay]),
            (.weighing,
              [.captured, .stage, .settled, .weighTimeout, .tareReplaced, .accountStopped,
                .ticketPrinted, .ticketNotTaken, .noTicket],
              [.weighTimeout, .accountStopped, .ticketNotTaken, .noTicket]),
            (.journal, [.journalLow, .journalFull, .eraseDone, .purgeStop],
              [.journalLow, .journalFull, .purgeStop]),
            (.faults, [.fault, .faultGone], [.fault, .faultGone])] →
          ∀ k ∈ kinds,
            q.selects k = true ↔ q.mode g = .all ∨ (q.mode g = .exceptions ∧ k ∈ marked))
      ∧ (∀ k ∈ [ReportKind.powerUp, .deckReset, .detached, .attached, .calOn, .calOff],
          q.selects k = true)
      ∧ ∀ k subj ps,
          (q.selects k = false → offer k subj ps s = s)
          ∧ (q.selects k = true → q.queue.length < 48 → offer k subj ps s = put { q with
              queue := q.queue ++ [{ number := q.next, time := s.clock.now, kind := k, subject := subj
                                     lost := q.lost, params := ps }]
              next := if 65535 ≤ q.next then 1 else q.next + 1
              lost := 0 })
          ∧ (q.selects k = true → 48 ≤ q.queue.length →
              offer k subj ps s = put { q with lost := min 65535 (q.lost + 1) })

/-- R209: what a source's entry does, in each of its states, when its condition arises and when it ends.
R74, R179, R210, R211: the lines of FAULT. The dashes of a CLEAR entry are log entry 26, a pending RAISE
that the recovery lower replaces is log entry 31, and the read flag shown as it stood is log entry 32.
R212: ATTN is asserted exactly while a report waits,
the outcomes stand at the threshold, or a raised fault has not been read; its level follows the
polarity. -/
def Obligations.FaultTableCommandsAndAttn : Prop :=
  (∀ (s : State) (f : FaultSource),
     let en := s.faults.get f
     let put (v : FaultEntry) : State := { s with faults := s.faults.set f v }
     let more := min 255 (en.count + 1)
     (∀ v, (put v).faults.get f = v ∧ ∀ g, g ≠ f → (put v).faults.get g = s.faults.get g)
       ∧ (en.state = .clear →
           condArises f s = offer .fault (.source f) ["1"]
             (put { state := .active, read := false, first := s.clock.now, count := 1 })
           ∧ condEnds f s = s)
       ∧ (en.state = .active →
           condArises f s = put { en with count := more }
           ∧ condEnds f s = offer .faultGone (.source f) [toString en.count, "LATCHED"]
               (put { en with state := .latched }))
       ∧ (en.state = .latched →
           condArises f s = put { en with state := .active, count := more } ∧ condEnds f s = s))
  ∧ (∀ s : State,
     let read (f : FaultSource) (t : State) : Prop :=
       t.faults.get f = { s.faults.get f with read := true }
     let shown (f : FaultSource) : List String :=
       let en := s.faults.get f
       match en.state with
       | .clear => [sourceName f, "CLEAR", "-", "-", "-", "0"]
       | .active => [sourceName f, "ACTIVE", if en.read then "Y" else "N", dateText en.first,
           timeText en.first, toString en.count]
       | .latched => [sourceName f, "LATCHED", if en.read then "Y" else "N", dateText en.first,
           timeText en.first, toString en.count]
     ((∀ f, (s.faults.get f).state = .clear) → Answers .faultQuery (.ok ["NONE"]) s)
       ∧ ((∃ f, (s.faults.get f).state ≠ .clear) → ∃ t, AnswersWith .faultQuery
           (.ok ((allSources.filter fun f => (s.faults.get f).state ≠ .clear).flatMap shown)) s t
           ∧ (∀ f, (s.faults.get f).state ≠ .clear → read f t)
           ∧ (∀ f, (s.faults.get f).state = .clear → t.faults.get f = s.faults.get f)
           ∧ t = { s with faults := t.faults })
       ∧ Refused (.faultSourceQuery none) .param s ∧ Refused (.faultClear none) .param s
       ∧ ∀ f : FaultSource,
           ((s.faults.get f).state = .clear → Answers (.faultSourceQuery (some f)) (.ok (shown f)) s
             ∧ Answers (.faultClear (some f)) (.ok []) s)
           ∧ ((s.faults.get f).state ≠ .clear → ∃ t,
               AnswersWith (.faultSourceQuery (some f)) (.ok (shown f)) s t ∧ read f t
               ∧ (∀ g, g ≠ f → t.faults.get g = s.faults.get g) ∧ t = { s with faults := t.faults })
           ∧ ((s.faults.get f).state = .active → Refused (.faultClear (some f)) .active s)
           ∧ ((s.faults.get f).state = .latched → (s.faults.get f).read = false →
               Refused (.faultClear (some f)) .unread s)
           ∧ ((s.faults.get f).state = .latched → (s.faults.get f).read = true → ∃ t,
               AnswersWith (.faultClear (some f)) (.ok []) s t
               ∧ ((∀ e, f ≠ .bar e) → t.faults.get f = .clear)
               ∧ ((∀ e, f ≠ .bar e) → ∀ g, g ≠ f → t.faults.get g = s.faults.get g)
               ∧ ((∀ e, f ≠ .bar e) → (∀ d, f ≠ .prn d) → t = { s with faults := t.faults })
               ∧ (∀ d, f = .prn d → (s.deck d).printer.state = .fault →
                   let p := (s.deck d).printer
                   (t.deck d).printer = (if p.presented = none then { p with state := .ready }
                     else { p with state := .waitTake, uncollected := .running p.uncollectedTime }))
               ∧ (∀ e, f = .bar e → (s.driver e).state = .fault →
                   let b : Driver := { s.driver e with cause := .none, condition := false }
                   let empty : State := { s with faults := s.faults.set f .clear }
                   let put (x : Driver) : State := empty.modDriver e fun _ => x
                   (b.mode = .confirmed → b.commanded = .down →
                       t = seqBarrierDown e (put { b with state := .down, travel := .stopped }))
                   ∧ (b.mode ≠ .confirmed ∨ b.commanded = .up → s.safetyOcc e = true →
                       t = put { b with state := .up, travel := .stopped, pending := .lower })
                   ∧ (b.mode ≠ .confirmed ∨ b.commanded = .up → s.safetyOcc e = false →
                       let down : State := drivenDown e (put b)
                       t = (if (down.driver e).state = .down then seqBarrierDown e down else down)
                         ∧ (down.driver e = b.drivenDown (s.station e).lines)
                         ∧ (b.mode ≠ .confirmed → (t.driver e).state = .lowering)))
               ∧ (∀ e, f = .bar e → (s.driver e).state ≠ .fault →
                   t = { s with faults := s.faults.set f .clear })))
  ∧ (∀ s : State,
       (s.attn = true ↔ s.reports.queue ≠ [] ∨ s.outcomes.attn ≤ s.outcomes.queue.length
           ∨ ∃ f, (s.faults.get f).state ≠ .clear ∧ (s.faults.get f).read = false)
         ∧ s.attnLevel = (if s.part.attnPolarity = .high then s.attn else !s.attn))

/-! ### The whole machine -/

/-- A step carries out the command at the front of the queue on the state with the queue's rest, and
idles on an empty queue (log entry 7). -/
def Obligations.StepRunsFrontCommand : Prop :=
  (∀ (s : State) (i : Instr), step { s with pending := i :: s.pending } = exec i s)
    ∧ ∀ s : State, s.pending = [] → step s = .next s

/-- R2, R45, R62, R63, R97, R101, R147, R169, R184, R192, R197, R205, R207: the values the manual
delivers, in the state after reset; the five invariants hold there. That the visit, account and outcome
tables are empty, and that the drivers are LOWERING over quiet inputs, is log entry 5. -/
def Obligations.ResetHoldsDeliveredValues : Prop :=
  let s := State.reset
  (∀ d, (s.deck d).params = { max := 60000, interval := 20, span := 16777216, z0 := 0
                              trims := ⟨16384, 16384, 16384, 16384⟩, cells := ⟨true, true, true, true⟩ }
      ∧ (s.deck d).settings.mode = .closed ∧ (s.deck d).seq.state = .idle
      ∧ (s.deck d).capture.state = .idle ∧ (s.deck d).wcu.latest = none
      ∧ (s.deck d).printer.state = .ready)
    ∧ (∀ e, (s.machine e).state = .idle ∧ (s.driver e).mode = .hold ∧ (s.driver e).travelTime = 8
        ∧ (s.driver e).pulseWidth = 500 ∧ (s.driver e).state = .lowering)
    ∧ s.part.run = false ∧ s.part.autostart = false ∧ s.part.scanRate = 20
    ∧ s.link.baud = 9600 ∧ s.link.parity = .none ∧ s.link.silence = 120 ∧ s.link.attended = true
    ∧ s.outcomes.high = 32 ∧ s.outcomes.attn = 1 ∧ s.outcomes.queue = []
    ∧ (∀ g, s.reports.mode g = .all) ∧ s.visits.table = [] ∧ s.accounts = []
    ∧ s.admission.policy = .refer ∧ (∀ en ∈ s.admission.entries, en.action = .empty)
    ∧ (s.journal.page 0).state = .current ∧ s.journal.erasedCount = 63 ∧ s.journal.nextSeq = 1
    ∧ layoutLength (s.layout 0) = 11 ∧ (∀ n, 1 ≤ n → layoutLength (s.layout n) = 0)
    ∧ (∀ f, s.faults.get f = .clear) ∧ s.pending = []
    ∧ ZeroKept s ∧ OutcomesKept s ∧ TablesKept s ∧ JournalKept s ∧ FaultsKept s

/-- R115, R123, R132, R203: the outcome queue's invariant, kept by every step: no settlement is
written without a place reserved for it, and the queue never outgrows its 64 places. -/
def Obligations.OutcomesKeptByEveryStep : Prop :=
  ∀ s t : State, OutcomesKept s → step s = .next t → OutcomesKept t

/-- R20: the zero of each deck stays within 0.02 × Max of its calibration zero at every step. -/
def Obligations.ZeroKeptByEveryStep : Prop :=
  ∀ s t : State, ZeroKept s → step s = .next t → ZeroKept t

/-- R90, R97, R130, R135, R169, R173, R186, R206, section 11.3: the sizes of the tables and queues,
and the shape of the fault entries, kept by every step. -/
def Obligations.TablesAndFaultsKeptByEveryStep : Prop :=
  ∀ s t : State, step s = .next t →
    (TablesKept s → TablesKept t) ∧ (FaultsKept s → FaultsKept t)

/-- R189, 00_scope.md, Quantities and units: a tag written as ten hexadecimal digits is read back as
the same tag. R187 to R189, R191: a line of every command is read as that command, whole or shortened to
its least keyword, in capitals or small letters; a misspelt line gives ER 10, a deck or end that is none
and a wrong number of parameters ER 11. Rested on log entry 17: a class that is no number has not the form of
an index (ER 10, R190), LAYOUT n LINE ? is ER 10, and a query mark within a line's text stays text. That a
word under FAULT which names no source is read as an action keyword is log entry 39. -/
def Obligations.TagTextRoundTrip : Prop :=
  let line (ws : List String) : Text := ((ws.map String.toList).intersperse [' ']).flatten
  let reads (p : List String × Instr) : Prop := readLine (line p.1) = .command p.2
  let wrong (c : ErCode) (ws : List String) : Prop := readLine (line ws) = .wrong c
  (∀ t : Tag, (tagChars t).length = 10 ∧ tagOf (tagChars t) = some t)
    ∧ readLine "dec a wei?".toList = .command (.deckWeightQuery .a)
    ∧ readLine "jou pur enable".toList = .command .journalPurgeEnable
    ∧ readLine "DECK A STA 3 4".toList = .wrong .syntaxError
    ∧ (∀ d : Deck, ∀ p ∈ ([
        (["DECK", deckName d ++ "?"], .deckQuery d),
        (["DECK", deckName d, "FILTER", "-1"], .deckFilter d (some (.num (-1)))),
        (["dec", deckName d, "fil?"], .deckFilterQuery d),
        (["DECK", deckName d, "STAB", "16", "MAX"], .deckStability d (some (.num 16, .max))),
        (["DECK", deckName d, "STABILITY?"], .deckStabilityQuery d),
        (["DECK", deckName d, "TRACK", "off"], .deckTrack d (some false)),
        (["DECK", deckName d, "TRACK?"], .deckTrackQuery d),
        (["DECK", deckName d, "ZERO"], .deckZero d), (["DECK", deckName d, "CELLS", "?"], .deckCellsQuery d),
        (["DECK", deckName d, "RESET"], .deckReset d),
        (["DECK", deckName d, "STAG", "YES"], .deckStaged d (some true)),
        (["DECK", deckName d, "STAGED?"], .deckStagedQuery d),
        (["DECK", deckName d, "BEAMS?"], .deckBeamsQuery d),
        (["DECK", deckName d, "CAPTURE?"], .deckCaptureQuery d),
        (["DECK", deckName d, "POLARITY", "BUSY", "LOW"], .deckPolarity d (some (.busy, .low))),
        (["DECK", deckName d, "POLARITY?", "TAKEN"], .deckPolarityQuery d (some .taken)),
        (["DECK", deckName d, "INBOUND", "2TO1"], .deckInbound d (some .twoToOne)),
        (["DECK", deckName d, "INBOUND?"], .deckInboundQuery d),
        (["DECK", deckName d, "OPEN", "IN_ONLY"], .deckOpen d (some .inOnly)),
        (["DECK", deckName d, "OPEN", "IN"], .deckOpen d none),
        (["DECK", deckName d, "CLOSE"], .deckClose d), (["DECK", deckName d, "MODE?"], .deckModeQuery d),
        (["DECK", deckName d, "CANCEL"], .deckCancel d), (["DECK", deckName d, "RELEASE"], .deckRelease d),
        (["DECK", deckName d, "STR", "DEF"], .deckStreak d (some .dflt)),
        (["DECK", deckName d, "STREAK?"], .deckStreakQuery d),
        (["DECK", deckName d, "TAI", "MIN"], .deckTailgate d (some .min)),
        (["DECK", deckName d, "TAILGATE?"], .deckTailgateQuery d),
        (["DECK", deckName d, "TIM", "0030"], .deckTimeout d (some (.num 30))),
        (["DECK", deckName d, "TIMEOUT?"], .deckTimeoutQuery d),
        (["DECK", deckName d, "TAK", "10"], .deckTaketime d (some (.num 10))),
        (["DECK", deckName d, "TAKETIME?"], .deckTaketimeQuery d),
        (["DECK", deckName d, "EXIT", "AT_TAKEN"], .deckExit d (some .atTaken)),
        (["DECK", deckName d, "EXIT?"], .deckExitQuery d),
        (["CAL", deckName d, "MAX", "60000"], .calMax d (some 60000)),
        (["CAL", deckName d, "MAX", "MAX"], .calMax d none),
        (["CAL", deckName d, "INTERVAL", "20"], .calInterval d (some 20)),
        (["CAL", deckName d, "TRIM", "1", "16384"], .calTrim d (some (1, 16384))),
        (["CAL", deckName d, "CELLS", "1", "3"], .calCells d (some [1, 3])),
        (["CAL", deckName d, "ZERO"], .calZero d),
        (["CAL", deckName d, "SPAN", "20000"], .calSpan d (some 20000)),
        (["CAL", deckName d, "K", "9"], .calK d (some 9)), (["CAL", deckName d, "Z0", "-9"], .calZ0 d (some (-9))),
        (["CAL", deckName d, "PARAM?"], .calParamQuery d),
        (["TICKET", deckName d, "UNCOLLECTED", "9"], .ticketUncollected d (some (.num 9))),
        (["TICKET", deckName d, "UNC?"], .ticketUncollectedQuery d),
        (["TICKET", deckName d, "REPRINT", "7"], .ticketReprint d (some 7)),
        (["TICKET", deckName d, "?"], .ticketQuery d)] : List (List String × Instr)), reads p)
    ∧ (∀ e : EndId, ∀ p ∈ ([
        (["END", endName e ++ "?"], .endQuery e),
        (["END", endName e, "POLARITY", "SAFETY", "HIGH"], .endPolarity e (some (.safety, .high))),
        (["END", endName e, "POL?", "RED"], .endPolarityQuery e (some .red)),
        (["END", endName e, "PRESENT", "00a1F3C207"], .endPresent e (some 0x00A1F3C207)),
        (["END", endName e, "PRESENT", "A1F3C207"], .endPresent e none),
        (["END", endName e, "ADMIT", "1204", "3"], .endAdmit e (some ⟨1204, 3, false⟩)),
        (["END", endName e, "ADMIT", "1204", "3", "ONEPASS"], .endAdmit e (some ⟨1204, 3, true⟩)),
        (["END", endName e, "REFUSE"], .endRefuse e),
        (["END", endName e, "IDTIME", "9"], .endIdtime e (some (.num 9))),
        (["END", endName e, "IDTIME?"], .endIdtimeQuery e),
        (["END", endName e, "DECIDE", "9"], .endDecide e (some (.num 9))),
        (["END", endName e, "DECIDE?"], .endDecideQuery e),
        (["END", endName e, "CLEARTIME", "9"], .endCleartime e (some (.num 9))),
        (["END", endName e, "CLEARTIME?"], .endCleartimeQuery e),
        (["BARRIER", endName e ++ "?"], .barrierQuery e),
        (["BAR", endName e, "MODE", "CONFIRMED"], .barrierMode e (some .confirmed)),
        (["BARRIER", endName e, "MODE?"], .barrierModeQuery e),
        (["BARRIER", endName e, "PULSE", "500"], .barrierPulse e (some (.num 500))),
        (["BARRIER", endName e, "PULSE?"], .barrierPulseQuery e),
        (["BARRIER", endName e, "TRAVEL", "8"], .barrierTravel e (some (.num 8))),
        (["BARRIER", endName e, "TRAVEL?"], .barrierTravelQuery e),
        (["BARRIER", endName e, "RAISE"], .barrierRaise e),
        (["BARRIER", endName e, "LOWER"], .barrierLower e)] : List (List String × Instr)), reads p)
    ∧ (∀ p ∈ ([
        (["VISIT", "7731?"], .visitQuery 7731), (["VISIT", "OVERSTAY", "9"], .visitOverstay (some (.num 9))),
        (["VISIT", "OVERSTAY?"], .visitOverstayQuery), (["VIS", "CLO", "7"], .visitClose (some 7)),
        (["VISIT", "FIND?", "5E10044B91"], .visitFindQuery (some 0x5E10044B91)),
        (["VISIT", "NEXT?", "0"], .visitNextQuery (some 0)), (["VISIT", "COUNT?"], .visitCountQuery),
        (["TAG", "0", "SET", "00A1F30000", "FFFFFF0000", "ADMIT", "1204", "3"],
          .tagSet 0 (some ⟨0x00A1F30000, 0xFFFFFF0000, .allow 1204 3 false⟩)),
        (["TAG", "1", "SET", "3C00000000", "FF00000000", "REFUSE"],
          .tagSet 1 (some ⟨0x3C00000000, 0xFF00000000, .refuse⟩)),
        (["TAG", "31", "CLEAR"], .tagClear 31), (["TAG", "31?"], .tagQuery 31),
        (["TAG", "POLICY", "REFER"], .tagPolicy (some .refer)), (["TAG", "POLICY?"], .tagPolicyQuery),
        (["TAG", "MATCH?", "3C00220B15"], .tagMatchQuery (some 0x3C00220B15)),
        (["TARE", "SET", "3C00220B15", "14200"], .tareSet (some (0x3C00220B15, 14200))),
        (["TARE", "FIND?", "3C00220B15"], .tareFindQuery (some 0x3C00220B15)),
        (["TARE", "255?"], .tareIndexQuery 255), (["TARE", "COUNT?"], .tareCountQuery),
        (["TARE", "EXPIRY", "DEF"], .tareExpiry (some .dflt)), (["TARE", "EXPIRY?"], .tareExpiryQuery),
        (["ACCOUNT", "9", "ADD", "50000", "3", "4"], .accountAdd 9 (some (50000, [3, 4]))),
        (["ACCOUNT", "9", "DELETE"], .accountDelete 9),
        (["ACCOUNT", "9", "CREDIT", "100"], .accountCredit 9 (some 100)),
        (["ACCOUNT", "9", "LIMIT", "MAX"], .accountLimit 9 none),
        (["ACCOUNT", "9", "CLASSES", "NONE"], .accountClasses 9 (some [])),
        (["ACCOUNT", "9", "STATUS", "OPEN"], .accountStatus 9 (some .open)),
        (["ACCOUNT", "9?"], .accountQuery 9), (["ACCOUNT", "NEXT?", "9"], .accountNextQuery (some 9)),
        (["ACCOUNT", "COUNT?"], .accountCountQuery),
        (["CLASS", "3", "NAME", "Clean", "", "Fill"], .className 3 " Clean  Fill".toList),
        (["CLASS", "3", "RATES", "80", "0"], .classRates 3 (some (80, 0))),
        (["CLASS", "3", "MINIMUM", "2500"], .classMinimum 3 (some 2500)),
        (["CLASS", "3", "LAYOUT", "1"], .classLayout 3 (some 1)),
        (["CLASS", "3", "STAGES", "2"], .classStages 3 (some 2)),
        (["CLASS", "3", "ONEPASS", "YES"], .classOnepass 3 (some true)),
        (["CLASS", "3", "TAREUPDATE", "NO"], .classTareupdate 3 (some false)),
        (["CLASS", "3?"], .classQuery 3)] : List (List String × Instr)), reads p)
    ∧ (∀ p ∈ ([
        (["JOURNAL?"], .journalQuery), (["JOURNAL", "PREFER", "DECK_A"], .journalPrefer (some .deckA)),
        (["JOURNAL", "PREFER?"], .journalPreferQuery), (["JOURNAL", "LOW", "4"], .journalLow (some (.num 4))),
        (["JOURNAL", "LOW?"], .journalLowQuery), (["JOURNAL", "EXPORTED", "8"], .journalExported (some 8)),
        (["JOURNAL", "EXPORTED?"], .journalExportedQuery),
        (["JOURNAL", "RETAIN", "MAX"], .journalRetain (some .max)), (["JOURNAL", "RETAIN?"], .journalRetainQuery),
        (["JOURNAL", "PURGE", "3"], .journalPurge (some 3)), (["JOURNAL", "PAGE", "63?"], .journalPageQuery (some 63)),
        (["JOURNAL", "READ", "12"], .journalRead (some 12)), (["JOURNAL", "NEXT?"], .journalNextQuery),
        (["OUTCOME?"], .outcomeQuery), (["OUTCOME", "TAKE", "12"], .outcomeTake (some 12)),
        (["OUTCOME", "COUNT?"], .outcomeCountQuery), (["OUTCOME", "HIGH", "DEF"], .outcomeHigh (some .dflt)),
        (["OUTCOME", "HIGH?"], .outcomeHighQuery), (["OUTCOME", "ATTN", "1"], .outcomeAttn (some (.num 1))),
        (["OUTCOME", "ATTN?"], .outcomeAttnQuery), (["REPORT?"], .reportQuery),
        (["REPORT", "TAKE", "12"], .reportTake (some 12)), (["REPORT", "COUNT?"], .reportCountQuery),
        (["REPORT", "MODE", "TRAFFIC", "NONE"], .reportMode (some (.traffic, .none))),
        (["REPORT", "MODE?", "FAULTS"], .reportModeQuery (some .faults)), (["FAULT?"], .faultQuery),
        (["FAULT", "CELL-A3?"], .faultSourceQuery (some (.cell .a .c3))),
        (["FAULT", "JOURNAL?"], .faultSourceQuery (some .journal)),
        (["FAULT", "CLEAR", "BAR-B2"], .faultClear (some (.bar .b2))),
        (["LAYOUT", "2", "CLEAR"], .layoutClear 2), (["LAYOUT", "2", "LINE", "24?"], .layoutLineQuery 2 (some 24)),
        (["LAYOUT", "2", "LINE", "1", "Net", "~N?"], .layoutLine 2 (some 1) "Net ~N?".toList),
        (["LAYOUT", "2", "LINE", "1"], .layoutLine 2 (some 1) []),
        (["METRO", "LOCK"], .metroLock), (["METRO?"], .metroQuery), (["CLOCK?"], .clockQuery),
        (["CLOCK", "SET", "2031-05-09", "06:30:00"], .clockSet (some ⟨2031, 5, 9, 6, 30, 0⟩)),
        (["PART", "SCAN", "80"], .partScan (some (.num 80))), (["PART", "SCAN?"], .partScanQuery),
        (["PART", "POLARITY", "ATTN", "LOW"], .partPolarity (some (.attn, .low))),
        (["PART", "POLARITY?", "CAL"], .partPolarityQuery (some .cal)), (["PART", "START"], .partStart),
        (["PART", "STOP"], .partStop), (["PART", "AUTOSTART", "YES"], .partAutostart (some true)),
        (["PART", "AUTOSTART?"], .partAutostartQuery), (["PART", "RESET"], .partReset),
        (["PART", "ID?"], .partIdQuery), (["LINK", "BAUD", "19200"], .linkBaud (some (.num 19200))),
        (["LINK", "BAUD?"], .linkBaudQuery), (["LINK", "PARITY", "EVEN"], .linkParity (some .even)),
        (["LINK", "PARITY?"], .linkParityQuery), (["LINK", "SILENCE", "OFF"], .linkSilence (some .off)),
        (["LINK", "SILENCE?"], .linkSilenceQuery), (["", "LINK", "", "?", ""], .linkQuery)]
        : List (List String × Instr)), reads p)
    ∧ (∀ ws ∈ [["SCALE", "A", "ZERO"], ["DECK", "A", "ZE"], ["DECK", "A", "ZERO?"], ["DECK", "A", "WEIGHT"],
        ["DECK", "A"], ["LINK"], ["DECK?", "A", "ZERO"], ["LAYOUT", "1", "LINE", "?"], ["CLASS", "X", "STAGES", "2"],
        ["FAULT", "CELL-A9?"], ["JOURNAL", "PAGE?", "1"], ["PART", "I?"]], wrong .syntaxError ws)
    ∧ (∀ ws ∈ [["DECK", "C", "ZERO"], ["END", "C1?"], ["DECK", "A", "ZERO", "1"], ["METRO", "LOCK", "1"],
        ["BARRIER", "A3", "RAISE"]], wrong .param ws)
    ∧ ∀ t : Tag, readLine ("TARE CLEAR ".toList ++ tagChars t) = .command (.tareClear (some t))

end
end

