-- ==== Sys2Proof/Laws/State.lean ====
section
/-! SUPPORT. One lemma per field of the state for each of its updates, true by `rfl`, and what each
accessor reads after each update, so that no later proof unfolds a record update. -/

namespace Sys2Proof.Machine

variable (s : State)

/-! ### modDeck -/

@[simp] theorem State.modDeck_pending (d : Deck) (f : DeckUnit → DeckUnit) :
    (s.modDeck d f).pending = s.pending := rfl
@[simp] theorem State.modDeck_part (d : Deck) (f : DeckUnit → DeckUnit) :
    (s.modDeck d f).part = s.part := rfl
@[simp] theorem State.modDeck_clock (d : Deck) (f : DeckUnit → DeckUnit) :
    (s.modDeck d f).clock = s.clock := rfl
@[simp] theorem State.modDeck_link (d : Deck) (f : DeckUnit → DeckUnit) :
    (s.modDeck d f).link = s.link := rfl
@[simp] theorem State.modDeck_decks (d : Deck) (f : DeckUnit → DeckUnit) :
    (s.modDeck d f).decks = s.decks.set d (f (s.decks.get d)) := rfl
@[simp] theorem State.modDeck_ends (d : Deck) (f : DeckUnit → DeckUnit) :
    (s.modDeck d f).ends = s.ends := rfl
@[simp] theorem State.modDeck_metro (d : Deck) (f : DeckUnit → DeckUnit) :
    (s.modDeck d f).metro = s.metro := rfl
@[simp] theorem State.modDeck_admission (d : Deck) (f : DeckUnit → DeckUnit) :
    (s.modDeck d f).admission = s.admission := rfl
@[simp] theorem State.modDeck_visits (d : Deck) (f : DeckUnit → DeckUnit) :
    (s.modDeck d f).visits = s.visits := rfl
@[simp] theorem State.modDeck_tares (d : Deck) (f : DeckUnit → DeckUnit) :
    (s.modDeck d f).tares = s.tares := rfl
@[simp] theorem State.modDeck_accounts (d : Deck) (f : DeckUnit → DeckUnit) :
    (s.modDeck d f).accounts = s.accounts := rfl
@[simp] theorem State.modDeck_classes (d : Deck) (f : DeckUnit → DeckUnit) :
    (s.modDeck d f).classes = s.classes := rfl
@[simp] theorem State.modDeck_journal (d : Deck) (f : DeckUnit → DeckUnit) :
    (s.modDeck d f).journal = s.journal := rfl
@[simp] theorem State.modDeck_layouts (d : Deck) (f : DeckUnit → DeckUnit) :
    (s.modDeck d f).layouts = s.layouts := rfl
@[simp] theorem State.modDeck_outcomes (d : Deck) (f : DeckUnit → DeckUnit) :
    (s.modDeck d f).outcomes = s.outcomes := rfl
@[simp] theorem State.modDeck_reports (d : Deck) (f : DeckUnit → DeckUnit) :
    (s.modDeck d f).reports = s.reports := rfl
@[simp] theorem State.modDeck_faults (d : Deck) (f : DeckUnit → DeckUnit) :
    (s.modDeck d f).faults = s.faults := rfl
@[simp] theorem State.modDeck_station (d : Deck) (f : DeckUnit → DeckUnit) (x : EndId) :
    (s.modDeck d f).station x = s.station x := rfl

/-! ### modStation -/

@[simp] theorem State.modStation_pending (e : EndId) (f : Station → Station) :
    (s.modStation e f).pending = s.pending := rfl
@[simp] theorem State.modStation_part (e : EndId) (f : Station → Station) :
    (s.modStation e f).part = s.part := rfl
@[simp] theorem State.modStation_clock (e : EndId) (f : Station → Station) :
    (s.modStation e f).clock = s.clock := rfl
@[simp] theorem State.modStation_link (e : EndId) (f : Station → Station) :
    (s.modStation e f).link = s.link := rfl
@[simp] theorem State.modStation_decks (e : EndId) (f : Station → Station) :
    (s.modStation e f).decks = s.decks := rfl
@[simp] theorem State.modStation_ends (e : EndId) (f : Station → Station) :
    (s.modStation e f).ends = s.ends.set e (f (s.ends.get e)) := rfl
@[simp] theorem State.modStation_metro (e : EndId) (f : Station → Station) :
    (s.modStation e f).metro = s.metro := rfl
@[simp] theorem State.modStation_admission (e : EndId) (f : Station → Station) :
    (s.modStation e f).admission = s.admission := rfl
@[simp] theorem State.modStation_visits (e : EndId) (f : Station → Station) :
    (s.modStation e f).visits = s.visits := rfl
@[simp] theorem State.modStation_tares (e : EndId) (f : Station → Station) :
    (s.modStation e f).tares = s.tares := rfl
@[simp] theorem State.modStation_accounts (e : EndId) (f : Station → Station) :
    (s.modStation e f).accounts = s.accounts := rfl
@[simp] theorem State.modStation_classes (e : EndId) (f : Station → Station) :
    (s.modStation e f).classes = s.classes := rfl
@[simp] theorem State.modStation_journal (e : EndId) (f : Station → Station) :
    (s.modStation e f).journal = s.journal := rfl
@[simp] theorem State.modStation_layouts (e : EndId) (f : Station → Station) :
    (s.modStation e f).layouts = s.layouts := rfl
@[simp] theorem State.modStation_outcomes (e : EndId) (f : Station → Station) :
    (s.modStation e f).outcomes = s.outcomes := rfl
@[simp] theorem State.modStation_reports (e : EndId) (f : Station → Station) :
    (s.modStation e f).reports = s.reports := rfl
@[simp] theorem State.modStation_faults (e : EndId) (f : Station → Station) :
    (s.modStation e f).faults = s.faults := rfl
@[simp] theorem State.modStation_deck (e : EndId) (f : Station → Station) (x : Deck) :
    (s.modStation e f).deck x = s.deck x := rfl

/-! ### modMachine -/

@[simp] theorem State.modMachine_pending (e : EndId) (f : EndMachine → EndMachine) :
    (s.modMachine e f).pending = s.pending := rfl
@[simp] theorem State.modMachine_part (e : EndId) (f : EndMachine → EndMachine) :
    (s.modMachine e f).part = s.part := rfl
@[simp] theorem State.modMachine_clock (e : EndId) (f : EndMachine → EndMachine) :
    (s.modMachine e f).clock = s.clock := rfl
@[simp] theorem State.modMachine_link (e : EndId) (f : EndMachine → EndMachine) :
    (s.modMachine e f).link = s.link := rfl
@[simp] theorem State.modMachine_decks (e : EndId) (f : EndMachine → EndMachine) :
    (s.modMachine e f).decks = s.decks := rfl
@[simp] theorem State.modMachine_metro (e : EndId) (f : EndMachine → EndMachine) :
    (s.modMachine e f).metro = s.metro := rfl
@[simp] theorem State.modMachine_admission (e : EndId) (f : EndMachine → EndMachine) :
    (s.modMachine e f).admission = s.admission := rfl
@[simp] theorem State.modMachine_visits (e : EndId) (f : EndMachine → EndMachine) :
    (s.modMachine e f).visits = s.visits := rfl
@[simp] theorem State.modMachine_tares (e : EndId) (f : EndMachine → EndMachine) :
    (s.modMachine e f).tares = s.tares := rfl
@[simp] theorem State.modMachine_accounts (e : EndId) (f : EndMachine → EndMachine) :
    (s.modMachine e f).accounts = s.accounts := rfl
@[simp] theorem State.modMachine_classes (e : EndId) (f : EndMachine → EndMachine) :
    (s.modMachine e f).classes = s.classes := rfl
@[simp] theorem State.modMachine_journal (e : EndId) (f : EndMachine → EndMachine) :
    (s.modMachine e f).journal = s.journal := rfl
@[simp] theorem State.modMachine_layouts (e : EndId) (f : EndMachine → EndMachine) :
    (s.modMachine e f).layouts = s.layouts := rfl
@[simp] theorem State.modMachine_outcomes (e : EndId) (f : EndMachine → EndMachine) :
    (s.modMachine e f).outcomes = s.outcomes := rfl
@[simp] theorem State.modMachine_reports (e : EndId) (f : EndMachine → EndMachine) :
    (s.modMachine e f).reports = s.reports := rfl
@[simp] theorem State.modMachine_faults (e : EndId) (f : EndMachine → EndMachine) :
    (s.modMachine e f).faults = s.faults := rfl
@[simp] theorem State.modMachine_deck (e : EndId) (f : EndMachine → EndMachine) (x : Deck) :
    (s.modMachine e f).deck x = s.deck x := rfl

/-! ### modDriver -/

@[simp] theorem State.modDriver_pending (e : EndId) (f : Driver → Driver) :
    (s.modDriver e f).pending = s.pending := rfl
@[simp] theorem State.modDriver_part (e : EndId) (f : Driver → Driver) :
    (s.modDriver e f).part = s.part := rfl
@[simp] theorem State.modDriver_clock (e : EndId) (f : Driver → Driver) :
    (s.modDriver e f).clock = s.clock := rfl
@[simp] theorem State.modDriver_link (e : EndId) (f : Driver → Driver) :
    (s.modDriver e f).link = s.link := rfl
@[simp] theorem State.modDriver_decks (e : EndId) (f : Driver → Driver) :
    (s.modDriver e f).decks = s.decks := rfl
@[simp] theorem State.modDriver_metro (e : EndId) (f : Driver → Driver) :
    (s.modDriver e f).metro = s.metro := rfl
@[simp] theorem State.modDriver_admission (e : EndId) (f : Driver → Driver) :
    (s.modDriver e f).admission = s.admission := rfl
@[simp] theorem State.modDriver_visits (e : EndId) (f : Driver → Driver) :
    (s.modDriver e f).visits = s.visits := rfl
@[simp] theorem State.modDriver_tares (e : EndId) (f : Driver → Driver) :
    (s.modDriver e f).tares = s.tares := rfl
@[simp] theorem State.modDriver_accounts (e : EndId) (f : Driver → Driver) :
    (s.modDriver e f).accounts = s.accounts := rfl
@[simp] theorem State.modDriver_classes (e : EndId) (f : Driver → Driver) :
    (s.modDriver e f).classes = s.classes := rfl
@[simp] theorem State.modDriver_journal (e : EndId) (f : Driver → Driver) :
    (s.modDriver e f).journal = s.journal := rfl
@[simp] theorem State.modDriver_layouts (e : EndId) (f : Driver → Driver) :
    (s.modDriver e f).layouts = s.layouts := rfl
@[simp] theorem State.modDriver_outcomes (e : EndId) (f : Driver → Driver) :
    (s.modDriver e f).outcomes = s.outcomes := rfl
@[simp] theorem State.modDriver_reports (e : EndId) (f : Driver → Driver) :
    (s.modDriver e f).reports = s.reports := rfl
@[simp] theorem State.modDriver_faults (e : EndId) (f : Driver → Driver) :
    (s.modDriver e f).faults = s.faults := rfl
@[simp] theorem State.modDriver_deck (e : EndId) (f : Driver → Driver) (x : Deck) :
    (s.modDriver e f).deck x = s.deck x := rfl

/-! ### modLines -/

@[simp] theorem State.modLines_pending (e : EndId) (f : EndReadings → EndReadings) :
    (s.modLines e f).pending = s.pending := rfl
@[simp] theorem State.modLines_part (e : EndId) (f : EndReadings → EndReadings) :
    (s.modLines e f).part = s.part := rfl
@[simp] theorem State.modLines_clock (e : EndId) (f : EndReadings → EndReadings) :
    (s.modLines e f).clock = s.clock := rfl
@[simp] theorem State.modLines_link (e : EndId) (f : EndReadings → EndReadings) :
    (s.modLines e f).link = s.link := rfl
@[simp] theorem State.modLines_decks (e : EndId) (f : EndReadings → EndReadings) :
    (s.modLines e f).decks = s.decks := rfl
@[simp] theorem State.modLines_metro (e : EndId) (f : EndReadings → EndReadings) :
    (s.modLines e f).metro = s.metro := rfl
@[simp] theorem State.modLines_admission (e : EndId) (f : EndReadings → EndReadings) :
    (s.modLines e f).admission = s.admission := rfl
@[simp] theorem State.modLines_visits (e : EndId) (f : EndReadings → EndReadings) :
    (s.modLines e f).visits = s.visits := rfl
@[simp] theorem State.modLines_tares (e : EndId) (f : EndReadings → EndReadings) :
    (s.modLines e f).tares = s.tares := rfl
@[simp] theorem State.modLines_accounts (e : EndId) (f : EndReadings → EndReadings) :
    (s.modLines e f).accounts = s.accounts := rfl
@[simp] theorem State.modLines_classes (e : EndId) (f : EndReadings → EndReadings) :
    (s.modLines e f).classes = s.classes := rfl
@[simp] theorem State.modLines_journal (e : EndId) (f : EndReadings → EndReadings) :
    (s.modLines e f).journal = s.journal := rfl
@[simp] theorem State.modLines_layouts (e : EndId) (f : EndReadings → EndReadings) :
    (s.modLines e f).layouts = s.layouts := rfl
@[simp] theorem State.modLines_outcomes (e : EndId) (f : EndReadings → EndReadings) :
    (s.modLines e f).outcomes = s.outcomes := rfl
@[simp] theorem State.modLines_reports (e : EndId) (f : EndReadings → EndReadings) :
    (s.modLines e f).reports = s.reports := rfl
@[simp] theorem State.modLines_faults (e : EndId) (f : EndReadings → EndReadings) :
    (s.modLines e f).faults = s.faults := rfl
@[simp] theorem State.modLines_deck (e : EndId) (f : EndReadings → EndReadings) (x : Deck) :
    (s.modLines e f).deck x = s.deck x := rfl

/-! ### modSeq -/

@[simp] theorem State.modSeq_pending (d : Deck) (f : Sequencer → Sequencer) :
    (s.modSeq d f).pending = s.pending := rfl
@[simp] theorem State.modSeq_part (d : Deck) (f : Sequencer → Sequencer) :
    (s.modSeq d f).part = s.part := rfl
@[simp] theorem State.modSeq_clock (d : Deck) (f : Sequencer → Sequencer) :
    (s.modSeq d f).clock = s.clock := rfl
@[simp] theorem State.modSeq_link (d : Deck) (f : Sequencer → Sequencer) :
    (s.modSeq d f).link = s.link := rfl
@[simp] theorem State.modSeq_ends (d : Deck) (f : Sequencer → Sequencer) :
    (s.modSeq d f).ends = s.ends := rfl
@[simp] theorem State.modSeq_metro (d : Deck) (f : Sequencer → Sequencer) :
    (s.modSeq d f).metro = s.metro := rfl
@[simp] theorem State.modSeq_admission (d : Deck) (f : Sequencer → Sequencer) :
    (s.modSeq d f).admission = s.admission := rfl
@[simp] theorem State.modSeq_visits (d : Deck) (f : Sequencer → Sequencer) :
    (s.modSeq d f).visits = s.visits := rfl
@[simp] theorem State.modSeq_tares (d : Deck) (f : Sequencer → Sequencer) :
    (s.modSeq d f).tares = s.tares := rfl
@[simp] theorem State.modSeq_accounts (d : Deck) (f : Sequencer → Sequencer) :
    (s.modSeq d f).accounts = s.accounts := rfl
@[simp] theorem State.modSeq_classes (d : Deck) (f : Sequencer → Sequencer) :
    (s.modSeq d f).classes = s.classes := rfl
@[simp] theorem State.modSeq_journal (d : Deck) (f : Sequencer → Sequencer) :
    (s.modSeq d f).journal = s.journal := rfl
@[simp] theorem State.modSeq_layouts (d : Deck) (f : Sequencer → Sequencer) :
    (s.modSeq d f).layouts = s.layouts := rfl
@[simp] theorem State.modSeq_outcomes (d : Deck) (f : Sequencer → Sequencer) :
    (s.modSeq d f).outcomes = s.outcomes := rfl
@[simp] theorem State.modSeq_reports (d : Deck) (f : Sequencer → Sequencer) :
    (s.modSeq d f).reports = s.reports := rfl
@[simp] theorem State.modSeq_faults (d : Deck) (f : Sequencer → Sequencer) :
    (s.modSeq d f).faults = s.faults := rfl
@[simp] theorem State.modSeq_station (d : Deck) (f : Sequencer → Sequencer) (x : EndId) :
    (s.modSeq d f).station x = s.station x := rfl

/-! ### modCapture -/

@[simp] theorem State.modCapture_pending (d : Deck) (f : Capture → Capture) :
    (s.modCapture d f).pending = s.pending := rfl
@[simp] theorem State.modCapture_part (d : Deck) (f : Capture → Capture) :
    (s.modCapture d f).part = s.part := rfl
@[simp] theorem State.modCapture_clock (d : Deck) (f : Capture → Capture) :
    (s.modCapture d f).clock = s.clock := rfl
@[simp] theorem State.modCapture_link (d : Deck) (f : Capture → Capture) :
    (s.modCapture d f).link = s.link := rfl
@[simp] theorem State.modCapture_ends (d : Deck) (f : Capture → Capture) :
    (s.modCapture d f).ends = s.ends := rfl
@[simp] theorem State.modCapture_metro (d : Deck) (f : Capture → Capture) :
    (s.modCapture d f).metro = s.metro := rfl
@[simp] theorem State.modCapture_admission (d : Deck) (f : Capture → Capture) :
    (s.modCapture d f).admission = s.admission := rfl
@[simp] theorem State.modCapture_visits (d : Deck) (f : Capture → Capture) :
    (s.modCapture d f).visits = s.visits := rfl
@[simp] theorem State.modCapture_tares (d : Deck) (f : Capture → Capture) :
    (s.modCapture d f).tares = s.tares := rfl
@[simp] theorem State.modCapture_accounts (d : Deck) (f : Capture → Capture) :
    (s.modCapture d f).accounts = s.accounts := rfl
@[simp] theorem State.modCapture_classes (d : Deck) (f : Capture → Capture) :
    (s.modCapture d f).classes = s.classes := rfl
@[simp] theorem State.modCapture_journal (d : Deck) (f : Capture → Capture) :
    (s.modCapture d f).journal = s.journal := rfl
@[simp] theorem State.modCapture_layouts (d : Deck) (f : Capture → Capture) :
    (s.modCapture d f).layouts = s.layouts := rfl
@[simp] theorem State.modCapture_outcomes (d : Deck) (f : Capture → Capture) :
    (s.modCapture d f).outcomes = s.outcomes := rfl
@[simp] theorem State.modCapture_reports (d : Deck) (f : Capture → Capture) :
    (s.modCapture d f).reports = s.reports := rfl
@[simp] theorem State.modCapture_faults (d : Deck) (f : Capture → Capture) :
    (s.modCapture d f).faults = s.faults := rfl
@[simp] theorem State.modCapture_station (d : Deck) (f : Capture → Capture) (x : EndId) :
    (s.modCapture d f).station x = s.station x := rfl

/-! ### modWcu -/

@[simp] theorem State.modWcu_pending (d : Deck) (f : Wcu → Wcu) :
    (s.modWcu d f).pending = s.pending := rfl
@[simp] theorem State.modWcu_part (d : Deck) (f : Wcu → Wcu) : (s.modWcu d f).part = s.part := rfl
@[simp] theorem State.modWcu_clock (d : Deck) (f : Wcu → Wcu) :
    (s.modWcu d f).clock = s.clock := rfl
@[simp] theorem State.modWcu_link (d : Deck) (f : Wcu → Wcu) : (s.modWcu d f).link = s.link := rfl
@[simp] theorem State.modWcu_ends (d : Deck) (f : Wcu → Wcu) : (s.modWcu d f).ends = s.ends := rfl
@[simp] theorem State.modWcu_metro (d : Deck) (f : Wcu → Wcu) :
    (s.modWcu d f).metro = s.metro := rfl
@[simp] theorem State.modWcu_admission (d : Deck) (f : Wcu → Wcu) :
    (s.modWcu d f).admission = s.admission := rfl
@[simp] theorem State.modWcu_visits (d : Deck) (f : Wcu → Wcu) :
    (s.modWcu d f).visits = s.visits := rfl
@[simp] theorem State.modWcu_tares (d : Deck) (f : Wcu → Wcu) :
    (s.modWcu d f).tares = s.tares := rfl
@[simp] theorem State.modWcu_accounts (d : Deck) (f : Wcu → Wcu) :
    (s.modWcu d f).accounts = s.accounts := rfl
@[simp] theorem State.modWcu_classes (d : Deck) (f : Wcu → Wcu) :
    (s.modWcu d f).classes = s.classes := rfl
@[simp] theorem State.modWcu_journal (d : Deck) (f : Wcu → Wcu) :
    (s.modWcu d f).journal = s.journal := rfl
@[simp] theorem State.modWcu_layouts (d : Deck) (f : Wcu → Wcu) :
    (s.modWcu d f).layouts = s.layouts := rfl
@[simp] theorem State.modWcu_outcomes (d : Deck) (f : Wcu → Wcu) :
    (s.modWcu d f).outcomes = s.outcomes := rfl
@[simp] theorem State.modWcu_reports (d : Deck) (f : Wcu → Wcu) :
    (s.modWcu d f).reports = s.reports := rfl
@[simp] theorem State.modWcu_faults (d : Deck) (f : Wcu → Wcu) :
    (s.modWcu d f).faults = s.faults := rfl
@[simp] theorem State.modWcu_station (d : Deck) (f : Wcu → Wcu) (x : EndId) :
    (s.modWcu d f).station x = s.station x := rfl

/-! ### modParams -/

@[simp] theorem State.modParams_pending (d : Deck) (f : Params → Params) :
    (s.modParams d f).pending = s.pending := rfl
@[simp] theorem State.modParams_part (d : Deck) (f : Params → Params) :
    (s.modParams d f).part = s.part := rfl
@[simp] theorem State.modParams_clock (d : Deck) (f : Params → Params) :
    (s.modParams d f).clock = s.clock := rfl
@[simp] theorem State.modParams_link (d : Deck) (f : Params → Params) :
    (s.modParams d f).link = s.link := rfl
@[simp] theorem State.modParams_ends (d : Deck) (f : Params → Params) :
    (s.modParams d f).ends = s.ends := rfl
@[simp] theorem State.modParams_metro (d : Deck) (f : Params → Params) :
    (s.modParams d f).metro = s.metro := rfl
@[simp] theorem State.modParams_admission (d : Deck) (f : Params → Params) :
    (s.modParams d f).admission = s.admission := rfl
@[simp] theorem State.modParams_visits (d : Deck) (f : Params → Params) :
    (s.modParams d f).visits = s.visits := rfl
@[simp] theorem State.modParams_tares (d : Deck) (f : Params → Params) :
    (s.modParams d f).tares = s.tares := rfl
@[simp] theorem State.modParams_accounts (d : Deck) (f : Params → Params) :
    (s.modParams d f).accounts = s.accounts := rfl
@[simp] theorem State.modParams_classes (d : Deck) (f : Params → Params) :
    (s.modParams d f).classes = s.classes := rfl
@[simp] theorem State.modParams_journal (d : Deck) (f : Params → Params) :
    (s.modParams d f).journal = s.journal := rfl
@[simp] theorem State.modParams_layouts (d : Deck) (f : Params → Params) :
    (s.modParams d f).layouts = s.layouts := rfl
@[simp] theorem State.modParams_outcomes (d : Deck) (f : Params → Params) :
    (s.modParams d f).outcomes = s.outcomes := rfl
@[simp] theorem State.modParams_reports (d : Deck) (f : Params → Params) :
    (s.modParams d f).reports = s.reports := rfl
@[simp] theorem State.modParams_faults (d : Deck) (f : Params → Params) :
    (s.modParams d f).faults = s.faults := rfl
@[simp] theorem State.modParams_station (d : Deck) (f : Params → Params) (x : EndId) :
    (s.modParams d f).station x = s.station x := rfl

/-! ### modSettings -/

@[simp] theorem State.modSettings_pending (d : Deck) (f : DeckSettings → DeckSettings) :
    (s.modSettings d f).pending = s.pending := rfl
@[simp] theorem State.modSettings_part (d : Deck) (f : DeckSettings → DeckSettings) :
    (s.modSettings d f).part = s.part := rfl
@[simp] theorem State.modSettings_clock (d : Deck) (f : DeckSettings → DeckSettings) :
    (s.modSettings d f).clock = s.clock := rfl
@[simp] theorem State.modSettings_link (d : Deck) (f : DeckSettings → DeckSettings) :
    (s.modSettings d f).link = s.link := rfl
@[simp] theorem State.modSettings_ends (d : Deck) (f : DeckSettings → DeckSettings) :
    (s.modSettings d f).ends = s.ends := rfl
@[simp] theorem State.modSettings_metro (d : Deck) (f : DeckSettings → DeckSettings) :
    (s.modSettings d f).metro = s.metro := rfl
@[simp] theorem State.modSettings_admission (d : Deck) (f : DeckSettings → DeckSettings) :
    (s.modSettings d f).admission = s.admission := rfl
@[simp] theorem State.modSettings_visits (d : Deck) (f : DeckSettings → DeckSettings) :
    (s.modSettings d f).visits = s.visits := rfl
@[simp] theorem State.modSettings_tares (d : Deck) (f : DeckSettings → DeckSettings) :
    (s.modSettings d f).tares = s.tares := rfl
@[simp] theorem State.modSettings_accounts (d : Deck) (f : DeckSettings → DeckSettings) :
    (s.modSettings d f).accounts = s.accounts := rfl
@[simp] theorem State.modSettings_classes (d : Deck) (f : DeckSettings → DeckSettings) :
    (s.modSettings d f).classes = s.classes := rfl
@[simp] theorem State.modSettings_journal (d : Deck) (f : DeckSettings → DeckSettings) :
    (s.modSettings d f).journal = s.journal := rfl
@[simp] theorem State.modSettings_layouts (d : Deck) (f : DeckSettings → DeckSettings) :
    (s.modSettings d f).layouts = s.layouts := rfl
@[simp] theorem State.modSettings_outcomes (d : Deck) (f : DeckSettings → DeckSettings) :
    (s.modSettings d f).outcomes = s.outcomes := rfl
@[simp] theorem State.modSettings_reports (d : Deck) (f : DeckSettings → DeckSettings) :
    (s.modSettings d f).reports = s.reports := rfl
@[simp] theorem State.modSettings_faults (d : Deck) (f : DeckSettings → DeckSettings) :
    (s.modSettings d f).faults = s.faults := rfl
@[simp] theorem State.modSettings_station (d : Deck) (f : DeckSettings → DeckSettings) (x : EndId) :
    (s.modSettings d f).station x = s.station x := rfl

/-! ### modPrinter -/

@[simp] theorem State.modPrinter_pending (d : Deck) (f : Printer → Printer) :
    (s.modPrinter d f).pending = s.pending := rfl
@[simp] theorem State.modPrinter_part (d : Deck) (f : Printer → Printer) :
    (s.modPrinter d f).part = s.part := rfl
@[simp] theorem State.modPrinter_clock (d : Deck) (f : Printer → Printer) :
    (s.modPrinter d f).clock = s.clock := rfl
@[simp] theorem State.modPrinter_link (d : Deck) (f : Printer → Printer) :
    (s.modPrinter d f).link = s.link := rfl
@[simp] theorem State.modPrinter_ends (d : Deck) (f : Printer → Printer) :
    (s.modPrinter d f).ends = s.ends := rfl
@[simp] theorem State.modPrinter_metro (d : Deck) (f : Printer → Printer) :
    (s.modPrinter d f).metro = s.metro := rfl
@[simp] theorem State.modPrinter_admission (d : Deck) (f : Printer → Printer) :
    (s.modPrinter d f).admission = s.admission := rfl
@[simp] theorem State.modPrinter_visits (d : Deck) (f : Printer → Printer) :
    (s.modPrinter d f).visits = s.visits := rfl
@[simp] theorem State.modPrinter_tares (d : Deck) (f : Printer → Printer) :
    (s.modPrinter d f).tares = s.tares := rfl
@[simp] theorem State.modPrinter_accounts (d : Deck) (f : Printer → Printer) :
    (s.modPrinter d f).accounts = s.accounts := rfl
@[simp] theorem State.modPrinter_classes (d : Deck) (f : Printer → Printer) :
    (s.modPrinter d f).classes = s.classes := rfl
@[simp] theorem State.modPrinter_journal (d : Deck) (f : Printer → Printer) :
    (s.modPrinter d f).journal = s.journal := rfl
@[simp] theorem State.modPrinter_layouts (d : Deck) (f : Printer → Printer) :
    (s.modPrinter d f).layouts = s.layouts := rfl
@[simp] theorem State.modPrinter_outcomes (d : Deck) (f : Printer → Printer) :
    (s.modPrinter d f).outcomes = s.outcomes := rfl
@[simp] theorem State.modPrinter_reports (d : Deck) (f : Printer → Printer) :
    (s.modPrinter d f).reports = s.reports := rfl
@[simp] theorem State.modPrinter_faults (d : Deck) (f : Printer → Printer) :
    (s.modPrinter d f).faults = s.faults := rfl
@[simp] theorem State.modPrinter_station (d : Deck) (f : Printer → Printer) (x : EndId) :
    (s.modPrinter d f).station x = s.station x := rfl

/-! ### modDeckLines -/

@[simp] theorem State.modDeckLines_pending (d : Deck) (f : DeckReadings → DeckReadings) :
    (s.modDeckLines d f).pending = s.pending := rfl
@[simp] theorem State.modDeckLines_part (d : Deck) (f : DeckReadings → DeckReadings) :
    (s.modDeckLines d f).part = s.part := rfl
@[simp] theorem State.modDeckLines_clock (d : Deck) (f : DeckReadings → DeckReadings) :
    (s.modDeckLines d f).clock = s.clock := rfl
@[simp] theorem State.modDeckLines_link (d : Deck) (f : DeckReadings → DeckReadings) :
    (s.modDeckLines d f).link = s.link := rfl
@[simp] theorem State.modDeckLines_ends (d : Deck) (f : DeckReadings → DeckReadings) :
    (s.modDeckLines d f).ends = s.ends := rfl
@[simp] theorem State.modDeckLines_metro (d : Deck) (f : DeckReadings → DeckReadings) :
    (s.modDeckLines d f).metro = s.metro := rfl
@[simp] theorem State.modDeckLines_admission (d : Deck) (f : DeckReadings → DeckReadings) :
    (s.modDeckLines d f).admission = s.admission := rfl
@[simp] theorem State.modDeckLines_visits (d : Deck) (f : DeckReadings → DeckReadings) :
    (s.modDeckLines d f).visits = s.visits := rfl
@[simp] theorem State.modDeckLines_tares (d : Deck) (f : DeckReadings → DeckReadings) :
    (s.modDeckLines d f).tares = s.tares := rfl
@[simp] theorem State.modDeckLines_accounts (d : Deck) (f : DeckReadings → DeckReadings) :
    (s.modDeckLines d f).accounts = s.accounts := rfl
@[simp] theorem State.modDeckLines_classes (d : Deck) (f : DeckReadings → DeckReadings) :
    (s.modDeckLines d f).classes = s.classes := rfl
@[simp] theorem State.modDeckLines_journal (d : Deck) (f : DeckReadings → DeckReadings) :
    (s.modDeckLines d f).journal = s.journal := rfl
@[simp] theorem State.modDeckLines_layouts (d : Deck) (f : DeckReadings → DeckReadings) :
    (s.modDeckLines d f).layouts = s.layouts := rfl
@[simp] theorem State.modDeckLines_outcomes (d : Deck) (f : DeckReadings → DeckReadings) :
    (s.modDeckLines d f).outcomes = s.outcomes := rfl
@[simp] theorem State.modDeckLines_reports (d : Deck) (f : DeckReadings → DeckReadings) :
    (s.modDeckLines d f).reports = s.reports := rfl
@[simp] theorem State.modDeckLines_faults (d : Deck) (f : DeckReadings → DeckReadings) :
    (s.modDeckLines d f).faults = s.faults := rfl
@[simp] theorem State.modDeckLines_station (d : Deck) (f : DeckReadings → DeckReadings) (x : EndId) :
    (s.modDeckLines d f).station x = s.station x := rfl

/-! ### modLink -/

@[simp] theorem State.modLink_pending (f : Link → Link) : (s.modLink f).pending = s.pending := rfl
@[simp] theorem State.modLink_part (f : Link → Link) : (s.modLink f).part = s.part := rfl
@[simp] theorem State.modLink_clock (f : Link → Link) : (s.modLink f).clock = s.clock := rfl
@[simp] theorem State.modLink_link (f : Link → Link) : (s.modLink f).link = f s.link := rfl
@[simp] theorem State.modLink_decks (f : Link → Link) : (s.modLink f).decks = s.decks := rfl
@[simp] theorem State.modLink_ends (f : Link → Link) : (s.modLink f).ends = s.ends := rfl
@[simp] theorem State.modLink_metro (f : Link → Link) : (s.modLink f).metro = s.metro := rfl
@[simp] theorem State.modLink_admission (f : Link → Link) :
    (s.modLink f).admission = s.admission := rfl
@[simp] theorem State.modLink_visits (f : Link → Link) : (s.modLink f).visits = s.visits := rfl
@[simp] theorem State.modLink_tares (f : Link → Link) : (s.modLink f).tares = s.tares := rfl
@[simp] theorem State.modLink_accounts (f : Link → Link) :
    (s.modLink f).accounts = s.accounts := rfl
@[simp] theorem State.modLink_classes (f : Link → Link) : (s.modLink f).classes = s.classes := rfl
@[simp] theorem State.modLink_journal (f : Link → Link) : (s.modLink f).journal = s.journal := rfl
@[simp] theorem State.modLink_layouts (f : Link → Link) : (s.modLink f).layouts = s.layouts := rfl
@[simp] theorem State.modLink_outcomes (f : Link → Link) :
    (s.modLink f).outcomes = s.outcomes := rfl
@[simp] theorem State.modLink_reports (f : Link → Link) : (s.modLink f).reports = s.reports := rfl
@[simp] theorem State.modLink_faults (f : Link → Link) : (s.modLink f).faults = s.faults := rfl
@[simp] theorem State.modLink_deck (f : Link → Link) (x : Deck) :
    (s.modLink f).deck x = s.deck x := rfl
@[simp] theorem State.modLink_station (f : Link → Link) (x : EndId) :
    (s.modLink f).station x = s.station x := rfl

/-! ### modJournal -/

@[simp] theorem State.modJournal_pending (f : Journal → Journal) :
    (s.modJournal f).pending = s.pending := rfl
@[simp] theorem State.modJournal_part (f : Journal → Journal) :
    (s.modJournal f).part = s.part := rfl
@[simp] theorem State.modJournal_clock (f : Journal → Journal) :
    (s.modJournal f).clock = s.clock := rfl
@[simp] theorem State.modJournal_link (f : Journal → Journal) :
    (s.modJournal f).link = s.link := rfl
@[simp] theorem State.modJournal_decks (f : Journal → Journal) :
    (s.modJournal f).decks = s.decks := rfl
@[simp] theorem State.modJournal_ends (f : Journal → Journal) :
    (s.modJournal f).ends = s.ends := rfl
@[simp] theorem State.modJournal_metro (f : Journal → Journal) :
    (s.modJournal f).metro = s.metro := rfl
@[simp] theorem State.modJournal_admission (f : Journal → Journal) :
    (s.modJournal f).admission = s.admission := rfl
@[simp] theorem State.modJournal_visits (f : Journal → Journal) :
    (s.modJournal f).visits = s.visits := rfl
@[simp] theorem State.modJournal_tares (f : Journal → Journal) :
    (s.modJournal f).tares = s.tares := rfl
@[simp] theorem State.modJournal_accounts (f : Journal → Journal) :
    (s.modJournal f).accounts = s.accounts := rfl
@[simp] theorem State.modJournal_classes (f : Journal → Journal) :
    (s.modJournal f).classes = s.classes := rfl
@[simp] theorem State.modJournal_journal (f : Journal → Journal) :
    (s.modJournal f).journal = f s.journal := rfl
@[simp] theorem State.modJournal_layouts (f : Journal → Journal) :
    (s.modJournal f).layouts = s.layouts := rfl
@[simp] theorem State.modJournal_outcomes (f : Journal → Journal) :
    (s.modJournal f).outcomes = s.outcomes := rfl
@[simp] theorem State.modJournal_reports (f : Journal → Journal) :
    (s.modJournal f).reports = s.reports := rfl
@[simp] theorem State.modJournal_faults (f : Journal → Journal) :
    (s.modJournal f).faults = s.faults := rfl
@[simp] theorem State.modJournal_deck (f : Journal → Journal) (x : Deck) :
    (s.modJournal f).deck x = s.deck x := rfl
@[simp] theorem State.modJournal_station (f : Journal → Journal) (x : EndId) :
    (s.modJournal f).station x = s.station x := rfl

/-! ### modMetro -/

@[simp] theorem State.modMetro_pending (f : Metro → Metro) :
    (s.modMetro f).pending = s.pending := rfl
@[simp] theorem State.modMetro_part (f : Metro → Metro) : (s.modMetro f).part = s.part := rfl
@[simp] theorem State.modMetro_clock (f : Metro → Metro) : (s.modMetro f).clock = s.clock := rfl
@[simp] theorem State.modMetro_link (f : Metro → Metro) : (s.modMetro f).link = s.link := rfl
@[simp] theorem State.modMetro_decks (f : Metro → Metro) : (s.modMetro f).decks = s.decks := rfl
@[simp] theorem State.modMetro_ends (f : Metro → Metro) : (s.modMetro f).ends = s.ends := rfl
@[simp] theorem State.modMetro_metro (f : Metro → Metro) : (s.modMetro f).metro = f s.metro := rfl
@[simp] theorem State.modMetro_admission (f : Metro → Metro) :
    (s.modMetro f).admission = s.admission := rfl
@[simp] theorem State.modMetro_visits (f : Metro → Metro) : (s.modMetro f).visits = s.visits := rfl
@[simp] theorem State.modMetro_tares (f : Metro → Metro) : (s.modMetro f).tares = s.tares := rfl
@[simp] theorem State.modMetro_accounts (f : Metro → Metro) :
    (s.modMetro f).accounts = s.accounts := rfl
@[simp] theorem State.modMetro_classes (f : Metro → Metro) :
    (s.modMetro f).classes = s.classes := rfl
@[simp] theorem State.modMetro_journal (f : Metro → Metro) :
    (s.modMetro f).journal = s.journal := rfl
@[simp] theorem State.modMetro_layouts (f : Metro → Metro) :
    (s.modMetro f).layouts = s.layouts := rfl
@[simp] theorem State.modMetro_outcomes (f : Metro → Metro) :
    (s.modMetro f).outcomes = s.outcomes := rfl
@[simp] theorem State.modMetro_reports (f : Metro → Metro) :
    (s.modMetro f).reports = s.reports := rfl
@[simp] theorem State.modMetro_faults (f : Metro → Metro) : (s.modMetro f).faults = s.faults := rfl
@[simp] theorem State.modMetro_deck (f : Metro → Metro) (x : Deck) :
    (s.modMetro f).deck x = s.deck x := rfl
@[simp] theorem State.modMetro_station (f : Metro → Metro) (x : EndId) :
    (s.modMetro f).station x = s.station x := rfl

/-! ### modVisits -/

@[simp] theorem State.modVisits_pending (f : Visits → Visits) :
    (s.modVisits f).pending = s.pending := rfl
@[simp] theorem State.modVisits_part (f : Visits → Visits) : (s.modVisits f).part = s.part := rfl
@[simp] theorem State.modVisits_clock (f : Visits → Visits) : (s.modVisits f).clock = s.clock := rfl
@[simp] theorem State.modVisits_link (f : Visits → Visits) : (s.modVisits f).link = s.link := rfl
@[simp] theorem State.modVisits_decks (f : Visits → Visits) : (s.modVisits f).decks = s.decks := rfl
@[simp] theorem State.modVisits_ends (f : Visits → Visits) : (s.modVisits f).ends = s.ends := rfl
@[simp] theorem State.modVisits_metro (f : Visits → Visits) : (s.modVisits f).metro = s.metro := rfl
@[simp] theorem State.modVisits_admission (f : Visits → Visits) :
    (s.modVisits f).admission = s.admission := rfl
@[simp] theorem State.modVisits_visits (f : Visits → Visits) :
    (s.modVisits f).visits = f s.visits := rfl
@[simp] theorem State.modVisits_tares (f : Visits → Visits) : (s.modVisits f).tares = s.tares := rfl
@[simp] theorem State.modVisits_accounts (f : Visits → Visits) :
    (s.modVisits f).accounts = s.accounts := rfl
@[simp] theorem State.modVisits_classes (f : Visits → Visits) :
    (s.modVisits f).classes = s.classes := rfl
@[simp] theorem State.modVisits_journal (f : Visits → Visits) :
    (s.modVisits f).journal = s.journal := rfl
@[simp] theorem State.modVisits_layouts (f : Visits → Visits) :
    (s.modVisits f).layouts = s.layouts := rfl
@[simp] theorem State.modVisits_outcomes (f : Visits → Visits) :
    (s.modVisits f).outcomes = s.outcomes := rfl
@[simp] theorem State.modVisits_reports (f : Visits → Visits) :
    (s.modVisits f).reports = s.reports := rfl
@[simp] theorem State.modVisits_faults (f : Visits → Visits) :
    (s.modVisits f).faults = s.faults := rfl
@[simp] theorem State.modVisits_deck (f : Visits → Visits) (x : Deck) :
    (s.modVisits f).deck x = s.deck x := rfl
@[simp] theorem State.modVisits_station (f : Visits → Visits) (x : EndId) :
    (s.modVisits f).station x = s.station x := rfl

/-! ### modReports -/

@[simp] theorem State.modReports_pending (f : Reports → Reports) :
    (s.modReports f).pending = s.pending := rfl
@[simp] theorem State.modReports_part (f : Reports → Reports) :
    (s.modReports f).part = s.part := rfl
@[simp] theorem State.modReports_clock (f : Reports → Reports) :
    (s.modReports f).clock = s.clock := rfl
@[simp] theorem State.modReports_link (f : Reports → Reports) :
    (s.modReports f).link = s.link := rfl
@[simp] theorem State.modReports_decks (f : Reports → Reports) :
    (s.modReports f).decks = s.decks := rfl
@[simp] theorem State.modReports_ends (f : Reports → Reports) :
    (s.modReports f).ends = s.ends := rfl
@[simp] theorem State.modReports_metro (f : Reports → Reports) :
    (s.modReports f).metro = s.metro := rfl
@[simp] theorem State.modReports_admission (f : Reports → Reports) :
    (s.modReports f).admission = s.admission := rfl
@[simp] theorem State.modReports_visits (f : Reports → Reports) :
    (s.modReports f).visits = s.visits := rfl
@[simp] theorem State.modReports_tares (f : Reports → Reports) :
    (s.modReports f).tares = s.tares := rfl
@[simp] theorem State.modReports_accounts (f : Reports → Reports) :
    (s.modReports f).accounts = s.accounts := rfl
@[simp] theorem State.modReports_classes (f : Reports → Reports) :
    (s.modReports f).classes = s.classes := rfl
@[simp] theorem State.modReports_journal (f : Reports → Reports) :
    (s.modReports f).journal = s.journal := rfl
@[simp] theorem State.modReports_layouts (f : Reports → Reports) :
    (s.modReports f).layouts = s.layouts := rfl
@[simp] theorem State.modReports_outcomes (f : Reports → Reports) :
    (s.modReports f).outcomes = s.outcomes := rfl
@[simp] theorem State.modReports_reports (f : Reports → Reports) :
    (s.modReports f).reports = f s.reports := rfl
@[simp] theorem State.modReports_faults (f : Reports → Reports) :
    (s.modReports f).faults = s.faults := rfl
@[simp] theorem State.modReports_deck (f : Reports → Reports) (x : Deck) :
    (s.modReports f).deck x = s.deck x := rfl
@[simp] theorem State.modReports_station (f : Reports → Reports) (x : EndId) :
    (s.modReports f).station x = s.station x := rfl

/-! ### setFault -/

@[simp] theorem State.setFault_pending (f : FaultSource) (v : FaultEntry) :
    (s.setFault f v).pending = s.pending := rfl
@[simp] theorem State.setFault_part (f : FaultSource) (v : FaultEntry) :
    (s.setFault f v).part = s.part := rfl
@[simp] theorem State.setFault_clock (f : FaultSource) (v : FaultEntry) :
    (s.setFault f v).clock = s.clock := rfl
@[simp] theorem State.setFault_link (f : FaultSource) (v : FaultEntry) :
    (s.setFault f v).link = s.link := rfl
@[simp] theorem State.setFault_decks (f : FaultSource) (v : FaultEntry) :
    (s.setFault f v).decks = s.decks := rfl
@[simp] theorem State.setFault_ends (f : FaultSource) (v : FaultEntry) :
    (s.setFault f v).ends = s.ends := rfl
@[simp] theorem State.setFault_metro (f : FaultSource) (v : FaultEntry) :
    (s.setFault f v).metro = s.metro := rfl
@[simp] theorem State.setFault_admission (f : FaultSource) (v : FaultEntry) :
    (s.setFault f v).admission = s.admission := rfl
@[simp] theorem State.setFault_visits (f : FaultSource) (v : FaultEntry) :
    (s.setFault f v).visits = s.visits := rfl
@[simp] theorem State.setFault_tares (f : FaultSource) (v : FaultEntry) :
    (s.setFault f v).tares = s.tares := rfl
@[simp] theorem State.setFault_accounts (f : FaultSource) (v : FaultEntry) :
    (s.setFault f v).accounts = s.accounts := rfl
@[simp] theorem State.setFault_classes (f : FaultSource) (v : FaultEntry) :
    (s.setFault f v).classes = s.classes := rfl
@[simp] theorem State.setFault_journal (f : FaultSource) (v : FaultEntry) :
    (s.setFault f v).journal = s.journal := rfl
@[simp] theorem State.setFault_layouts (f : FaultSource) (v : FaultEntry) :
    (s.setFault f v).layouts = s.layouts := rfl
@[simp] theorem State.setFault_outcomes (f : FaultSource) (v : FaultEntry) :
    (s.setFault f v).outcomes = s.outcomes := rfl
@[simp] theorem State.setFault_reports (f : FaultSource) (v : FaultEntry) :
    (s.setFault f v).reports = s.reports := rfl
@[simp] theorem State.setFault_faults (f : FaultSource) (v : FaultEntry) :
    (s.setFault f v).faults = s.faults.set f v := rfl
@[simp] theorem State.setFault_deck (f : FaultSource) (v : FaultEntry) (x : Deck) :
    (s.setFault f v).deck x = s.deck x := rfl
@[simp] theorem State.setFault_station (f : FaultSource) (v : FaultEntry) (x : EndId) :
    (s.setFault f v).station x = s.station x := rfl

/-! ### modVisit -/

@[simp] theorem State.modVisit_pending (n : Nat) (f : Visit → Visit) :
    (s.modVisit n f).pending = s.pending := rfl
@[simp] theorem State.modVisit_part (n : Nat) (f : Visit → Visit) :
    (s.modVisit n f).part = s.part := rfl
@[simp] theorem State.modVisit_clock (n : Nat) (f : Visit → Visit) :
    (s.modVisit n f).clock = s.clock := rfl
@[simp] theorem State.modVisit_link (n : Nat) (f : Visit → Visit) :
    (s.modVisit n f).link = s.link := rfl
@[simp] theorem State.modVisit_decks (n : Nat) (f : Visit → Visit) :
    (s.modVisit n f).decks = s.decks := rfl
@[simp] theorem State.modVisit_ends (n : Nat) (f : Visit → Visit) :
    (s.modVisit n f).ends = s.ends := rfl
@[simp] theorem State.modVisit_metro (n : Nat) (f : Visit → Visit) :
    (s.modVisit n f).metro = s.metro := rfl
@[simp] theorem State.modVisit_admission (n : Nat) (f : Visit → Visit) :
    (s.modVisit n f).admission = s.admission := rfl
@[simp] theorem State.modVisit_tares (n : Nat) (f : Visit → Visit) :
    (s.modVisit n f).tares = s.tares := rfl
@[simp] theorem State.modVisit_accounts (n : Nat) (f : Visit → Visit) :
    (s.modVisit n f).accounts = s.accounts := rfl
@[simp] theorem State.modVisit_classes (n : Nat) (f : Visit → Visit) :
    (s.modVisit n f).classes = s.classes := rfl
@[simp] theorem State.modVisit_journal (n : Nat) (f : Visit → Visit) :
    (s.modVisit n f).journal = s.journal := rfl
@[simp] theorem State.modVisit_layouts (n : Nat) (f : Visit → Visit) :
    (s.modVisit n f).layouts = s.layouts := rfl
@[simp] theorem State.modVisit_outcomes (n : Nat) (f : Visit → Visit) :
    (s.modVisit n f).outcomes = s.outcomes := rfl
@[simp] theorem State.modVisit_reports (n : Nat) (f : Visit → Visit) :
    (s.modVisit n f).reports = s.reports := rfl
@[simp] theorem State.modVisit_faults (n : Nat) (f : Visit → Visit) :
    (s.modVisit n f).faults = s.faults := rfl
@[simp] theorem State.modVisit_deck (n : Nat) (f : Visit → Visit) (x : Deck) :
    (s.modVisit n f).deck x = s.deck x := rfl
@[simp] theorem State.modVisit_station (n : Nat) (f : Visit → Visit) (x : EndId) :
    (s.modVisit n f).station x = s.station x := rfl

/-! ### removeVisit -/

@[simp] theorem State.removeVisit_pending (n : Nat) : (s.removeVisit n).pending = s.pending := rfl
@[simp] theorem State.removeVisit_part (n : Nat) : (s.removeVisit n).part = s.part := rfl
@[simp] theorem State.removeVisit_clock (n : Nat) : (s.removeVisit n).clock = s.clock := rfl
@[simp] theorem State.removeVisit_link (n : Nat) : (s.removeVisit n).link = s.link := rfl
@[simp] theorem State.removeVisit_decks (n : Nat) : (s.removeVisit n).decks = s.decks := rfl
@[simp] theorem State.removeVisit_ends (n : Nat) : (s.removeVisit n).ends = s.ends := rfl
@[simp] theorem State.removeVisit_metro (n : Nat) : (s.removeVisit n).metro = s.metro := rfl
@[simp] theorem State.removeVisit_admission (n : Nat) :
    (s.removeVisit n).admission = s.admission := rfl
@[simp] theorem State.removeVisit_tares (n : Nat) : (s.removeVisit n).tares = s.tares := rfl
@[simp] theorem State.removeVisit_accounts (n : Nat) :
    (s.removeVisit n).accounts = s.accounts := rfl
@[simp] theorem State.removeVisit_classes (n : Nat) : (s.removeVisit n).classes = s.classes := rfl
@[simp] theorem State.removeVisit_journal (n : Nat) : (s.removeVisit n).journal = s.journal := rfl
@[simp] theorem State.removeVisit_layouts (n : Nat) : (s.removeVisit n).layouts = s.layouts := rfl
@[simp] theorem State.removeVisit_outcomes (n : Nat) :
    (s.removeVisit n).outcomes = s.outcomes := rfl
@[simp] theorem State.removeVisit_reports (n : Nat) : (s.removeVisit n).reports = s.reports := rfl
@[simp] theorem State.removeVisit_faults (n : Nat) : (s.removeVisit n).faults = s.faults := rfl
@[simp] theorem State.removeVisit_deck (n : Nat) (x : Deck) :
    (s.removeVisit n).deck x = s.deck x := rfl
@[simp] theorem State.removeVisit_station (n : Nat) (x : EndId) :
    (s.removeVisit n).station x = s.station x := rfl

/-! ### modAccount -/

@[simp] theorem State.modAccount_pending (n : Nat) (f : Account → Account) :
    (s.modAccount n f).pending = s.pending := rfl
@[simp] theorem State.modAccount_part (n : Nat) (f : Account → Account) :
    (s.modAccount n f).part = s.part := rfl
@[simp] theorem State.modAccount_clock (n : Nat) (f : Account → Account) :
    (s.modAccount n f).clock = s.clock := rfl
@[simp] theorem State.modAccount_link (n : Nat) (f : Account → Account) :
    (s.modAccount n f).link = s.link := rfl
@[simp] theorem State.modAccount_decks (n : Nat) (f : Account → Account) :
    (s.modAccount n f).decks = s.decks := rfl
@[simp] theorem State.modAccount_ends (n : Nat) (f : Account → Account) :
    (s.modAccount n f).ends = s.ends := rfl
@[simp] theorem State.modAccount_metro (n : Nat) (f : Account → Account) :
    (s.modAccount n f).metro = s.metro := rfl
@[simp] theorem State.modAccount_admission (n : Nat) (f : Account → Account) :
    (s.modAccount n f).admission = s.admission := rfl
@[simp] theorem State.modAccount_visits (n : Nat) (f : Account → Account) :
    (s.modAccount n f).visits = s.visits := rfl
@[simp] theorem State.modAccount_tares (n : Nat) (f : Account → Account) :
    (s.modAccount n f).tares = s.tares := rfl
@[simp] theorem State.modAccount_accounts (n : Nat) (f : Account → Account) :
    (s.modAccount n f).accounts = s.accounts.map fun x => if x.number == n then f x else x := rfl
@[simp] theorem State.modAccount_classes (n : Nat) (f : Account → Account) :
    (s.modAccount n f).classes = s.classes := rfl
@[simp] theorem State.modAccount_journal (n : Nat) (f : Account → Account) :
    (s.modAccount n f).journal = s.journal := rfl
@[simp] theorem State.modAccount_layouts (n : Nat) (f : Account → Account) :
    (s.modAccount n f).layouts = s.layouts := rfl
@[simp] theorem State.modAccount_outcomes (n : Nat) (f : Account → Account) :
    (s.modAccount n f).outcomes = s.outcomes := rfl
@[simp] theorem State.modAccount_reports (n : Nat) (f : Account → Account) :
    (s.modAccount n f).reports = s.reports := rfl
@[simp] theorem State.modAccount_faults (n : Nat) (f : Account → Account) :
    (s.modAccount n f).faults = s.faults := rfl
@[simp] theorem State.modAccount_deck (n : Nat) (f : Account → Account) (x : Deck) :
    (s.modAccount n f).deck x = s.deck x := rfl
@[simp] theorem State.modAccount_station (n : Nat) (f : Account → Account) (x : EndId) :
    (s.modAccount n f).station x = s.station x := rfl

/-! ### A line answered -/

@[simp] theorem State.answered_pending (r : Reply) : (s.answered r).pending = s.pending := rfl
@[simp] theorem State.answered_part (r : Reply) : (s.answered r).part = s.part := rfl
@[simp] theorem State.answered_clock (r : Reply) : (s.answered r).clock = s.clock := rfl
@[simp] theorem State.answered_decks (r : Reply) : (s.answered r).decks = s.decks := rfl
@[simp] theorem State.answered_ends (r : Reply) : (s.answered r).ends = s.ends := rfl
@[simp] theorem State.answered_metro (r : Reply) : (s.answered r).metro = s.metro := rfl
@[simp] theorem State.answered_admission (r : Reply) : (s.answered r).admission = s.admission := rfl
@[simp] theorem State.answered_visits (r : Reply) : (s.answered r).visits = s.visits := rfl
@[simp] theorem State.answered_tares (r : Reply) : (s.answered r).tares = s.tares := rfl
@[simp] theorem State.answered_accounts (r : Reply) : (s.answered r).accounts = s.accounts := rfl
@[simp] theorem State.answered_classes (r : Reply) : (s.answered r).classes = s.classes := rfl
@[simp] theorem State.answered_layouts (r : Reply) : (s.answered r).layouts = s.layouts := rfl
@[simp] theorem State.answered_outcomes (r : Reply) : (s.answered r).outcomes = s.outcomes := rfl
@[simp] theorem State.answered_reports (r : Reply) : (s.answered r).reports = s.reports := rfl
@[simp] theorem State.answered_faults (r : Reply) : (s.answered r).faults = s.faults := rfl
@[simp] theorem State.answered_deck (r : Reply) (d : Deck) : (s.answered r).deck d = s.deck d := rfl
@[simp] theorem State.answered_station (r : Reply) (e : EndId) :
    (s.answered r).station e = s.station e := rfl
@[simp] theorem State.answered_link (r : Reply) :
    (s.answered r).link = { s.link with reply := some r } := rfl
@[simp] theorem State.answered_journal (r : Reply) :
    (s.answered r).journal = { s.journal with purgeLatch := false } := rfl

end Sys2Proof.Machine

/-! ### Reading what was put -/

namespace Sys2Proof

@[simp] theorem PerDeck.get_set {α : Type} (p : PerDeck α) (d : Deck) (v : α) :
    (p.set d v).get d = v := by cases d <;> rfl
theorem PerDeck.get_set_of_ne {α : Type} (p : PerDeck α) {d d' : Deck} (v : α) (h : d' ≠ d) :
    (p.set d v).get d' = p.get d' := by cases d <;> cases d' <;> first | rfl | exact absurd rfl h
@[simp] theorem PerDeck.set_get {α : Type} (p : PerDeck α) (d : Deck) : p.set d (p.get d) = p := by
  cases d <;> rfl
@[simp] theorem PerDeck.set_set {α : Type} (p : PerDeck α) (d : Deck) (v w : α) :
    (p.set d v).set d w = p.set d w := by cases d <;> rfl
@[simp] theorem PerEnd.get_set {α : Type} (p : PerEnd α) (e : EndId) (v : α) :
    (p.set e v).get e = v := by cases e <;> rfl
theorem PerEnd.get_set_of_ne {α : Type} (p : PerEnd α) {e e' : EndId} (v : α) (h : e' ≠ e) :
    (p.set e v).get e' = p.get e' := by cases e <;> cases e' <;> first | rfl | exact absurd rfl h
@[simp] theorem PerEnd.set_get {α : Type} (p : PerEnd α) (e : EndId) : p.set e (p.get e) = p := by
  cases e <;> rfl
@[simp] theorem PerEnd.set_set {α : Type} (p : PerEnd α) (e : EndId) (v w : α) :
    (p.set e v).set e w = p.set e w := by cases e <;> rfl
@[simp] theorem PerChan.get_set {α : Type} (p : PerChan α) (c : Chan) (v : α) :
    (p.set c v).get c = v := by cases c <;> rfl
theorem PerChan.get_set_of_ne {α : Type} (p : PerChan α) {c c' : Chan} (v : α) (h : c' ≠ c) :
    (p.set c v).get c' = p.get c' := by cases c <;> cases c' <;> first | rfl | exact absurd rfl h

end Sys2Proof

namespace Sys2Proof.Machine

variable (s : State)

@[simp] theorem FaultTable.get_set (t : FaultTable) (f : FaultSource) (v : FaultEntry) :
    (t.set f v).get f = v := by cases f <;> simp [FaultTable.get, FaultTable.set]
theorem FaultTable.get_set_of_ne (t : FaultTable) {f g : FaultSource} (v : FaultEntry) (h : g ≠ f) :
    (t.set f v).get g = t.get g := by
  cases f <;> cases g <;> simp_all [FaultTable.get, FaultTable.set] <;>
    first
      | exact PerDeck.get_set_of_ne _ _ h
      | exact PerEnd.get_set_of_ne _ _ h
      | (rename_i d c d' c'
         by_cases hd : d' = d
         · subst hd; simpa using PerChan.get_set_of_ne _ _ (h rfl)
         · rw [PerDeck.get_set_of_ne _ _ hd])

@[simp] theorem State.modDeck_deck (d : Deck) (f : DeckUnit → DeckUnit) :
    (s.modDeck d f).deck d = f (s.deck d) := by simp [State.deck]
theorem State.modDeck_deck_of_ne {d d' : Deck} (f : DeckUnit → DeckUnit) (h : d' ≠ d) :
    (s.modDeck d f).deck d' = s.deck d' := by simp [State.deck, PerDeck.get_set_of_ne _ _ h]
@[simp] theorem State.modStation_station (e : EndId) (f : Station → Station) :
    (s.modStation e f).station e = f (s.station e) := by simp [State.station]
theorem State.modStation_station_of_ne {e e' : EndId} (f : Station → Station) (h : e' ≠ e) :
    (s.modStation e f).station e' = s.station e' := by
  simp [State.station, PerEnd.get_set_of_ne _ _ h]

@[simp] theorem State.modSeq_deck (d : Deck) (f : Sequencer → Sequencer) :
    (s.modSeq d f).deck d = { s.deck d with seq := f (s.deck d).seq } := State.modDeck_deck s d _
theorem State.modSeq_deck_of_ne {d d' : Deck} (f : Sequencer → Sequencer) (h : d' ≠ d) :
    (s.modSeq d f).deck d' = s.deck d' := State.modDeck_deck_of_ne s _ h
@[simp] theorem State.modCapture_deck (d : Deck) (f : Capture → Capture) :
    (s.modCapture d f).deck d = { s.deck d with capture := f (s.deck d).capture } := State.modDeck_deck s d _
theorem State.modCapture_deck_of_ne {d d' : Deck} (f : Capture → Capture) (h : d' ≠ d) :
    (s.modCapture d f).deck d' = s.deck d' := State.modDeck_deck_of_ne s _ h
@[simp] theorem State.modWcu_deck (d : Deck) (f : Wcu → Wcu) :
    (s.modWcu d f).deck d = { s.deck d with wcu := f (s.deck d).wcu } := State.modDeck_deck s d _
theorem State.modWcu_deck_of_ne {d d' : Deck} (f : Wcu → Wcu) (h : d' ≠ d) :
    (s.modWcu d f).deck d' = s.deck d' := State.modDeck_deck_of_ne s _ h
@[simp] theorem State.modParams_deck (d : Deck) (f : Params → Params) :
    (s.modParams d f).deck d = { s.deck d with params := f (s.deck d).params } := State.modDeck_deck s d _
theorem State.modParams_deck_of_ne {d d' : Deck} (f : Params → Params) (h : d' ≠ d) :
    (s.modParams d f).deck d' = s.deck d' := State.modDeck_deck_of_ne s _ h
@[simp] theorem State.modSettings_deck (d : Deck) (f : DeckSettings → DeckSettings) :
    (s.modSettings d f).deck d = { s.deck d with settings := f (s.deck d).settings } := State.modDeck_deck s d _
theorem State.modSettings_deck_of_ne {d d' : Deck} (f : DeckSettings → DeckSettings) (h : d' ≠ d) :
    (s.modSettings d f).deck d' = s.deck d' := State.modDeck_deck_of_ne s _ h
@[simp] theorem State.modPrinter_deck (d : Deck) (f : Printer → Printer) :
    (s.modPrinter d f).deck d = { s.deck d with printer := f (s.deck d).printer } := State.modDeck_deck s d _
theorem State.modPrinter_deck_of_ne {d d' : Deck} (f : Printer → Printer) (h : d' ≠ d) :
    (s.modPrinter d f).deck d' = s.deck d' := State.modDeck_deck_of_ne s _ h
@[simp] theorem State.modDeckLines_deck (d : Deck) (f : DeckReadings → DeckReadings) :
    (s.modDeckLines d f).deck d = { s.deck d with lines := f (s.deck d).lines } := State.modDeck_deck s d _
theorem State.modDeckLines_deck_of_ne {d d' : Deck} (f : DeckReadings → DeckReadings) (h : d' ≠ d) :
    (s.modDeckLines d f).deck d' = s.deck d' := State.modDeck_deck_of_ne s _ h
@[simp] theorem State.modMachine_station (e : EndId) (f : EndMachine → EndMachine) :
    (s.modMachine e f).station e = { s.station e with machine := f (s.station e).machine } :=
  State.modStation_station s e _
theorem State.modMachine_station_of_ne {e e' : EndId} (f : EndMachine → EndMachine) (h : e' ≠ e) :
    (s.modMachine e f).station e' = s.station e' := State.modStation_station_of_ne s _ h
@[simp] theorem State.modDriver_station (e : EndId) (f : Driver → Driver) :
    (s.modDriver e f).station e = { s.station e with driver := f (s.station e).driver } :=
  State.modStation_station s e _
theorem State.modDriver_station_of_ne {e e' : EndId} (f : Driver → Driver) (h : e' ≠ e) :
    (s.modDriver e f).station e' = s.station e' := State.modStation_station_of_ne s _ h
@[simp] theorem State.modLines_station (e : EndId) (f : EndReadings → EndReadings) :
    (s.modLines e f).station e = { s.station e with lines := f (s.station e).lines } :=
  State.modStation_station s e _
theorem State.modLines_station_of_ne {e e' : EndId} (f : EndReadings → EndReadings) (h : e' ≠ e) :
    (s.modLines e f).station e' = s.station e' := State.modStation_station_of_ne s _ h

theorem State.machine_eq (e : EndId) : s.machine e = (s.station e).machine := rfl
theorem State.driver_eq (e : EndId) : s.driver e = (s.station e).driver := rfl

end Sys2Proof.Machine
end

