-- ==== Sys2Proof/Laws/Reports.lean ====
section
/-! SUPPORT. What offering a report and a fault source's two signals can do. -/

namespace Sys2Proof.Machine

variable (s : State)

/-- An offer changes nothing but the report queue (R206). -/
theorem offer_frame (k : ReportKind) (subj : Subject) (ps : List String) :
    ∃ r, offer k subj ps s = { s with reports := r } := by
  unfold offer
  split
  · exact ⟨_, rfl⟩
  · exact ⟨s.reports, rfl⟩

/-- The three things an offer can do (R206): drop the report, place it, or count it lost. -/
theorem offer_cases (k : ReportKind) (subj : Subject) (ps : List String) :
    (s.reports.selects k = false ∧ offer k subj ps s = s)
      ∨ (s.reports.selects k = true ∧ s.reports.queue.length < 48
          ∧ offer k subj ps s = { s with reports := { s.reports with
              queue := s.reports.queue ++ [{ number := s.reports.next, time := s.clock.now, kind := k
                                             subject := subj, lost := s.reports.lost, params := ps }]
              next := wrapNext 65535 s.reports.next
              lost := 0 } })
      ∨ (s.reports.selects k = true ∧ 48 ≤ s.reports.queue.length
          ∧ offer k subj ps s
            = { s with reports := { s.reports with lost := min 65535 (s.reports.lost + 1) } }) := by
  unfold offer
  by_cases h : s.reports.selects k = true
  · by_cases hl : s.reports.queue.length < 48
    · exact .inr (.inl ⟨h, hl, by simp [h, Reports.place, Config.reportCapacity, hl, State.modReports]⟩)
    · exact .inr (.inr ⟨h, by omega, by
        simp [h, Reports.place, Config.reportCapacity, hl, State.modReports]⟩)
  · exact .inl ⟨by simpa using h, by simp [h]⟩

section
variable (k : ReportKind) (subj : Subject) (ps : List String)

@[simp] theorem offer_pending : (offer k subj ps s).pending = s.pending := by
  obtain ⟨r, h⟩ := offer_frame s k subj ps; rw [h]
@[simp] theorem offer_part : (offer k subj ps s).part = s.part := by
  obtain ⟨r, h⟩ := offer_frame s k subj ps; rw [h]
@[simp] theorem offer_clock : (offer k subj ps s).clock = s.clock := by
  obtain ⟨r, h⟩ := offer_frame s k subj ps; rw [h]
@[simp] theorem offer_link : (offer k subj ps s).link = s.link := by
  obtain ⟨r, h⟩ := offer_frame s k subj ps; rw [h]
@[simp] theorem offer_decks : (offer k subj ps s).decks = s.decks := by
  obtain ⟨r, h⟩ := offer_frame s k subj ps; rw [h]
@[simp] theorem offer_ends : (offer k subj ps s).ends = s.ends := by
  obtain ⟨r, h⟩ := offer_frame s k subj ps; rw [h]
@[simp] theorem offer_metro : (offer k subj ps s).metro = s.metro := by
  obtain ⟨r, h⟩ := offer_frame s k subj ps; rw [h]
@[simp] theorem offer_admission : (offer k subj ps s).admission = s.admission := by
  obtain ⟨r, h⟩ := offer_frame s k subj ps; rw [h]
@[simp] theorem offer_visits : (offer k subj ps s).visits = s.visits := by
  obtain ⟨r, h⟩ := offer_frame s k subj ps; rw [h]
@[simp] theorem offer_tares : (offer k subj ps s).tares = s.tares := by
  obtain ⟨r, h⟩ := offer_frame s k subj ps; rw [h]
@[simp] theorem offer_accounts : (offer k subj ps s).accounts = s.accounts := by
  obtain ⟨r, h⟩ := offer_frame s k subj ps; rw [h]
@[simp] theorem offer_classes : (offer k subj ps s).classes = s.classes := by
  obtain ⟨r, h⟩ := offer_frame s k subj ps; rw [h]
@[simp] theorem offer_journal : (offer k subj ps s).journal = s.journal := by
  obtain ⟨r, h⟩ := offer_frame s k subj ps; rw [h]
@[simp] theorem offer_layouts : (offer k subj ps s).layouts = s.layouts := by
  obtain ⟨r, h⟩ := offer_frame s k subj ps; rw [h]
@[simp] theorem offer_outcomes : (offer k subj ps s).outcomes = s.outcomes := by
  obtain ⟨r, h⟩ := offer_frame s k subj ps; rw [h]
@[simp] theorem offer_faults : (offer k subj ps s).faults = s.faults := by
  obtain ⟨r, h⟩ := offer_frame s k subj ps; rw [h]
@[simp] theorem offer_deck (d : Deck) : (offer k subj ps s).deck d = s.deck d := by
  obtain ⟨r, h⟩ := offer_frame s k subj ps; rw [h]; rfl
@[simp] theorem offer_station (e : EndId) : (offer k subj ps s).station e = s.station e := by
  obtain ⟨r, h⟩ := offer_frame s k subj ps; rw [h]; rfl

end

/-- "Condition arises" leaves the entry ACTIVE with its count raised, and changes nothing else but the
report queue (R209). -/
theorem condArises_spec (f : FaultSource) :
    ∃ v r, condArises f s = { s with faults := s.faults.set f v, reports := r }
      ∧ v.state = .active ∧ 1 ≤ v.count ∧ v.count ≤ 255
      ∧ ((s.faults.get f).state = .clear → v = ⟨.active, false, s.clock.now, 1⟩)
      ∧ ((s.faults.get f).state ≠ .clear →
          v = { s.faults.get f with state := .active, count := min 255 ((s.faults.get f).count + 1) }
            ∧ r = s.reports) := by
  unfold condArises
  rcases h : (s.faults.get f).state with _ | _ | _ <;> simp only [h]
  · obtain ⟨r, hr⟩ := offer_frame
      (s.setFault f { state := .active, read := false, first := s.clock.now, count := 1 })
      .fault (.source f) [toString (1 : Nat)]
    refine ⟨_, r, hr, rfl, ?_, ?_, fun _ => rfl, fun hn => absurd rfl hn⟩ <;> dsimp only <;> omega
  · refine ⟨{ s.faults.get f with count := min 255 ((s.faults.get f).count + 1) }, s.reports,
      ?_, h, ?_, ?_, fun hc => (by cases hc), fun _ => ⟨?_, rfl⟩⟩
    · simp [State.setFault, h]
    · dsimp only; omega
    · dsimp only; omega
    · rw [← h]
  · exact ⟨_, s.reports, rfl, rfl, by dsimp only; omega, by dsimp only; omega, fun hc => (by cases hc),
      fun _ => ⟨rfl, rfl⟩⟩

/-- "Condition ends" latches an ACTIVE entry and does nothing to any other (R209). -/
theorem condEnds_spec (f : FaultSource) :
    ((s.faults.get f).state = .active → ∃ r, condEnds f s
        = { s with faults := s.faults.set f { s.faults.get f with state := .latched }, reports := r })
      ∧ ((s.faults.get f).state ≠ .active → condEnds f s = s) := by
  unfold condEnds
  rcases h : (s.faults.get f).state with _ | _ | _ <;> simp only [h]
  · exact ⟨fun hc => (by cases hc), fun _ => trivial⟩
  · refine ⟨fun _ => ?_, fun hn => absurd rfl hn⟩
    exact offer_frame (s.setFault f { s.faults.get f with state := .latched })
      .faultGone (.source f) [toString (s.faults.get f).count, EntryState.word .latched]
  · exact ⟨fun hc => (by cases hc), fun _ => trivial⟩

/-- A detector's signal changes nothing but its source's entry and the report queue. -/
theorem signal_frame (f : FaultSource) (g : Signal) :
    ∃ v r, signal f g s = { s with faults := s.faults.set f v, reports := r } := by
  have keep : ∃ v r, s = { s with faults := s.faults.set f v, reports := r } :=
    ⟨s.faults.get f, s.reports, by
      have : s.faults.set f (s.faults.get f) = s.faults := by
        cases f <;> simp [FaultTable.get, FaultTable.set] <;> rename_i d c <;>
          cases c <;> cases d <;> rfl
      rw [this]⟩
  cases g with
  | quiet => exact keep
  | arises => obtain ⟨v, r, h, -⟩ := condArises_spec s f; exact ⟨v, r, h⟩
  | ends =>
    by_cases h : (s.faults.get f).state = .active
    · obtain ⟨r, hr⟩ := (condEnds_spec s f).1 h; exact ⟨_, r, hr⟩
    · exact (congrArg (fun x => ∃ v r, x = { s with faults := s.faults.set f v, reports := r })
        ((condEnds_spec s f).2 h)).mpr keep

end Sys2Proof.Machine
end

