-- ==== Sys2Proof/Laws/Drivers.lean ====
section
/-! SUPPORT. What a barrier driver's operations can change (R64 to R74, R80, R81): the driver itself,
its BAR entry and the report queue, and nothing else of the part. -/

namespace Sys2Proof.Machine

/-- `t` is `s` but for the driver of end `e`, its BAR entry and the report queue. -/
def DriverOnly (e : EndId) (s t : State) : Prop :=
  ∃ b v r, t = { s with
    ends := s.ends.set e { s.ends.get e with driver := b }
    faults := s.faults.set (.bar e) v, reports := r }

variable {s t u : State} {e : EndId}

theorem FaultTable.set_bar_get (f : FaultTable) (e : EndId) : f.set (.bar e) (f.get (.bar e)) = f := by
  simp [FaultTable.get, FaultTable.set]

theorem FaultTable.set_bar_set (f : FaultTable) (e : EndId) (v w : FaultEntry) :
    (f.set (.bar e) v).set (.bar e) w = f.set (.bar e) w := by
  simp [FaultTable.set]

theorem DriverOnly.refl (e : EndId) (s : State) : DriverOnly e s s :=
  ⟨(s.ends.get e).driver, s.faults.get (.bar e), s.reports, by
    rw [FaultTable.set_bar_get]
    exact congrArg (fun x => { s with ends := x }) (PerEnd.set_get s.ends e).symm⟩

theorem DriverOnly.trans (h : DriverOnly e s t) (k : DriverOnly e t u) : DriverOnly e s u := by
  obtain ⟨b, v, r, rfl⟩ := h
  obtain ⟨b', v', r', rfl⟩ := k
  exact ⟨b', v', r', by simp [FaultTable.set_bar_set]⟩

theorem modDriver_driverOnly (e : EndId) (f : Driver → Driver) (s : State) :
    DriverOnly e s (s.modDriver e f) :=
  ⟨f (s.ends.get e).driver, s.faults.get (.bar e), s.reports, by
    rw [FaultTable.set_bar_get]; rfl⟩

theorem condArises_driverOnly (e : EndId) (s : State) : DriverOnly e s (condArises (.bar e) s) := by
  obtain ⟨v, r, h, -⟩ := condArises_spec s (.bar e)
  exact ⟨(s.ends.get e).driver, v, r, by
    rw [h]; exact congrArg (fun x => { s with ends := x, faults := s.faults.set (.bar e) v, reports := r })
      (PerEnd.set_get s.ends e).symm⟩

theorem signal_driverOnly (e : EndId) (g : Signal) (s : State) :
    DriverOnly e s (signal (.bar e) g s) := by
  obtain ⟨v, r, h⟩ := signal_frame s (.bar e) g
  exact ⟨(s.ends.get e).driver, v, r, by
    rw [h]; exact congrArg (fun x => { s with ends := x, faults := s.faults.set (.bar e) v, reports := r })
      (PerEnd.set_get s.ends e).symm⟩

theorem barrierCondition_driverOnly (e : EndId) (s : State) :
    DriverOnly e s (barrierCondition e s) := by
  unfold barrierCondition
  dsimp only
  split
  · exact .refl e s
  · exact (modDriver_driverOnly e _ s).trans (signal_driverOnly e _ _)

theorem faultSafety_driverOnly (e : EndId) (s : State) : DriverOnly e s (faultSafety e s) := by
  unfold faultSafety
  dsimp only
  split
  · exact (modDriver_driverOnly e _ s).trans (barrierCondition_driverOnly e _)
  · exact .refl e s

theorem enterBarrierFault_driverOnly (e : EndId) (c : BarrierCause) (s : State) :
    DriverOnly e s (enterBarrierFault e c s) :=
  ((modDriver_driverOnly e _ s).trans (condArises_driverOnly e _)).trans (faultSafety_driverOnly e _)

theorem watchFeedback_driverOnly (e : EndId) (s : State) : DriverOnly e s (watchFeedback e s) := by
  unfold watchFeedback
  split
  · exact .refl e s
  · exact modDriver_driverOnly e _ s
  · exact enterBarrierFault_driverOnly e _ s

theorem startUp_driverOnly (e : EndId) (s : State) : DriverOnly e s (startUp e s) :=
  (modDriver_driverOnly e _ s).trans (watchFeedback_driverOnly e _)

theorem startDown_driverOnly (e : EndId) (s : State) : DriverOnly e s (startDown e s) :=
  (modDriver_driverOnly e _ s).trans (watchFeedback_driverOnly e _)

theorem setPending_driverOnly (e : EndId) (p : PendingMove) (s : State) :
    DriverOnly e s (setPending e p s) := modDriver_driverOnly e _ s

theorem raiseExecuted_driverOnly (e : EndId) (s : State) : DriverOnly e s (raiseExecuted e s) := by
  unfold raiseExecuted
  split <;> first
    | exact (setPending_driverOnly e _ s).trans (startUp_driverOnly e _)
    | exact setPending_driverOnly e _ s

/-- A raise request changes only its driver, its BAR entry and the reports (R65). -/
theorem raiseRequest_driverOnly (e : EndId) (s : State) : DriverOnly e s (raiseRequest e s) := by
  unfold raiseRequest
  split
  · exact raiseExecuted_driverOnly e s
  · exact setPending_driverOnly e _ s

/-- A lower request changes only its driver, its BAR entry and the reports (R66). -/
theorem lowerRequest_driverOnly (e : EndId) (s : State) : DriverOnly e s (lowerRequest e s) := by
  have h1 : DriverOnly e s (if (s.driver e).pending = .raise then setPending e .none s else s) := by
    split
    · exact setPending_driverOnly e _ s
    · exact .refl e s
  unfold lowerRequest
  dsimp only
  split
  · split
    · exact h1.trans (setPending_driverOnly e _ _)
    · exact (h1.trans (setPending_driverOnly e _ _)).trans (startDown_driverOnly e _)
  · split
    · exact h1.trans (setPending_driverOnly e _ _)
    · exact (h1.trans (setPending_driverOnly e _ _)).trans (startDown_driverOnly e _)
  all_goals exact h1

theorem driverSafetyOccupied_driverOnly (e : EndId) (s : State) :
    DriverOnly e s (driverSafetyOccupied e s) := by
  unfold driverSafetyOccupied
  split
  · exact (setPending_driverOnly e _ s).trans (startUp_driverOnly e _)
  · exact faultSafety_driverOnly e s
  all_goals exact .refl e s

/-- The recovery lower changes only its driver, its BAR entry and the reports (R74). -/
theorem recoveryLower_driverOnly (e : EndId) (s : State) : DriverOnly e s (recoveryLower e s) := by
  unfold recoveryLower
  dsimp only
  split
  · exact .refl e s
  · split
    · exact (modDriver_driverOnly e _ s).trans (modDriver_driverOnly e _ _)
    · split
      · exact (modDriver_driverOnly e _ s).trans (modDriver_driverOnly e _ _)
      · exact (modDriver_driverOnly e _ s).trans (startDown_driverOnly e _)

/-- The start of a driver changes only it, its BAR entry and the reports (R80). -/
theorem startDriver_driverOnly (e : EndId) (s : State) : DriverOnly e s (startDriver e s) := by
  have h := modDriver_driverOnly e Driver.rested s
  unfold startDriver
  dsimp only
  split
  · exact h.trans (modDriver_driverOnly e _ _)
  · split
    · exact h.trans (startDown_driverOnly e _)
    · split
      · exact h.trans (modDriver_driverOnly e _ _)
      · exact (h.trans (setPending_driverOnly e _ _)).trans (startUp_driverOnly e _)

/-- DECK x RESET at a driver changes only it, its BAR entry and the reports (R81). -/
theorem resetDriver_driverOnly (e : EndId) (s : State) : DriverOnly e s (resetDriver e s) := by
  unfold resetDriver
  split
  · exact setPending_driverOnly e _ s
  · split
    · exact setPending_driverOnly e _ s
    · exact (setPending_driverOnly e _ s).trans (startDown_driverOnly e _)
  · split
    · exact setPending_driverOnly e _ s
    · exact (setPending_driverOnly e _ s).trans (startDown_driverOnly e _)
  · split
    · exact (setPending_driverOnly e _ s).trans (startUp_driverOnly e _)
    · exact (setPending_driverOnly e _ s).trans (startDown_driverOnly e _)
  · exact startDriver_driverOnly e s

/-! ### What `DriverOnly` leaves alone -/

theorem DriverOnly.decks (h : DriverOnly e s t) : t.decks = s.decks := by
  obtain ⟨b, v, r, rfl⟩ := h; rfl
theorem DriverOnly.deck (h : DriverOnly e s t) (d : Deck) : t.deck d = s.deck d := by
  obtain ⟨b, v, r, rfl⟩ := h; rfl
theorem DriverOnly.visits (h : DriverOnly e s t) : t.visits = s.visits := by
  obtain ⟨b, v, r, rfl⟩ := h; rfl
theorem DriverOnly.accounts (h : DriverOnly e s t) : t.accounts = s.accounts := by
  obtain ⟨b, v, r, rfl⟩ := h; rfl
theorem DriverOnly.journal (h : DriverOnly e s t) : t.journal = s.journal := by
  obtain ⟨b, v, r, rfl⟩ := h; rfl
theorem DriverOnly.metro (h : DriverOnly e s t) : t.metro = s.metro := by
  obtain ⟨b, v, r, rfl⟩ := h; rfl
theorem DriverOnly.link (h : DriverOnly e s t) : t.link = s.link := by
  obtain ⟨b, v, r, rfl⟩ := h; rfl
theorem DriverOnly.part (h : DriverOnly e s t) : t.part = s.part := by
  obtain ⟨b, v, r, rfl⟩ := h; rfl
theorem DriverOnly.outcomes (h : DriverOnly e s t) : t.outcomes = s.outcomes := by
  obtain ⟨b, v, r, rfl⟩ := h; rfl
theorem DriverOnly.machine (h : DriverOnly e s t) (x : EndId) : t.machine x = s.machine x := by
  obtain ⟨b, v, r, rfl⟩ := h; cases e <;> cases x <;> rfl
theorem DriverOnly.lines (h : DriverOnly e s t) (x : EndId) :
    (t.station x).lines = (s.station x).lines := by
  obtain ⟨b, v, r, rfl⟩ := h; cases e <;> cases x <;> rfl
theorem DriverOnly.station_of_ne (h : DriverOnly e s t) {x : EndId} (hx : x ≠ e) :
    t.station x = s.station x := by
  obtain ⟨b, v, r, rfl⟩ := h; exact PerEnd.get_set_of_ne _ _ hx
theorem DriverOnly.fault_of_ne (h : DriverOnly e s t) {f : FaultSource} (hf : f ≠ .bar e) :
    t.faults.get f = s.faults.get f := by
  obtain ⟨b, v, r, rfl⟩ := h; exact FaultTable.get_set_of_ne _ _ hf

end Sys2Proof.Machine
end

