-- ==== Sys2Proof/Laws/Ends.lean ====
section
/-! SUPPORT. What an end machine's operations can change (R84 to R96): the machine of that end, the visit
table and the report queue, and nothing else of the part. -/

namespace Sys2Proof.Machine

/-- `t` is `s` but for the machine of end `e`, the visit table and the report queue. -/
def EndOnly (e : EndId) (s t : State) : Prop :=
  ∃ m v r, t = { s with
    ends := s.ends.set e { s.ends.get e with machine := m }, visits := v, reports := r }

variable {s t u : State} {e : EndId}

theorem EndOnly.refl (e : EndId) (s : State) : EndOnly e s s :=
  ⟨(s.ends.get e).machine, s.visits, s.reports,
    congrArg (fun x => { s with ends := x }) (PerEnd.set_get s.ends e).symm⟩

theorem EndOnly.trans (h : EndOnly e s t) (k : EndOnly e t u) : EndOnly e s u := by
  obtain ⟨m, v, r, rfl⟩ := h
  obtain ⟨m', v', r', rfl⟩ := k
  exact ⟨m', v', r', by simp⟩

theorem modMachine_endOnly (e : EndId) (f : EndMachine → EndMachine) (s : State) :
    EndOnly e s (s.modMachine e f) :=
  ⟨f (s.ends.get e).machine, s.visits, s.reports, rfl⟩

theorem modVisits_endOnly (e : EndId) (f : Visits → Visits) (s : State) :
    EndOnly e s (s.modVisits f) :=
  ⟨(s.ends.get e).machine, f s.visits, s.reports,
    congrArg (fun x => { s with ends := x, visits := f s.visits }) (PerEnd.set_get s.ends e).symm⟩

theorem offer_endOnly (e : EndId) (k : ReportKind) (subj : Subject) (ps : List String) (s : State) :
    EndOnly e s (offer k subj ps s) := by
  obtain ⟨r, h⟩ := offer_frame s k subj ps
  exact ⟨(s.ends.get e).machine, s.visits, r, by
    rw [h]; exact congrArg (fun x => { s with ends := x, reports := r }) (PerEnd.set_get s.ends e).symm⟩

theorem removeVisit?_endOnly (e : EndId) (n : Option Nat) (s : State) :
    EndOnly e s (s.removeVisit? n) := by
  cases n with
  | none => exact .refl e s
  | some n => unfold State.removeVisit? State.removeVisit; exact modVisits_endOnly e _ s

/-- A return to IDLE changes only the end, the visits and the reports (R94). -/
theorem endIdle_endOnly (e : EndId) (s : State) : EndOnly e s (endIdle e s) :=
  (removeVisit?_endOnly e _ s).trans (modMachine_endOnly e _ _)

theorem expiredToIdle_endOnly (e : EndId) (s : State) : EndOnly e s (expiredToIdle e s) := by
  unfold expiredToIdle
  split
  · exact endIdle_endOnly e s
  · exact .refl e s

/-- A refusal changes only the end, the visits and the reports (R92, R94, R96). -/
theorem refuseEnd_endOnly (e : EndId) (r p : Reason) (s : State) : EndOnly e s (refuseEnd e r p s) :=
  (((removeVisit?_endOnly e _ s).trans (modMachine_endOnly e _ _)).trans (offer_endOnly e _ _ _ _)).trans
    (expiredToIdle_endOnly e _)

/-- A referral changes only the end, the visits and the reports (R92). -/
theorem refer_endOnly (e : EndId) (r : Reason) (s : State) : EndOnly e s (refer e r s) := by
  unfold refer
  dsimp only
  split
  · exact ((modMachine_endOnly e _ s).trans (offer_endOnly e _ _ _ _)).trans (expiredToIdle_endOnly e _)
  · exact (modMachine_endOnly e _ s).trans (refuseEnd_endOnly e _ _ _)

theorem openVisit_endOnly (e x : EndId) (t : Tag) (ad : Admission) (k : VisitKind) (n : VisitNote)
    (u : Option TareUsed) (s : State) : EndOnly e s (openVisit x t ad k n u s) := by
  unfold openVisit; exact modVisits_endOnly e _ s

theorem readyEnd_endOnly (e : EndId) (v : Option Nat) (s : State) : EndOnly e s (readyEnd e v s) :=
  modMachine_endOnly e _ s

theorem openAtEnd_endOnly (e : EndId) (t : Tag) (ad : Admission) (s : State) :
    EndOnly e s (openAtEnd e t ad s) := by
  unfold openAtEnd
  dsimp only
  split
  · exact refer_endOnly e _ s
  · exact (((openVisit_endOnly e e t ad _ _ _ s).trans (readyEnd_endOnly e _ _)).trans
      (offer_endOnly e _ _ _ _)).trans (expiredToIdle_endOnly e _)

theorem admitNow_endOnly (e : EndId) (s : State) : EndOnly e s (admitNow e s) := by
  unfold admitNow
  dsimp only
  split
  · exact (readyEnd_endOnly e _ s).trans (expiredToIdle_endOnly e _)
  · exact openAtEnd_endOnly e _ _ s
  · exact .refl e s

theorem holdEnd_endOnly (e : EndId) (r : Reason) (s : State) : EndOnly e s (holdEnd e r s) :=
  ((modMachine_endOnly e _ s).trans (offer_endOnly e _ _ _ _)).trans (expiredToIdle_endOnly e _)

/-- The hold check changes only the end, the visits and the reports (R90). -/
theorem holdCheck_endOnly (e : EndId) (s : State) : EndOnly e s (holdCheck e s) := by
  unfold holdCheck
  split
  · exact holdEnd_endOnly e _ s
  · exact admitNow_endOnly e s

theorem decideOutbound_endOnly (e : EndId) (t : Tag) (s : State) :
    EndOnly e s (decideOutbound e t s) := by
  unfold decideOutbound
  split
  · exact refer_endOnly e _ s
  · split
    · exact (readyEnd_endOnly e _ s).trans (expiredToIdle_endOnly e _)
    · exact (readyEnd_endOnly e _ s).trans (expiredToIdle_endOnly e _)
    · exact refer_endOnly e _ s
    · exact refer_endOnly e _ s

theorem decideInbound_endOnly (e : EndId) (t : Tag) (s : State) :
    EndOnly e s (decideInbound e t s) := by
  unfold decideInbound
  split
  · exact refer_endOnly e _ s
  · split
    · split
      · exact refer_endOnly e _ s
      · exact refuseEnd_endOnly e _ _ s
    · split
      · split
        · exact refer_endOnly e _ s
        · exact (modMachine_endOnly e _ s).trans (holdCheck_endOnly e _)
      · exact refer_endOnly e _ s
      · exact refuseEnd_endOnly e _ _ s
      · exact refuseEnd_endOnly e _ _ s

/-- The admission decision changes only the end, the visits and the reports (R86 to R90). -/
theorem acceptTag_endOnly (e : EndId) (t : Tag) (s : State) : EndOnly e s (acceptTag e t s) := by
  have h := modMachine_endOnly e (fun m => { m with tag := some t, idTimer := .stopped }) s
  unfold acceptTag
  dsimp only
  split
  · exact h.trans (decideInbound_endOnly e t _)
  · exact h.trans (decideOutbound_endOnly e t _)
  · exact h

theorem wake_endOnly (e : EndId) (s : State) : EndOnly e s (wake e s) := by
  have h := modMachine_endOnly e (fun m =>
    { m with state := .identifying, movement := some (s.movementAt e), idTimer := .running m.idTime }) s
  unfold wake
  dsimp only
  split
  · exact (h.trans (modMachine_endOnly e _ _)).trans (refer_endOnly e _ _)
  · split
    · exact h.trans (expiredToIdle_endOnly e _)
    · exact h.trans (acceptTag_endOnly e _ _)

/-- The test of R85 changes only the end, the visits and the reports. -/
theorem wakeTest_endOnly (e : EndId) (s : State) : EndOnly e s (wakeTest e s) := by
  unfold wakeTest
  dsimp only
  split
  · split
    · exact wake_endOnly e s
    · split
      · exact .refl e s
      · exact (modMachine_endOnly e _ s).trans (offer_endOnly e _ _ _ _)
  · exact .refl e s

theorem detachEnd_endOnly (e : EndId) (s : State) : EndOnly e s (detachEnd s e) := by
  unfold detachEnd
  split
  · exact refuseEnd_endOnly e _ _ s
  · exact .refl e s

theorem closeEnd_endOnly (e : EndId) (s : State) : EndOnly e s (closeEnd s e) := by
  unfold closeEnd
  split <;> first
    | exact refuseEnd_endOnly e _ _ s
    | exact .refl e s

/-! ### What `EndOnly` leaves alone -/

theorem EndOnly.decks (h : EndOnly e s t) : t.decks = s.decks := by
  obtain ⟨b, v, r, rfl⟩ := h; rfl
theorem EndOnly.deck (h : EndOnly e s t) (d : Deck) : t.deck d = s.deck d := by
  obtain ⟨b, v, r, rfl⟩ := h; rfl
theorem EndOnly.faults (h : EndOnly e s t) : t.faults = s.faults := by
  obtain ⟨b, v, r, rfl⟩ := h; rfl
theorem EndOnly.accounts (h : EndOnly e s t) : t.accounts = s.accounts := by
  obtain ⟨b, v, r, rfl⟩ := h; rfl
theorem EndOnly.journal (h : EndOnly e s t) : t.journal = s.journal := by
  obtain ⟨b, v, r, rfl⟩ := h; rfl
theorem EndOnly.metro (h : EndOnly e s t) : t.metro = s.metro := by
  obtain ⟨b, v, r, rfl⟩ := h; rfl
theorem EndOnly.link (h : EndOnly e s t) : t.link = s.link := by
  obtain ⟨b, v, r, rfl⟩ := h; rfl
theorem EndOnly.part (h : EndOnly e s t) : t.part = s.part := by
  obtain ⟨b, v, r, rfl⟩ := h; rfl
theorem EndOnly.outcomes (h : EndOnly e s t) : t.outcomes = s.outcomes := by
  obtain ⟨b, v, r, rfl⟩ := h; rfl
theorem EndOnly.driver (h : EndOnly e s t) (x : EndId) : t.driver x = s.driver x := by
  obtain ⟨b, v, r, rfl⟩ := h; cases e <;> cases x <;> rfl
theorem EndOnly.lines (h : EndOnly e s t) (x : EndId) :
    (t.station x).lines = (s.station x).lines := by
  obtain ⟨b, v, r, rfl⟩ := h; cases e <;> cases x <;> rfl
theorem EndOnly.station_of_ne (h : EndOnly e s t) {x : EndId} (hx : x ≠ e) :
    t.station x = s.station x := by
  obtain ⟨b, v, r, rfl⟩ := h; exact PerEnd.get_set_of_ne _ _ hx

end Sys2Proof.Machine
end

