-- ==== Sys2Proof/Laws/Drives.lean ====
section
/-! SUPPORT. The barrier operations are the drives that the statements name (R64, R66, R68 to R70, R80):
each equals its one description over every mode and feedback reading. So does an end's way to REFUSED. -/

namespace Sys2Proof.Machine

/-- The readings a driver sees are not the driver's to change. -/
theorem modDriver_lines (e : EndId) (f : Driver → Driver) (s : State) :
    ((s.modDriver e f).station e).lines = (s.station e).lines := by cases e <;> rfl

theorem modDriver_driver (e : EndId) (f : Driver → Driver) (s : State) :
    (s.modDriver e f).driver e = f (s.driver e) := by cases e <;> rfl

theorem modDriver_modDriver (e : EndId) (f g : Driver → Driver) (s : State) :
    (s.modDriver e f).modDriver e g = s.modDriver e fun b => g (f b) := by cases e <;> rfl

theorem modDriver_const (e : EndId) (f : Driver → Driver) (s : State) :
    s.modDriver e f = s.modDriver e fun _ => f (s.driver e) := rfl

theorem modDriver_safetyOcc (e : EndId) (f : Driver → Driver) (s : State) :
    (s.modDriver e f).safetyOcc e = s.safetyOcc e := by cases e <;> rfl

@[simp] theorem Driver.outputsUp_mode (b : Driver) : b.outputsUp.mode = b.mode := by
  unfold Driver.outputsUp; split <;> simp_all
@[simp] theorem Driver.outputsDown_mode (b : Driver) : b.outputsDown.mode = b.mode := by
  unfold Driver.outputsDown; split <;> simp_all
@[simp] theorem Driver.outputsUp_pending (b : Driver) : b.outputsUp.pending = b.pending := by
  unfold Driver.outputsUp; split <;> rfl
@[simp] theorem Driver.outputsDown_pending (b : Driver) : b.outputsDown.pending = b.pending := by
  unfold Driver.outputsDown; split <;> rfl
@[simp] theorem Driver.outputsUp_commanded (b : Driver) : b.outputsUp.commanded = .up := by
  unfold Driver.outputsUp; split <;> rfl

theorem enterBarrierFault_eq (e : EndId) (c : BarrierCause) (s : State) :
    enterBarrierFault e c s = faultSafety e (putDriver e ((s.driver e).failed c) s) := by
  simp [enterBarrierFault, putDriver, Driver.failed, modDriver_const e]

theorem condArises_driver (e x : EndId) (s : State) :
    (condArises (.bar e) s).driver x = s.driver x := by
  obtain ⟨v, r, h, -⟩ := condArises_spec s (.bar e)
  rw [h]; rfl

theorem condArises_safetyOcc (e x : EndId) (s : State) :
    (condArises (.bar e) s).safetyOcc x = s.safetyOcc x := by
  obtain ⟨v, r, h, -⟩ := condArises_spec s (.bar e)
  rw [h]; rfl

theorem putDriver_driver (e : EndId) (b : Driver) (s : State) : (putDriver e b s).driver e = b := by
  unfold putDriver
  dsimp only
  split <;> simp [condArises_driver, modDriver_driver]

theorem putDriver_safetyOcc (e : EndId) (b : Driver) (s : State) :
    (putDriver e b s).safetyOcc e = s.safetyOcc e := by
  unfold putDriver
  dsimp only
  split <;> simp [condArises_safetyOcc, modDriver_safetyOcc]

theorem putDriver_modDriver (e : EndId) (b : Driver) (f : Driver → Driver) (s : State) :
    putDriver e b (s.modDriver e f) = putDriver e b s := by
  simp [putDriver, modDriver_modDriver]

theorem modDriver_station (e : EndId) (f : Driver → Driver) (s : State) :
    (s.modDriver e f).station e = { s.station e with driver := f (s.station e).driver } := by
  cases e <;> rfl

theorem faultSafety_fine {e : EndId} {s : State}
    (h : (s.driver e).commanded = .up ∨ s.safetyOcc e = false) : faultSafety e s = s := by
  unfold faultSafety
  rcases h with h | h <;> simp [h]

theorem putDriver_fine (e : EndId) {b : Driver} (s : State) (h : b.state ≠ .fault) :
    putDriver e b s = s.modDriver e fun _ => b := by simp [putDriver, h]

/-- Driving up, over every mode and reading (R64, R68, R69). -/
theorem startUp_eq (e : EndId) (s : State) : startUp e s = drivenUp e s := by
  have hm : (s.driver e).mode = (s.station e).driver.mode := by cases e <;> rfl
  have hw : ((s.modDriver e Driver.driveUp).station e).watch =
      if (s.driver e).mode = .confirmed ∧ (s.station e).lines.up = true then
        if (s.station e).lines.down = true then .fault .both else .arrived .up
      else .fine := by
    rw [modDriver_station, hm]
    simp only [Station.watch, Driver.driveUp, Driver.outputsUp_mode]
    grind
  unfold startUp watchFeedback drivenUp Driver.drivenUp
  rw [hw]
  by_cases hc : (s.driver e).mode = .confirmed ∧ (s.station e).lines.up = true
  · by_cases hd : (s.station e).lines.down = true
    · simp only [if_pos hc, if_pos hd]
      rw [enterBarrierFault_eq, faultSafety_fine (.inl (by
        rw [putDriver_driver]; simp [Driver.failed, modDriver_driver, Driver.driveUp])),
        putDriver_modDriver, modDriver_driver]
      simp [Driver.failed, Driver.driveUp]
    · simp only [if_pos hc, if_neg hd]
      rw [putDriver_fine _ _ (by simp), modDriver_modDriver]
      rfl
  · simp only [if_neg hc]
    rw [putDriver_fine _ _ (by simp)]
    rfl

/-- Driving down over a clear loop, over every mode and reading (R64, R68, R69). -/
theorem startDown_eq {e : EndId} {s : State} (h : s.safetyOcc e = false) :
    startDown e s = drivenDown e s := by
  have hm : (s.driver e).mode = (s.station e).driver.mode := by cases e <;> rfl
  have hw : ((s.modDriver e Driver.driveDown).station e).watch =
      if (s.driver e).mode = .confirmed ∧ (s.station e).lines.down = true then
        if (s.station e).lines.up = true then .fault .both else .arrived .down
      else .fine := by
    rw [modDriver_station, hm]
    simp only [Station.watch, Driver.driveDown, Driver.outputsDown_mode]
    grind
  unfold startDown watchFeedback drivenDown Driver.drivenDown
  rw [hw]
  by_cases hc : (s.driver e).mode = .confirmed ∧ (s.station e).lines.down = true
  · by_cases hu : (s.station e).lines.up = true
    · simp only [if_pos hc, if_pos hu]
      rw [enterBarrierFault_eq, faultSafety_fine (.inr (by
        rw [putDriver_safetyOcc, modDriver_safetyOcc, h])),
        putDriver_modDriver, modDriver_driver]
      simp [Driver.failed, Driver.driveDown]
    · simp only [if_pos hc, if_neg hu]
      rw [putDriver_fine _ _ (by simp), modDriver_modDriver]
      rfl
  · simp only [if_neg hc]
    rw [putDriver_fine _ _ (by simp)]
    rfl

/-- A lower request, as R66 and R70 lay it down. -/
theorem lowerRequest_eq (e : EndId) (s : State) : lowerRequest e s = lowered e s := by
  unfold lowerRequest lowered
  have hp (p : PendingMove) :
      setPending e p (if (s.driver e).pending = .raise then setPending e .none s else s)
        = s.modDriver e fun b => { b with pending := p } := by
    split
    · simp only [setPending]; rw [modDriver_modDriver]
    · rfl
  have hc (h : ¬ s.safetyOcc e = true) :
      startDown e (s.modDriver e fun b => { b with pending := .none })
        = drivenDown e (s.modDriver e fun b => { b with pending := .none }) :=
    startDown_eq (by rw [modDriver_safetyOcc]; simpa using h)
  cases hs : (s.driver e).state <;> dsimp only
  case down | lowering | fault => simp [setPending, hs]
  case up | raising =>
    have hu : (s.driver e).state = .up ∨ (s.driver e).state = .raising := by simp [hs]
    rw [hp, hp, if_pos hu]
    by_cases h : s.safetyOcc e = true
    · rw [if_pos h, if_pos h]
    · rw [if_neg h, if_neg h]; exact hc h

/-- The start of a driver at power-on, over every mode and reading (R80). -/
theorem startDriver_eq (e : EndId) (s : State) :
    startDriver e s
      = putDriver e ((s.driver e).started (s.station e).lines (s.safetyOcc e)) s := by
  have hr (f : Driver → Driver) :
      (s.modDriver e Driver.rested).modDriver e f
        = s.modDriver e fun _ => f (s.driver e).rested := by
    rw [modDriver_modDriver]; rfl
  have hd : ((s.modDriver e Driver.rested).station e).driver = (s.driver e).rested := by
    rw [modDriver_station]; cases e <;> rfl
  have hm : (s.driver e).rested.mode = (s.driver e).mode := rfl
  unfold startDriver Driver.started
  simp only [modDriver_lines, modDriver_safetyOcc, hd, hm]
  split
  · rw [putDriver_fine _ _ (by simp), hr]; rfl
  · split
    · rw [startDown_eq (by rw [modDriver_safetyOcc]; assumption), drivenDown, modDriver_lines,
        putDriver_modDriver, modDriver_driver]
      rfl
    · split
      · rw [putDriver_fine _ _ (by simp), hr]; rfl
      · rw [startUp_eq, drivenUp, setPending, hr, modDriver_lines, putDriver_modDriver,
          modDriver_driver]
        rfl

/-- Sending an end to REFUSED is the one description the statements use (R92, R94, R96). -/
theorem refuseEnd_eq (e : EndId) (r prior : Reason) (s : State) :
    refuseEnd e r prior s = sentAway e r prior s := by
  have key (f : EndMachine → EndMachine) (k : ReportKind) (x : Subject) (ps : List String) (u : State) :
      (offer k x ps (u.modMachine e f)).machine e = f (u.machine e) := by
    obtain ⟨v, h⟩ := offer_frame (s := u.modMachine e f) k x ps
    rw [h]; cases e <;> rfl
  have hm : (s.removeVisit? (s.machine e).visit).machine e = s.machine e := by
    cases (s.machine e).visit <;> rfl
  have hn (u : State) : u.removeVisit? none = u := rfl
  unfold refuseEnd sentAway expiredToIdle endIdle
  dsimp only
  generalize s.removeVisit? (s.machine e).visit = u at hm ⊢
  simp only [key, hm, EndState.leavesOnClear, and_true, hn]
  by_cases h : (s.machine e).clearTimer = .expired
  · rw [if_pos h, if_pos h]
    obtain ⟨v, hv⟩ := offer_frame (s := u.modMachine e fun x =>
      { x with state := .refused, reason := r, prior := prior, visit := none, idTimer := .stopped,
               decideTimer := .stopped }) .refused (.atEnd e)
        [reasonWord r, reasonWord prior, dash tagText (s.machine e).tag]
    rw [hv]; cases e <;> rfl
  · rw [if_neg h, if_neg h]
end Sys2Proof.Machine
end

