-- ==== Sys2Proof/Laws/Journal.lean ====
section
/-! SUPPORT. What the journal's shared operations can do (chapter 8): requests, the arbiter's choice, the
use of a slot, the level reports, the entry into FAULT, and a purge. -/

namespace Sys2Proof.Machine

variable (j : Journal) (s : State)

/-! ### Requests and the choice (R152, R153) -/

/-- A request joins the pending set and changes nothing else (R152). -/
theorem journalRequest_eq (r : Requester) (d : Option Deck) (b : Body) :
    journalRequest r d b s = { s with journal := { s.journal with
      pending := s.journal.pending ++ [{ requester := r, deck := d, body := b, attempt := 1 }] } } := rfl

/-- The fixed order names every requester, whoever was granted last (R152). -/
theorem mem_roundFrom (q r : Requester) : q ∈ r.roundFrom := by
  cases r <;> cases q <;> first | decide | (rename_i a b; cases a <;> cases b <;> decide) |
    (rename_i a; cases a <;> decide)

/-- What the arbiter chooses is pending (R152). -/
theorem choice_mem {r : Request} (h : j.choice = some r) : r ∈ j.pending := by
  unfold Journal.choice at h
  split at h
  · rename_i x hx
    cases h; exact List.mem_of_find?_eq_some hx
  · dsimp only at h
    obtain ⟨q, -, hq⟩ := List.exists_of_findSome?_eq_some h
    have hm := List.mem_of_find?_eq_some hq
    split at hm
    · exact hm
    · exact List.mem_of_mem_filter hm

/-- While a request is pending the arbiter has a choice (R152). -/
theorem choice_isSome (h : j.pending ≠ []) : ∃ r, j.choice = some r := by
  unfold Journal.choice
  split
  · exact ⟨_, rfl⟩
  · dsimp only
    generalize hset : (if (j.pending.filter fun r => preferCovers j.prefer r.requester).isEmpty = true then
      j.pending else j.pending.filter fun r => preferCovers j.prefer r.requester) = set
    have hne : set ≠ [] := by
      subst hset
      split
      · exact h
      · rename_i hn; simpa using hn
    obtain ⟨x, hx⟩ := List.exists_mem_of_ne_nil _ hne
    rw [← Option.isSome_iff_exists, List.findSome?_isSome_iff]
    exact ⟨x.requester, mem_roundFrom _ _, by simp; exact ⟨x, hx, rfl⟩⟩

/-- A grant takes a pending request, stamped, and suspends an erase (R152, R154, R162). -/
theorem execJournalGrant_cases :
    (s.journal.canGrant = false ∧ execJournalGrant s = .next s)
      ∨ ∃ r ∈ s.journal.pending, s.journal.choice = some r
          ∧ execJournalGrant s = .next { s with journal := { s.journal with
              pending := s.journal.pending.filter fun x => x.requester != r.requester
              inProgress := some { request := r, stamp := s.stamp r.deck }
              lastGranted := r.requester
              erase := s.journal.erase.suspend } } := by
  unfold execJournalGrant
  by_cases h : s.journal.canGrant = true
  · right
    have hne : s.journal.pending ≠ [] := by
      intro hc; simp [Journal.canGrant, hc] at h
    obtain ⟨r, hr⟩ := choice_isSome s.journal hne
    exact ⟨r, choice_mem _ hr, hr, by rw [if_pos h, hr]; rfl⟩
  · exact .inl ⟨by simpa using h, by rw [if_neg h]⟩

/-! ### Slots and pages (R147, R148) -/

theorem setPage_page (i : Nat) (p : Page) (h : i < j.pages.length) : (j.setPage i p).page i = p := by
  simp [Journal.page, Journal.setPage, h]

theorem setPage_page_of_ne {i k : Nat} (p : Page) (h : k ≠ i) :
    (j.setPage i p).page k = j.page k := by
  simp [Journal.page, Journal.setPage, List.getD_eq_getElem?_getD, List.getElem?_set_ne (Ne.symm h)]

/-- A page that the ring names in a state other than ERASED stands in the store. -/
theorem firstAfter_spec {i k : Nat} {st : PageState} (h : j.firstAfter i st = some k) :
    (j.page k).state = st ∧ k < 64 ∧ (st ≠ .erased → k < j.pages.length) := by
  unfold Journal.firstAfter at h
  have hs := List.find?_some h
  have hm := List.mem_of_find?_eq_some h
  refine ⟨by simpa using hs, ?_, fun hne => ?_⟩
  · simp [ringAfter, Config.pageCount] at hm
    obtain ⟨a, ha, rfl⟩ := hm
    omega
  · by_contra hlt
    have hp : j.page k = { state := .erased, used := [] } := by
      simp [Journal.page, List.getD_eq_getElem?_getD, List.getElem?_eq_none (Nat.le_of_not_lt hlt)]
    rw [hp] at hs
    exact hne (by simpa using hs : PageState.erased = st).symm

/-- A used slot: the page takes it and fills at its 256th, and the journal is otherwise as it was but
for the page that may become CURRENT (R148). -/
theorem useSlot_spec (i : Nat) (sl : Slot) (h : i < j.pages.length) :
    ((j.useSlot i sl).page i).used = (j.page i).used ++ [sl]
      ∧ ((j.useSlot i sl).page i).state
          = (if (j.page i).used.length < 255 then .current else .filled)
      ∧ (∃ ps n, j.useSlot i sl = { j with pages := ps, newest := n } ∧ ps.length = j.pages.length) := by
  unfold Journal.useSlot
  dsimp only
  by_cases hlen : (j.page i).used.length < 255
  · have h256 : ((j.page i).used ++ [sl]).length < Config.slotsPerPage := by
      simp [Config.slotsPerPage]; omega
    rw [if_pos h256, if_pos hlen, setPage_page _ _ _ h]
    exact ⟨rfl, rfl, _, j.newest, rfl, by simp⟩
  · have h256 : ¬ ((j.page i).used ++ [sl]).length < Config.slotsPerPage := by
      simp [Config.slotsPerPage]; omega
    rw [if_neg h256, if_neg hlen]
    split
    · rename_i k hk
      have hki : i ≠ k := by
        rintro rfl
        have := (firstAfter_spec _ hk).1
        rw [setPage_page _ _ _ h] at this
        cases this
      refine ⟨?_, ?_, _, k, rfl, by simp [Journal.setPage]⟩
      · show (((j.setPage i _).setPage k _).page i).used = _
        rw [setPage_page_of_ne _ _ hki, setPage_page _ _ _ h]
      · show (((j.setPage i _).setPage k _).page i).state = _
        rw [setPage_page_of_ne _ _ hki, setPage_page _ _ _ h]
    · refine ⟨?_, ?_, _, i, rfl, by simp [Journal.setPage]⟩
      · show ((j.setPage i _).page i).used = _
        rw [setPage_page _ _ _ h]
      · show ((j.setPage i _).page i).state = _
        rw [setPage_page _ _ _ h]

/-- The level reports change nothing but the report queue (R157). -/
theorem levelReports_frame : ∃ r, levelReports j s = { s with reports := r } := by
  unfold levelReports
  dsimp only
  split <;> split
  · obtain ⟨r, h⟩ := offer_frame s .journalLow .none
      [nat s.journal.erasedCount, nat s.journal.low]
    obtain ⟨r', h'⟩ := offer_frame
      (offer .journalLow .none [nat s.journal.erasedCount, nat s.journal.low] s) .journalFull .none
      [nat s.journal.lastSeq]
    exact ⟨r', by rw [h', h]⟩
  · exact offer_frame s _ _ _
  · exact offer_frame s _ _ _
  · exact ⟨s.reports, rfl⟩

/-- The entry into FAULT sets the journal's fault, suspends an erase and leaves JOURNAL ACTIVE (R156). -/
theorem journalFault_spec :
    ∃ v r, journalFault s = { s with
        journal := { s.journal with fault := true, erase := s.journal.erase.suspend }
        faults := s.faults.set .journal v, reports := r } ∧ v.state = .active := by
  obtain ⟨v, r, h, hv, -⟩ := condArises_spec
    (s.modJournal fun j => { j with fault := true, erase := j.erase.suspend }) .journal
  exact ⟨v, r, h, hv⟩

/-! ### Purge (R161) -/

/-- What a purge takes: no more pages than asked, each with only purgeable records, turned ERASING with
its slots kept; all were taken exactly when nothing stopped it. -/
theorem purge_spec (now : YardTime) (is : List Nat) (n k : Nat) (j : Journal) (hnd : is.Nodup)
    (hlen : ∀ i ∈ is, i < j.pages.length) :
    let r := Journal.purge now is n k j
    k ≤ r.1 ∧ r.1 ≤ k + n ∧ (r.1 = k + n ↔ r.2.2 = .none)
      ∧ (∃ ps, r.2.1 = { j with pages := ps } ∧ ps.length = j.pages.length)
      ∧ ∀ i, (r.2.1.page i).used = (j.page i).used
          ∧ (r.2.1.page i = j.page i ∨ i ∈ is ∧ (r.2.1.page i).state = .erasing
              ∧ ∀ x ∈ recordsOf (j.page i).used, purgeable now j.exported j.retain x = true) := by
  induction is generalizing n k j with
  | nil =>
    cases n with
    | zero => exact ⟨Nat.le_refl _, Nat.le_refl _, ⟨fun _ => rfl, fun _ => rfl⟩, ⟨j.pages, rfl, rfl⟩,
        fun i => ⟨rfl, .inl rfl⟩⟩
    | succ n =>
      refine ⟨Nat.le_refl _, by simp [Journal.purge], ⟨fun h => ?_, fun h => ?_⟩, ⟨j.pages, rfl, rfl⟩,
        fun i => ⟨rfl, .inl rfl⟩⟩
      · simp [Journal.purge] at h
      · simp [Journal.purge] at h
  | cons a rest ih =>
    cases n with
    | zero => exact ⟨Nat.le_refl _, Nat.le_refl _, ⟨fun _ => rfl, fun _ => rfl⟩, ⟨j.pages, rfl, rfl⟩,
        fun i => ⟨rfl, .inl rfl⟩⟩
    | succ n =>
      unfold Journal.purge
      dsimp only
      split
      · refine ⟨Nat.le_refl _, by omega, ⟨fun h => by omega, fun h => by cases h⟩,
          ⟨j.pages, rfl, rfl⟩, fun i => ⟨rfl, .inl rfl⟩⟩
      · rename_i hall
        have hp : ∀ x ∈ recordsOf (j.page a).used, purgeable now j.exported j.retain x = true := by
          intro x hx
          have := List.find?_eq_none.1 hall x hx
          simpa using this
        have ha : a < j.pages.length := hlen a (by simp)
        have hnd' := List.nodup_cons.1 hnd
        have hstep := ih n (k + 1)
          (j.setPage a { j.page a with state := .erasing }) hnd'.2
          (fun i hi => by simpa [Journal.setPage] using hlen i (by simp [hi]))
        generalize hr : Journal.purge now rest n (k + 1)
          (j.setPage a { j.page a with state := .erasing }) = r at hstep ⊢
        obtain ⟨h1, h2, h3, ⟨ps, h4, h5⟩, h6⟩ := hstep
        refine ⟨by omega, by omega, ⟨fun h => h3.1 (by omega), fun h => by have := h3.2 h; omega⟩,
          ⟨ps, by rw [h4]; rfl, by rw [h5]; simp [Journal.setPage]⟩, fun i => ?_⟩
        obtain ⟨hu, hs⟩ := h6 i
        by_cases hia : i = a
        · subst hia
          rw [setPage_page _ _ _ ha] at hu hs
          refine ⟨hu, .inr ⟨by simp, ?_, hp⟩⟩
          rcases hs with hs | ⟨hmem, -⟩
          · rw [hs]
          · exact absurd hmem hnd'.1
        · rw [setPage_page_of_ne _ _ hia] at hu hs
          refine ⟨hu, ?_⟩
          rcases hs with hs | ⟨hmem, hs, hx⟩
          · exact .inl hs
          · exact .inr ⟨by simp [hmem], hs, hx⟩

end Sys2Proof.Machine
end

