-- ==== Sys2Proof/Laws/Sequencer.lean ====
section
/-! SUPPORT. What a sequencer's operations leave (R109 to R120, R127): the deck's unit after entering a
passage state, and the tables and blocks that the movement of a vehicle does not touch. -/

namespace Sys2Proof.Machine

variable (s : State) (d : Deck) (e : EndId)

/-- The record of a sequencer that has entered a passage state through `e` (R109, R111). -/
def passageRecord (st : SeqState) (e : EndId) (occ : Bool) (time : Nat) (q : Sequencer) : Sequencer :=
  { q with
    state := st, passage := some e, passageMark := occ, lowerRequested := false, tailgateMark := false
    tailgate := if occ && st.tailgated then .running time else .stopped
    weighTimer := .stopped, take := .stopped }

/-- Entering a passage state writes the deck's record and raises the passage end's barrier (R109, R111). -/
theorem enterPassage_driverOnly (st : SeqState) :
    DriverOnly e
      (s.modSeq d (passageRecord st e (s.safetyOcc e) (s.deck d).settings.tailgateTime))
      (enterPassage d st e s) := raiseRequest_driverOnly e _

theorem enterPassage_deck (st : SeqState) :
    (enterPassage d st e s).deck d
      = { s.deck d with
          seq := passageRecord st e (s.safetyOcc e) (s.deck d).settings.tailgateTime (s.deck d).seq } := by
  rw [(enterPassage_driverOnly s d e st).deck]; simp

theorem enterPassage_deck_of_ne (st : SeqState) {d' : Deck} (h : d' ≠ d) :
    (enterPassage d st e s).deck d' = s.deck d' := by
  rw [(enterPassage_driverOnly s d e st).deck]; exact State.modSeq_deck_of_ne s _ h

/-- Entering a passage state changes only decks, ends, faults and reports. -/
theorem enterPassage_frame (st : SeqState) :
    ∃ u x f r, enterPassage d st e s
      = { s with decks := s.decks.set d u, ends := x, faults := f, reports := r } := by
  obtain ⟨b, v, r, h⟩ := enterPassage_driverOnly s d e st
  exact ⟨_, _, _, r, h⟩

@[simp] theorem enterPassage_visits (st : SeqState) : (enterPassage d st e s).visits = s.visits :=
  (enterPassage_driverOnly s d e st).visits
@[simp] theorem enterPassage_journal (st : SeqState) : (enterPassage d st e s).journal = s.journal :=
  (enterPassage_driverOnly s d e st).journal
@[simp] theorem enterPassage_accounts (st : SeqState) :
    (enterPassage d st e s).accounts = s.accounts := (enterPassage_driverOnly s d e st).accounts
@[simp] theorem enterPassage_outcomes (st : SeqState) :
    (enterPassage d st e s).outcomes = s.outcomes := (enterPassage_driverOnly s d e st).outcomes
@[simp] theorem enterPassage_machine (st : SeqState) (x : EndId) :
    (enterPassage d st e s).machine x = s.machine x := (enterPassage_driverOnly s d e st).machine x

/-- DEPARTING through the departure end of a known approach end. -/
theorem enterDeparting_eq (h : (s.deck d).seq.approach = some e) :
    enterDeparting d s = enterPassage d .departing e.other s := by
  unfold enterDeparting Sequencer.departure; rw [h]; rfl

/-- EJECTING through a known approach end. -/
theorem enterEjecting_eq (h : (s.deck d).seq.approach = some e) :
    enterEjecting d s = enterPassage d .ejecting e s := by
  unfold enterEjecting; rw [h]

/-- Entering DEPARTING changes only the deck's record, ends, faults and reports. -/
theorem enterDeparting_frame :
    ∃ u x f r, enterDeparting d s
      = { s with decks := s.decks.set d u, ends := x, faults := f, reports := r } := by
  unfold enterDeparting
  split
  · exact enterPassage_frame s d _ _
  · exact ⟨s.deck d, s.ends, s.faults, s.reports,
      congrArg (fun x => { s with decks := x }) (PerDeck.set_get s.decks d).symm⟩

/-- A settlement's or ticket's release changes only the deck's record, ends, faults and reports (R117). -/
theorem testRelease_frame :
    ∃ u x f r, testRelease d s
      = { s with decks := s.decks.set d u, ends := x, faults := f, reports := r } := by
  unfold testRelease
  split
  · exact enterDeparting_frame s d
  · exact ⟨s.deck d, s.ends, s.faults, s.reports,
      congrArg (fun x => { s with decks := x }) (PerDeck.set_get s.decks d).symm⟩

theorem testRelease_keeps (h : (s.deck d).seq.released = false) : testRelease d s = s := by
  unfold testRelease; simp [h]

/-- Entering TICKETING changes only the deck's record, ends, faults and reports (R116, R117). -/
theorem enterTicketing_frame :
    ∃ u x f r, enterTicketing d s
      = { s with decks := s.decks.set d u, ends := x, faults := f, reports := r } := by
  obtain ⟨u, x, f, r, h⟩ := testRelease_frame
    (s.modSeq d fun q => { q with state := .ticketing, release := (s.deck d).settings.release }) d
  exact ⟨u, x, f, r, by
    unfold enterTicketing; rw [h]; simp [State.modSeq, State.modDeck]⟩

/-- A deck that becomes CLOSED keeps everything but its mode and the ends' machines, visits and reports
(R96, R102). -/
theorem becomeClosed_spec :
    ∃ x v r, becomeClosed d s
      = { s with decks := s.decks.set d { s.deck d with
                    settings := { (s.deck d).settings with mode := .closed, closePending := false } }
                 ends := x, visits := v, reports := r } := by
  unfold becomeClosed closeEnds
  have h := closeEnd_endOnly (d.endAt .one)
    (s.modSettings d fun t => { t with mode := .closed, closePending := false })
  have k := closeEnd_endOnly (d.endAt .two) (closeEnd
    (s.modSettings d fun t => { t with mode := .closed, closePending := false }) (d.endAt .one))
  obtain ⟨m, v, r, h⟩ := h
  obtain ⟨m', v', r', k⟩ := k
  exact ⟨_, v', r', by rw [k, h]; rfl⟩

end Sys2Proof.Machine
end

