-- ==== Sys2Proof/Tests/Slice0.lean ====
section
/-! SUPPORT. The model's own tests, each about one command on a small state: the WellFormed smoke tests,
the manual's worked cases, how a line is read, and for every statement with hypotheses a witness that
meets them. The figures of the worked cases are the manual's. -/

namespace Sys2Proof.Tests

-- The `decide` proofs are checked one after another, so that few threads stand at once.
set_option Elab.async false

open Sys2Proof Sys2Proof.Machine

/-! ### Helpers -/

/-- The state a command leaves. -/
def after (i : Instr) (s : State) : State :=
  match exec i s with
  | .next t => t
  | .fault _ | .refused _ => s

/-- The reply a command leaves, as the link unit sends it. -/
def said (i : Instr) (s : State) : Option String := (after i s).link.reply.map Reply.text

/-- Change deck A. -/
def onA (f : DeckUnit → DeckUnit) (s : State) : State := s.modDeck .a f

/-- The delivered part with its journal scanned and the comparison of R44 made. -/
def ready : State :=
  { State.reset with
    journal := { Journal.delivered with scanDone := true }
    metro := { Metro.delivered with compareDue := false } }

/-- The same in RUN. -/
def running : State := ready.setRun true

/-- A station with its barrier DOWN. -/
def closedEnd : Station := { Station.atReset with driver := { Driver.atReset with state := .down, travel := .stopped } }

/-- In RUN with every barrier DOWN and deck A open both ways. -/
def open_ : State :=
  { running with ends := ⟨closedEnd, closedEnd, closedEnd, closedEnd⟩ }.modSettings .a
    fun t => { t with mode := .both }

/-- Put deck A's sequencer, an end's machine, a driver. -/
def seqA (f : Sequencer → Sequencer) (s : State) : State := s.modSeq .a f
def capA (f : Capture → Capture) (s : State) : State := s.modCapture .a f
def endA1 (f : EndMachine → EndMachine) (s : State) : State := s.modMachine .a1 f
def barA1 (f : Driver → Driver) (s : State) : State := s.modDriver .a1 f

/-- A published status of a stable, valid set. -/
def set_ (a w disp : Int) (occupied empty : Bool) : Published :=
  { sum := a, a := a, w := w, disp := disp, invalid := false, overload := false, underload := false,
    occupied := occupied, empty := empty, stable := true }

/-- A state whose deck A has a latest set. -/
def weighed (p : Published) (s : State) : State := s.modWcu .a fun w => { w with latest := some p }

/-- An empty deck's set. -/
def emptySet : Published := set_ 0 0 0 false true

/-! ### WellFormed refuses ill-formed terms -/

theorem test_wf_powerOn :
    WellFormed (.powerOn ⟨.quiet, some (Config.lastSecond + 1), false⟩) = false := by decide
theorem test_wf_conversion_high : WellFormed (.conversionResult .a .c1 8388608) = false := by decide
theorem test_wf_conversion_low : WellFormed (.conversionResult .b .c4 (-8388609)) = false := by decide
theorem test_wf_read : WellFormed (.readReceived .a1 [.good (Char.ofNat 256)]) = false := by decide
theorem test_wf_line_cr : WellFormed (.lineComplete [⟨'A', none, true⟩, ⟨'\r', none, true⟩]) = false := by decide
theorem test_wf_line_lf : WellFormed (.lineComplete [⟨'\n', none, true⟩]) = false := by decide
theorem test_wf_line_code : WellFormed (.lineComplete [⟨Char.ofNat 300, none, true⟩]) = false := by decide
theorem test_wf_className : WellFormed (.className 3 [Char.ofNat 31]) = false := by decide
theorem test_wf_layoutLine : WellFormed (.layoutLine 0 (some 1) [Char.ofNat 127]) = false := by decide
theorem test_wf_clockSet :
    WellFormed (.clockSet (some ⟨2031, 5, 100, 0, 0, 0⟩)) = false
      ∧ WellFormed (.clockSet (some ⟨10000, 5, 1, 0, 0, 0⟩)) = false := by decide
theorem test_wf_accepts :
    WellFormed (.conversionResult .a .c1 (-8388608)) = true
      ∧ WellFormed (.lineComplete [⟨'\r', none, false⟩, ⟨'~', none, true⟩]) = true
      ∧ WellFormed (.accountQuery (-5)) = true := by decide

/-! ### The manual's worked cases -/

/-- Deck A of chapter 1's first worked case, its four channels delivered. -/
def workedA : State :=
  onA (fun u =>
    let c (n : Int) : Channel := { Channel.fresh with count := n, delivered := true, inSlot := true }
    { u with
      channels := ⟨c 412310, c 398775, c 405002, c 401913⟩
      params := { Params.delivered with span := 411042, z0 := 95800, trims := ⟨16384, 16500, 16300, 16384⟩ }
      wcu := { Wcu.delivered with
        zero := 96212, filterLen := 4, stabLen := 4
        filterWin := [1618751, 1618739, 1618751], stabWin := [37296, 37304, 37299] } }) ready

/-- The latest set of deck A after its slot end. -/
def latestA (s : State) : Option Published := ((after (.slotEnd .a) s).deck .a).wcu.latest

/-- Chapter 1, one set of Deck A. -/
theorem test_worked_set :
    latestA workedA = some
      { sum := 1618747, a := 1618747, w := 37302, disp := 37300, invalid := false, overload := false,
        underload := false, occupied := true, empty := false, stable := true } := by decide

theorem test_worked_weight_query :
    said (.deckWeightQuery .a) (after (.slotEnd .a) workedA) = some "OK 37300 STABLE OCCUPIED" := by
  decide

/-- Deck B of chapter 1's refill case, at its second set. -/
def refillB : State :=
  ready.modDeck .b fun u =>
    { u with
      channels := ⟨{ Channel.fresh with inForce := false },
        { Channel.fresh with count := 1006, delivered := true, inSlot := true },
        { Channel.fresh with inForce := false }, { Channel.fresh with inForce := false }⟩
      params := { Params.delivered with interval := 10, cells := ⟨false, true, false, false⟩ }
      wcu := { Wcu.delivered with filterLen := 4, stabLen := 2, filterWin := [1003], stabWin := [1003] } }

/-- Chapter 1, refill after a restart, set 2: a tie of the filter goes away from zero. -/
theorem test_worked_refill :
    (((after (.slotEnd .b) refillB).deck .b).wcu.latest.map fun p => (p.a, p.disp, p.stable))
      = some (1005, 1010, true) := by decide

/-- Chapter 1, tracking a small negative weight: the set shows -20 and Z becomes 95,804. -/
def mudA : State :=
  onA (fun u =>
    let c (n : Int) : Channel := { Channel.fresh with count := n, delivered := true, inSlot := true }
    { u with
      channels := ⟨c 95804, c 0, c 0, c 0⟩
      params := { Params.delivered with span := 411042, z0 := 95800 }
      wcu := { Wcu.delivered with zero := 96212, filterLen := 1, stabLen := 2, stabWin := [-10] } }) ready

theorem test_worked_tracking :
    ((latestA mudA).map fun p => (p.w, p.disp)) = some (-10, -20)
      ∧ ((after (.slotEnd .a) mudA).deck .a).wcu.zero = 95804 := by decide

/-- Chapter 1, a cell lost and recovered: the sixteenth good conversion ends the condition. -/
theorem test_worked_recovery :
    let s := ready.setChannel .b .c3 { Channel.fresh with condition := true, goodRun := 15, age := 5 }
    (((after (.conversionResult .b .c3 251440) s).deck .b).channels.c3.condition) = false := by decide

/-- Chapter 3: CAL A SPAN 20000 on A = 912,126 over Z0 = 95,800 gives K = 411,042. -/
def spanA : State :=
  weighed (set_ 912126 20000 20000 true false)
    (onA (fun u => { u with params := { Params.delivered with z0 := 95800, span := 411040 } })
      { ready with metro := { ready.metro with switchOn := true, lock := true } })

theorem test_worked_span : said (.calSpan .a (some 20000)) spanA = some "OK 411042" := by decide

/-- Chapter 4, a reversal at the departure barrier: the loop becomes occupied while A2 lowers. -/
theorem test_worked_reversal :
    let s := ready.modDriver .a2 fun b => { b with mode := .pulse, travelTime := 6 }
    let b := (after (.safetyOccupied .a2) s).driver .a2
    b.state = .raising ∧ b.pending = .lower ∧ b.raiseOut = true ∧ b.travel = .running 6 := by decide

/-- Chapter 4, a barrier lifted by hand. -/
theorem test_worked_lifted :
    let s := open_.modStation .b1 fun t =>
      { t with
        lines := { EndReadings.quiet with down := true }
        driver := { t.driver with mode := .confirmed, state := .down } }
    let t := after (.feedbackChange .b1 .down false) s
    (t.driver .b1).state = .fault ∧ (t.driver .b1).cause = .left
      ∧ (t.faults.get (.bar .b1)).state = .active := by decide

/-- Chapter 5, T3 fails the funds check: -40,000 + 50,000 is below 15,000. -/
def yard : State :=
  { open_ with
    accounts := [⟨1204, 412000, 50000, .open, [3, 4], 0⟩, ⟨3001, -40000, 50000, .open, [9], 0⟩]
    classes := (State.reset.classes.set 3 { WasteClass.delivered [] with minimum := 2500 }).set 9
      { WasteClass.delivered [] with minimum := 15000 }
    visits := { table := [], next := 7731, overstay := 12 }
    admission :=
      { entries := [⟨0x00A1F3C2FF, 0xFFFFFFFFFF, .refuse, 0, 0, false⟩,
                    ⟨0x00A1F30000, 0xFFFFFF0000, .allow, 1204, 3, false⟩,
                    ⟨0x3C00000000, 0xFF00000000, .allow, 3001, 9, false⟩]
                   ++ List.replicate 29 .empty
        policy := .refer } }

/-- The yard with A1 identifying. -/
def identifying : State :=
  endA1 (fun m => { m with state := .identifying, movement := some .inbound, clearTimer := .stopped
                           idTimer := .running 10 }) yard

theorem test_worked_admission :
    said (.endPresent .a1 (some 0x00A1F3C207)) identifying = some "OK READY NONE"
      ∧ (((after (.endPresent .a1 (some 0x00A1F3C207)) identifying).machine .a1).visit) = some 7731
      ∧ said (.endPresent .a1 (some 0x3C00220B15)) identifying = some "OK REFERRED FUNDS" := by
  decide

/-- The visit of chapter 7's settlement. -/
def v7760 : Visit :=
  { number := 7760, tag := 0x00B7720915, account := 2017, cls := 3, kind := .twoPass,
    state := .leaving, holder := .deck .a, opened := 0, manual := false, note := .none,
    first := some ⟨37300, 30402, .a, 7, false⟩, tare := none, overstay := false }

/-- Chapter 7's office. -/
def office : State :=
  { open_ with
    accounts := [⟨2017, 1000000, 100000, .open, [3], 0⟩]
    classes := State.reset.classes.set 3
      { WasteClass.delivered "MIXED HH".toList with inRate := 9650, minimum := 2500, updateTare := true }
    visits := { table := [v7760], next := 7761, overstay := 12 }
    journal := { ready.journal with nextSeq := 30456 } }

/-- Chapter 7: 37,300 in and 14,180 out on Deck A; on Deck B, 14,170 makes a tie of the charge. -/
theorem test_worked_settlement :
    let c := settleTwoPass office v7760 ⟨37300, 30402, .a, 7, false⟩ ⟨14180, 30455, .a, 7, false⟩
    let b := settleTwoPass office v7760 ⟨37300, 30402, .a, 7, false⟩ ⟨14170, 30455, .b, 7, false⟩
    (c.net, c.dir, c.charge, c.balanceAfter, c.tareUpdate) = (23120, .inward, 223108, 776892, some (14180, 7))
      ∧ c.flags.names = [] ∧ (b.charge, b.balanceAfter) = (223205, 776795)
      ∧ b.flags.names = ["DECK_CHANGE"] := by decide

/-- Chapter 7, the vehicle returns once: 36,820 over a tare of 14,180; 14,500 fails the one-pass test. -/
theorem test_worked_onePass :
    (settleOnePass office v7760 ⟨14180, .weighed, 0, 7⟩ ⟨36820, 1, .a, 7, false⟩).charge = 218476
      ∧ onePassHolds 36820 14180 20 = true ∧ onePassHolds 14500 14180 20 = false := by decide

/-- Chapter 8, the arbiter with a preferred deck, its grants in order. -/
def queueOf (pending : List Requester) (last : Requester) : Journal :=
  { ready.journal with
    prefer := .deckB, lastGranted := last
    pending := pending.map fun r => { requester := r, deck := none, body := .clock 0, attempt := 1 } }

theorem test_worked_arbiter :
    let who (p : List Requester) (last : Requester) : Option Requester :=
      (queueOf p last).choice.map (·.requester)
    who [.capture .a, .metrology, .link] (.settle .a) = some .metrology
      ∧ who [.capture .a, .settle .a, .capture .b, .link] .metrology = some (.capture .b)
      ∧ who [.capture .a, .settle .a, .link] (.capture .b) = some (.settle .a)
      ∧ who [.capture .a, .link] (.settle .a) = some .link
      ∧ who [.capture .a] .link = some (.capture .a) := by decide

/-- The job of chapter 9's ticket. -/
def job30456 : Job :=
  { seq := 30456, layout := 0, copy := false, stamp := ⟨989836927, some .a, 7, false⟩,
    values := settleTwoPass office v7760 ⟨37300, 30402, .a, 7, false⟩ ⟨14180, 30455, .a, 7, false⟩ }

/-- Chapter 9, the ticket of visit 7,760, line by line. -/
theorem test_worked_ticket :
    (deliveredLayout.take 11).map (fun l => String.ofList (expandLine "MIXED HH".toList job30456 l))
      = ["WEIGHBRIDGE TICKET     ", "TICKET      30456  VISIT   7760", "DATE 2031-05-14  TIME 10:42:07",
         "VEHICLE 00B7720915  ACCOUNT   2017", "CLASS MIXED HH    ", "FIRST  KG   37300",
         "SECOND KG   14180", "NET    KG   23120", "CHARGE        223108", "BALANCE        776892",
         "FLAGS .......  CAL     7"] := by decide

theorem test_worked_ticket_widths :
    (deliveredLayout.take 11).map printedWidth = [23, 31, 30, 34, 18, 17, 17, 17, 20, 21, 24] := by decide

/-! ### Reading lines (section 10.3) -/

theorem test_line_weight : readLine "dec a wei?".toList = .command (.deckWeightQuery .a) := by rfl
theorem test_line_purge : readLine "jou pur 2".toList = .command (.journalPurge (some 2)) := by rfl
theorem test_line_wrong_keyword : readLine "deck a sta 3 4".toList = .wrong .syntaxError := by rfl
theorem test_line_wrong_deck : readLine "DECK C ZERO".toList = .wrong .param := by rfl
theorem test_line_visit : readLine "VISIT 12 ?".toList = .command (.visitQuery 12) := by rfl
theorem test_line_fault :
    readLine "FAULT CELL-A3?".toList = .command (.faultSourceQuery (some (.cell .a .c3))) := by rfl

theorem test_line_layout_query : readLine "LAYOUT 2 LINE ?".toList = .wrong .syntaxError := by rfl
theorem test_line_layout_text :
    readLine "layout 2 line 24 Net ~N?".toList = .command (.layoutLine 2 (some 24) "Net ~N?".toList) := by rfl
theorem test_line_class_name :
    readLine "CLASS 3 NAME Clean  Fill".toList = .command (.className 3 " Clean  Fill".toList) := by rfl
theorem test_line_clock : readLine "CLO SET 2031-05-09 06:30:00".toList
    = .command (.clockSet (some ⟨2031, 5, 9, 6, 30, 0⟩)) := by rfl

/-! ### Power-on -/

/-- The delivered part, powered on over quiet lines, is the state after reset. -/
theorem test_powerOn_delivered :
    exec (.powerOn ⟨.quiet, some 0, false⟩)
      { State.reset with reports := { State.reset.reports with queue := [], next := 1 } }
      = .next State.reset := by rfl

/-! ### Witnesses: the hypotheses of each statement are met together -/

/-- A state that answers a command. -/
def ran (i : Instr) (s : State) : Prop := ∃ t, exec i s = .next t

/-- A request of the capture logic on deck A. -/
def request : CaptureRequest := { role := .first, tag := 1, visit := 1, cls := 0 }

/-- A capture logic that waits with a grant due. -/
def granting (k n : Nat) : State :=
  capA (fun c => { c with state := .waiting, request := some request, stage := k, stageCount := n
                          grantDue := some 21460, blocking := some .append })
    (seqA (fun q => { q with state := .weighing }) open_)

/-- Chapter 1. RUN and SETUP; settings that change and that stay; a boundary of each range. -/
theorem witness_WeighingSettingsAndQueries :
    running.part.run = true ∧ ready.part.run = false
      ∧ (SetArg.num 39).stepped [10, 20, 40, 80] 10 80 20 = ready.part.scanRate
      ∧ (SetArg.num 40).stepped [10, 20, 40, 80] 10 80 20 ≠ ready.part.scanRate
      ∧ (SetArg.num 15).stepped [1, 2, 4, 8, 16, 32] 1 32 8 = (ready.deck .a).wcu.filterLen
      ∧ (SetArg.num 16).stepped [1, 2, 4, 8, 16, 32] 1 32 8 ≠ (ready.deck .a).wcu.filterLen
      ∧ (SetArg.dflt.value 2 64 8 = (ready.deck .a).wcu.stabLen ∧ SetArg.min.value 1 5 1 = (ready.deck .a).wcu.band)
      ∧ (SetArg.num 64).value 2 64 8 ≠ (ready.deck .a).wcu.stabLen := by decide

/-- A restart over a capture logic that waits for a set, and over one with a grant due (log entry 10). -/
theorem witness_WeighingSettingsAndQueries_restart :
    let s := capA (fun c => { c with grantDue := none, blocking := some .light }) (granting 1 1)
    (s.deck .a).capture.state = .waiting ∧ (s.deck .a).capture.orphan = false
      ∧ ((restartWindows .a s).deck .a).capture.blocking = some .noset
      ∧ ((restartWindows .a (granting 1 1)).deck .a).capture.blocking = some .append
      ∧ ((restartWindows .a (capA (fun c => { c with blocking := some .next }) s)).deck .a).capture.blocking
          = some .next := by decide

/-- Every branch of R23's table; the zero at exactly 0.02 × Max, and one step beyond it. -/
theorem witness_OperatorZeroIsJudgedInOrder :
    (weighed emptySet { ready with metro := { ready.metro with switchOn := true } }).metro.switchOn = true
      ∧ ((seqA (fun q => { q with state := .entering }) ready).deck .a).seq.state ≠ .idle
      ∧ (ready.deck .a).wcu.latest = none
      ∧ said (.deckZero .a) (weighed { emptySet with stable := false } ready) = some "ER 22 REFUSED UNSTABLE"
      ∧ said (.deckZero .a) (weighed (set_ 1200 1200 1200 true false) ready) = some "OK 1200"
      ∧ said (.deckZero .a) (weighed (set_ 1201 1201 1200 true false) ready) = some "ER 22 REFUSED RANGE" := by
  decide

/-- R23: STABLE is clear after a zero, so that a second one is refused. -/
theorem test_zero_clears_stable :
    said (.deckZero .a) (after (.deckZero .a) (weighed emptySet ready)) = some "ER 22 REFUSED UNSTABLE"
      ∧ said (.deckWeightQuery .a) (after (.deckZero .a) (weighed emptySet ready)) = some "OK 0 EMPTY" := by
  decide

/-- A channel of deck A. -/
def chanA (c : Channel) (s : State) : State := s.setChannel .a .c1 c

/-- Each clause of R3 at the edge of its range. -/
theorem witness_ConversionResultUpdatesChannel :
    let c (s : State) : Channel := (s.deck .a).channels.get .c1
    let bad (n : Nat) : Channel := { Channel.fresh with condition := true, goodRun := n }
    (c (chanA { Channel.fresh with inForce := false } ready)).inForce = false
      ∧ (c ready).inForce = true ∧ (c ready).resignal = false ∧ (c ready).condition = false
      ∧ Int.natAbs (-8379999) < 8380000 ∧ 8380000 ≤ Int.natAbs (-8380000)
      ∧ (c (chanA (bad 14) ready)).goodRun < 15 ∧ (c (chanA (bad 15) ready)).goodRun = 15
      ∧ (c (chanA (bad 15) ready)).condition = true
      ∧ (c (chanA { bad 3 with resignal := true } ready)).resignal = true
      ∧ ran (.conversionResult .a .c1 0) (chanA { bad 3 with resignal := false } ready) :=
  ⟨by decide, by decide, by decide, by decide, by decide, by decide, by decide, by decide, by decide,
    by decide, _, rfl⟩

/-- The worked set's deck is healthy. -/
theorem witness_SlotEndPublishesSet : ∀ ch : Chan,
    let c := (workedA.deck .a).channels.get ch
    c.inForce = (workedA.deck .a).params.cells.get ch ∧ c.inSlot = c.inForce
      ∧ c.delivered = c.inForce ∧ c.age = 0 ∧ c.resignal = false := by
  intro ch; cases ch <;> decide

/-- The worked set in RUN with both barriers DOWN; its capture logic waits at a stage, with stages. -/
def judged (k n : Nat) (max : Nat) : State :=
  capA (fun c => { c with state := .waiting, request := some request, stage := k, stageCount := n
                          stages := if k = 1 then [] else [{ value := 21460, seq := some 4 }] })
    (onA (fun u => { u with params := { u.params with max := max } })
      { open_ with decks := (open_.decks.set .a { workedA.deck .a with
          seq := { (workedA.deck .a).seq with state := .weighing }
          settings := (open_.deck .a).settings }) })

/-- R29 at a slot end: granted at D = Max, turned away one interval beyond it, and for want of motion at a
second stage; R32: the motion an unstable set shows; R108: the not-clear test. -/
theorem witness_SlotEndPublishesSet_judged :
    let c (s : State) : Capture := ((after (.slotEnd .a) s).deck .a).capture
    let idle := { open_ with decks := open_.decks.set .a { workedA.deck .a with
      settings := (open_.deck .a).settings } }
    let mark := onA (fun u => { u with notClear := true }) idle
    let moved := onA (fun u => { u with wcu := { u.wcu with stabWin := [0, 0, 0] } }) (judged 2 2 60000)
    ((c (judged 1 1 37300)).grantDue = some 37300 ∧ (c (judged 1 1 37300)).blocking = some .append)
      ∧ ((c (judged 1 1 37280)).grantDue = none ∧ (c (judged 1 1 37280)).blocking = some .heavy)
      ∧ ((c (judged 2 2 60000)).blocking = some .motion ∧ (c (judged 2 2 60000)).motion = false)
      ∧ ((c moved).motion = true ∧ (c moved).blocking = some .unstable)
      ∧ ((idle.deck .a).notClear = false ∧ ((after (.slotEnd .a) idle).deck .a).notClear = true
          ∧ (after (.slotEnd .a) idle).reports.queue.length = idle.reports.queue.length + 1)
      ∧ (after (.slotEnd .a) mark).reports = mark.reports := by decide

/-- A channel that has not delivered, at age 0 and at age 3. -/
theorem witness_SlotEndAgesChannel :
    let old := chanA { Channel.fresh with age := 3 } ready
    let c := (old.deck .a).channels.get .c1
    (c.inForce = true ∧ (old.deck .a).params.cells.get .c1 = true ∧ c.inSlot = false
        ∧ c.resignal = false ∧ c.condition = false ∧ c.age = 3
        ∧ (old.faults.get (.cell .a .c1)).state ≠ .active)
      ∧ ran (.slotEnd .a) old ∧ ((ready.deck .a).channels.get .c1).age = 0 ∧ ran (.slotEnd .a) ready :=
  ⟨by decide, ⟨_, rfl⟩, by decide, _, rfl⟩

/-- R6, R7, R5: a set that waits for channel 1 at age 2 and completes INVALID at age 4; and a channel that
is enabled, and one that is disabled, at a slot end. -/
theorem witness_SlotEndAgesChannel_sets :
    let c1 (n : Nat) (s : State) : State :=
      s.setChannel .a .c1 { (s.deck .a).channels.c1 with delivered := false, inSlot := false, age := n }
    let t (s : State) : DeckUnit := (after (.slotEnd .a) s).deck .a
    let cells (b : Bool) (s : State) : State :=
      onA (fun u => { u with params := { u.params with cells := ⟨b, true, true, true⟩ } }) s
    let off := (cells true workedA).setChannel .a .c1 { Channel.fresh with inForce := false, count := 9 }
    let cond := workedA.setChannel .a .c1 { (workedA.deck .a).channels.c1 with condition := true }
    let turnedOff := cells false (cond.setFault (.cell .a .c1) ⟨.active, false, 5, 1⟩)
    (∀ ch : Chan, (((c1 2 workedA).deck .a).channels.get ch).resignal = false)
      ∧ ((t (c1 2 workedA)).wcu = (workedA.deck .a).wcu ∧ (t (c1 2 workedA)).channels.c2.delivered = true)
      ∧ ((t (c1 3 workedA)).channels.c1.age = 4 ∧ ((t (c1 3 workedA)).wcu.latest.map (·.invalid)) = some true)
      ∧ ((t off).channels.c1.inForce = true ∧ (t off).wcu.latest = none)
      ∧ ((t turnedOff).channels.c1.condition = false
          ∧ ((t turnedOff).wcu.latest.map fun q => (q.sum == (t turnedOff).wcu.filterWin.sum)) = some true
          ∧ ((after (.slotEnd .a) turnedOff).faults.get (.cell .a .c1)).state = .latched) := by
  refine ⟨fun ch => by cases ch <;> decide, by decide, by decide, by decide, by decide⟩

theorem witness_SettingsClampAndRoundingsTakeNearest :
    ((5 : Nat) ≤ 600 ∧ (4 : Int) < (5 : Nat) ∧ ((5 : Nat) : Int) ≤ 5 ∧ (600 : Int) ≤ (600 : Nat) ∧ ((600 : Nat) : Int) < 601)
      ∧ [10, 20, 40, 80].Pairwise (· < ·) ∧ 10 ∈ [10, 20, 40, 80] ∧ (∀ v ∈ [10, 20, 40, 80], 10 ≤ v)
      ∧ (0 < 2 ∧ (2 * (rna 2009 2 * 2 - 2009)).natAbs = 2) := by decide

/-! #### Chapters 2 and 3 -/

theorem witness_CaptureGrantsFollowTheTable :
    let c (s : State) : Capture := (s.deck .a).capture
    let loaded := weighed (set_ 21460 21460 21460 true false) (capA (fun c => { c with grantDue := none }) (granting 1 1))
    (c ready).grantDue = none
      ∧ ((c (granting 1 2)).grantDue = some 21460 ∧ (c (granting 1 2)).request = some request
          ∧ (c (granting 1 2)).state = .waiting ∧ (c (granting 1 2)).stage < (c (granting 1 2)).stageCount)
      ∧ (¬ (c (granting 1 1)).stage < (c (granting 1 1)).stageCount ∧ (c (granting 1 1)).stageCount = 1)
      ∧ (¬ (c (granting 2 2)).stage < (c (granting 2 2)).stageCount ∧ (c (granting 2 2)).stageCount ≠ 1)
      ∧ blockingOf loaded .a (set_ 21460 21460 21460 true false) = none
      ∧ blockingOf loaded .a (set_ 400 400 400 true false) = none
      ∧ blockingOf loaded .a (set_ 380 380 380 false false) = some .light
      ∧ blockingOf loaded .a (set_ 60000 60000 60000 true false) = none
      ∧ blockingOf loaded .a (set_ 60020 60020 60020 true false) = some .heavy
      ∧ blockingOf ready .a (set_ 400 400 400 true false) = some .barrier := by decide

/-- R29's other words, each with the conditions before it met. -/
theorem witness_CaptureGrantsFollowTheTable_words :
    let p := set_ 21460 21460 21460 true false
    let at_ (k n : Nat) (f : Capture → Capture) : State :=
      capA (fun c => f { c with stages := [{ value := 21260, seq := some 4 }], motion := true }) (granting k n)
    let beam (s : State) : State := s.modDeckLines .a fun l => { l with beam2 := true }
    let low := { granting 1 1 with metro := { (granting 1 1).metro with switchOn := true } }
    blockingOf low .a p = some .oos
      ∧ blockingOf (granting 1 1) .a { p with invalid := true } = some .invalid
      ∧ blockingOf (granting 1 1) .a { p with overload := true } = some .overload
      ∧ blockingOf (granting 1 1) .a { p with underload := true } = some .underload
      ∧ blockingOf (granting 1 1) .a { p with stable := false } = some .unstable
      ∧ blockingOf (at_ 2 2 fun c => { c with motion := false }) .a p = some .motion
      ∧ blockingOf (at_ 2 2 id) .a { p with disp := 21440 } = some .diff
      ∧ blockingOf (at_ 2 2 id) .a p = none
      ∧ blockingOf (beam (at_ 2 2 id)) .a p = some .beam ∧ blockingOf (beam (at_ 2 3 id)) .a p = none
      ∧ blockingOf (at_ 3 3 fun c => { c with stages := [⟨60000, none⟩, ⟨60000, none⟩] }) .a
          { p with disp := 60000 } = some .diff
      ∧ blockingOf (at_ 3 3 fun c => { c with stages := [⟨90000, none⟩, ⟨50000, none⟩] }) .a
          { p with disp := 40000 } = none
      ∧ blockingOf (at_ 3 3 fun c => { c with stages := [⟨90000, none⟩, ⟨50000, none⟩] }) .a
          { p with disp := 40020 } = some .total := by decide

theorem witness_CaptureCommandsAct :
    running.part.run = true ∧ ready.part.run = false ∧ (ready.deck .a).capture.state = .idle
      ∧ ((granting 1 1).deck .a).capture.state ≠ .idle := by decide

theorem witness_CalSwitchEvents :
    let m (due on : Bool) : State := { ready with metro := { ready.metro with compareDue := due, switchOn := on } }
    let changed : State :=
      { m false true with
        metro := { (m false true).metro with changed := ⟨{ ChangedFlags.none with k := true }, .none⟩ } }
    ((m false false).metro.compareDue = false ∧ (m false false).metro.switchOn = false)
      ∧ ((m false true).metro.compareDue = false ∧ (m false true).metro.switchOn = true)
      ∧ ((m true false).metro.compareDue = true ∧ (m true true).metro.switchOn = true)
      ∧ changed.metro.changed.a.names = [.k] ∧ (m false true).metro.changed.a.names = []
      ∧ (after .calSwitchOff changed).metro.count = 1 ∧ (after .calSwitchOff (m false true)).metro.count = 0 := by
  decide

/-- R55: a record formed with none in progress, with one in progress, and with one that waits. -/
theorem witness_CalSwitchEvents_records :
    let c (x y : List ParamName) : CalibBody := { cause := .switch, names := ⟨x, y⟩ }
    let m (p w : Option CalibBody) : State := { ready with metro := { ready.metro with inProgress := p, waiting := w } }
    (formCalib (c [.k] []) (m none none)).metro.inProgress = some (c [.k] [])
      ∧ (formCalib (c [.k] []) (m (some (c [.e] [])) none)).metro.waiting = some (c [.k] [])
      ∧ (formCalib (c [.k] [.max]) (m (some (c [.e] [])) (some (c [.z0, .e] [])))).metro.waiting
          = some (c [.e, .k, .z0] [.max]) := by decide

theorem witness_CalibrationAccessIsJudgedFirst :
    let s : State := { running with metro := { running.metro with lock := true } }
    (s.metro.switchOn = false ∧ s.metro.lock = true)
      ∧ (running.metro.switchOn = false ∧ running.metro.lock = false ∧ running.part.run = true) := by decide

/-- Both ways past R46's access, and every clause's operands at a boundary. -/
theorem witness_CalibrationWrites :
    (ready.metro.switchOn = true ∨ (ready.metro.lock = false ∧ ready.part.run = false))
      ∧ (spanA.metro.switchOn = true ∧ spanA.metro.lock = true)
      ∧ said (.calMax .a (some 1000)) ready = some "OK 1000 CONSISTENT"
      ∧ said (.calMax .a (some 150000)) ready = some "OK 150000 CONSISTENT"
      ∧ said (.calMax .a (some 150001)) ready = some "ER 11 PARAM"
      ∧ said (.calInterval .a (some 5)) ready = some "OK 5 INCONSISTENT"
      ∧ said (.calTrim .a (some (4, 8192))) ready = some "OK 16384 16384 16384 8192"
      ∧ said (.calTrim .a (some (4, 8191))) ready = some "ER 11 PARAM"
      ∧ (cellsOf [4, 1]).isSome = true ∧ said (.calCells .a (some [4, 1])) ready = some "OK 1 4"
      ∧ said (.calK .a (some 2147483647)) ready = some "OK 2147483647"
      ∧ said (.calZ0 .a (some (-50331648))) ready = some "OK -50331648"
      ∧ said (.calZero .a) ready = some "ER 22 REFUSED UNSTABLE"
      ∧ said (.calZero .a) spanA = some "OK 912126"
      ∧ said (.calSpan .a (some 399)) spanA = some "ER 11 PARAM"
      ∧ said (.calSpan .a (some 400)) spanA = some "OK 8221"
      ∧ said (.calSpan .a (some 400)) (weighed (set_ 95800 0 0 false true) spanA) = some "ER 22 REFUSED NOLOAD"
      ∧ said (.calSpan .a (some 400)) (weighed (set_ 95801 0 0 false true) spanA) = some "ER 22 REFUSED RANGE" := by
  decide

theorem witness_VerificationLockAndQueries :
    said .metroLock ready = some "OK 0" ∧ said .metroLock running = some "ER 12 STATE"
      ∧ said .metroLock spanA = some "ER 14 LOCKED"
      ∧ said .metroLock { after .metroLock ready with metro := { (after .metroLock ready).metro with lock := false } }
        = some "ER 13 BUSY" := by decide

theorem witness_LockHoldsAndCountNeverFalls :
    let s : State := { running with metro := { running.metro with lock := true } }
    s.metro.lock = true ∧ s.metro.switchOn = false ∧ s.metro.count ≤ 65535 ∧ ran (.calK .a (some 1)) s :=
  ⟨by decide, by decide, by decide, _, rfl⟩

/-! #### Chapters 4 to 6 -/

/-- Deck A's end A1 with a driver in a state and mode, over given readings. -/
def bar (st : BarrierState) (m : DriveMode) (l : EndReadings) (f : Driver → Driver := id) : State :=
  open_.modStation .a1 fun t =>
    { t with lines := l, driver := f { t.driver with state := st, mode := m, travel := .running 8 } }

/-- Quiet readings but for some. -/
def lines_ (safety loopfault up down : Bool) : EndReadings := ⟨false, safety, loopfault, up, down⟩

theorem witness_SafetyLoopEvents :
    let low := bar .lowering .hold .quiet
    let flt := bar .fault .confirmed (lines_ false false false true)
    (low.safetyOcc .a1 = false ∧ (low.driver .a1).state = .lowering ∧ (low.driver .a1).mode ≠ .confirmed)
      ∧ (flt.safetyOcc .a1 = false ∧ (flt.driver .a1).state = .fault ∧ (flt.driver .a1).commanded = .down)
      ∧ (open_.driver .a1).state = .down
      ∧ ((bar .up .hold (lines_ true true false false)).station .a1).lines.loopfault = true
      ∧ (open_.station .a1).lines.loopfault = false
      ∧ ((after (.safetyOccupied .a1) low).driver .a1).state = .raising
      ∧ ((after (.safetyOccupied .a1) flt).driver .a1).raiseOut = true := by decide

/-- R109, R111: the loop at the passage end, becoming occupied and clear, and one that is none. -/
theorem witness_SafetyLoopEvents_passage :
    let t := seqA (fun q => { q with state := .entering, approach := some .a1, tailgate := .running 20 }) open_
    let occ := t.modLines .a1 fun l => { l with safety := true, loopfault := false }
    (((after (.safetyOccupied .a1) t).deck .a).seq.passageMark = true
        ∧ ((after (.safetyOccupied .a1) t).deck .a).seq.tailgate = .running 20)
      ∧ (occ.safetyOcc .a1 = true ∧ ((after (.safetyClear .a1) occ).deck .a).seq.tailgate = .stopped)
      ∧ (after (.safetyOccupied .a2) t).decks = t.decks := by decide

theorem witness_BarrierTravelAndPendingRequests :
    let d (s : State) : Driver := s.driver .a1
    let l (s : State) : EndReadings := (s.station .a1).lines
    let pend (st : BarrierState) (p : PendingMove) : State := bar st .hold .quiet fun b => { b with pending := p }
    ((d open_).travel.isRunning = false)
      ∧ ((d (bar .raising .hold .quiet)).travel.isRunning = true ∧ (d (bar .raising .hold .quiet)).state = .raising)
      ∧ ((d (bar .lowering .pulse .quiet)).state = .lowering ∧ (d (bar .lowering .pulse .quiet)).mode ≠ .confirmed)
      ∧ ((d (bar .raising .confirmed .quiet)).mode = .confirmed ∧ (d (bar .lowering .confirmed .quiet)).mode = .confirmed)
      ∧ ((l (bar .up .confirmed (lines_ false false true true))).up = true
          ∧ (l (bar .up .confirmed (lines_ false false true true))).down = true)
      ∧ ((l (bar .down .confirmed (lines_ false false false true))).down = true
          ∧ (l (bar .down .confirmed (lines_ false false false true))).up = false)
      ∧ (l (bar .down .confirmed .quiet)).down = false ∧ (l (bar .up .confirmed .quiet)).up = false
      ∧ ((d (pend .down .raise)).pending = .raise ∧ (d (pend .down .raise)).state = .down
          ∧ ((pend .down .raise).driver EndId.a1.other).state = .down)
      ∧ ((d (pend .up .lower)).pending = .lower ∧ (pend .up .lower).safetyOcc .a1 = false
          ∧ (d (pend .up .lower)).state = .up)
      ∧ (d (pend .down .none)).pending ≠ .raise ∧ (d (pend .down .none)).pending ≠ .lower := by decide

/-- R73: feedback in FAULT that agrees with the commanded position, and that does not. -/
theorem witness_BarrierTravelAndPendingRequests_inFault :
    let f (cond up : Bool) : State :=
      (bar .fault .confirmed (lines_ false false up true) fun b =>
        { b with commanded := .down, condition := cond }).setFault (.bar .a1) ⟨.active, false, 5, 1⟩
    let c (s : State) (inp : FeedbackInput) (v : Bool) : Bool × EntryState :=
      let t := after (.feedbackChange .a1 inp v) s
      ((t.driver .a1).condition, (t.faults.get (.bar .a1)).state)
    c (f true true) .up false = (false, .latched)
      ∧ c (f false false) .up true = (true, .active) ∧ ((after (.feedbackChange .a1 .up true) (f false false)).faults.get
        (.bar .a1)).count = 2
      ∧ c (f false true) .up false = (false, .active) ∧ c (f true false) .down false = (true, .active) := by
  decide

theorem witness_RaiseLeavesOtherBarrierDown :
    let s := bar .down .hold .quiet fun b => { b with pending := .raise }
    s.link.resetAsked = false ∧ exec (.pendingRaise .a1) s = .next (after (.pendingRaise .a1) s)
      ∧ (s.driver .a1).state = .down ∧ ((after (.pendingRaise .a1) s).driver .a1).state = .raising :=
  ⟨by decide, rfl, by decide, by decide⟩

/-- A closed deck in RUN with its end A1 in a state. -/
def manual (st : BarrierState) (safety : Bool) (p : PendingMove := .none) : State :=
  (bar st .hold (lines_ safety false false false) fun b => { b with pending := p }).modSettings .a
    fun t => { t with mode := .closed }

theorem witness_BarrierCommandsAndPolarity :
    ((manual .down false).part.run = true ∧ ((manual .down false).deck .a).settings.mode = .closed
        ∧ ((manual .down false).driver .a1).state ≠ .fault ∧ ((manual .down false).driver EndId.a1.other).state = .down)
      ∧ said (.barrierRaise .a1) (manual .down false) = some "OK RAISING"
      ∧ said (.barrierRaise .a1) (manual .lowering false) = some "OK RAISING"
      ∧ said (.barrierRaise .a1) (manual .up false) = some "OK UP"
      ∧ said (.barrierRaise .a1) (manual .fault false) = some "ER 12 STATE"
      ∧ said (.barrierLower .a1) (manual .lowering false) = some "OK LOWERING"
      ∧ said (.barrierLower .a1) (manual .up true) = some "OK UP PENDING"
      ∧ said (.barrierLower .a1) (manual .up false) = some "OK LOWERING"
      ∧ said (.barrierLower .a1) (manual .down false .raise) = some "OK DOWN"
      ∧ (ready.part.run = false ∧ (ready.driver .a1).state = .lowering)
      ∧ said (.barrierMode .a1 (some .pulse)) ready = some "ER 13 BUSY"
      ∧ said (.barrierMode .a1 (some .pulse)) ((manual .down false).setRun false) = some "OK"
      ∧ (((manual .down false).station .a1).polarity.get .safety ≠ .low
          ∧ ((manual .down false).station .a1).lines.safety = false)
      ∧ ((after (.endPolarity .a1 (some (.safety, .low))) ready).driver .a1).state = .raising := by decide

/-- R62, R73: a change of mode in FAULT, and a change to CONFIRMED over feedback that does not show DOWN. -/
theorem witness_BarrierCommandsAndPolarity_modes :
    let f (st : BarrierState) (m : DriveMode) (l : EndReadings) (cond : Bool) : State :=
      (bar st m l fun b => { b with commanded := .down, condition := cond }).setRun false
    let t (s : State) (m : DriveMode) : Driver := (after (.barrierMode .a1 (some m)) s).driver .a1
    let up := lines_ false false true false
    ((t (f .fault .confirmed up true) .hold).condition = false
        ∧ (t (f .fault .hold up false) .confirmed).condition = true
        ∧ (t (f .fault .hold (lines_ false false false true) false) .confirmed).condition = false)
      ∧ ((t (f .down .hold up false) .confirmed).state = .fault
          ∧ (t (f .down .hold up false) .confirmed).commanded = .down
          ∧ (t (f .down .hold (lines_ true false false false) false) .confirmed).commanded = .up
          ∧ (t (f .down .hold (lines_ false false false true) false) .confirmed).state = .down) := by decide

/-- A1 with its approach loop occupied and its machine in a state. -/
def atA1 (st : EndState) (f : EndMachine → EndMachine := id) : State :=
  (endA1 (fun m => f { m with state := st, movement := some .inbound, clearTimer := .stopped }) yard).modLines
    .a1 fun l => { l with approach := true }

theorem witness_ApproachLoopEvents :
    ((open_.station .a1).lines.approach = false ∧ open_.part.run = true ∧ (open_.machine .a1).state = .idle
        ∧ open_.isApproach .a1 = true ∧ (open_.machine .a1).heldRead = none ∧ (open_.machine .a1).conflict = false)
      ∧ ((atA1 .held).station .a1).lines.approach = true
      ∧ (running.isApproach .a1 = false ∧ ready.part.run = false)
      ∧ (let s := endA1 (fun m => { m with conflict := true, heldRead := some 5 }) open_
         (s.machine .a1).conflict = true ∧ s.link.attended = true
          ∧ ((after (.approachOccupied .a1) s).machine .a1).state = .referred)
      ∧ ((after (.approachOccupied .a1) open_).machine .a1).state = .identifying
      ∧ ((after (.approachOccupied .a1) running).machine .a1).wrongWay = true := by decide

/-- A wake with a read held. -/
theorem witness_ApproachLoopEvents_held :
    let s := endA1 (fun m => { m with heldRead := some 0x00A1F3C207 }) yard
    ((s.station .a1).lines.approach = false ∧ s.part.run = true ∧ (s.machine .a1).state = .idle
        ∧ s.isApproach .a1 = true ∧ (s.machine .a1).conflict = false)
      ∧ ((after (.approachOccupied .a1) s).machine .a1).state = .ready
      ∧ ((after (.approachOccupied .a1) s).machine .a1).visit = some 7731 := by decide

/-- The read of a tag. -/
def read_ (t : String) : List RxChar := t.toList.map .good

theorem witness_ReaderPortReads :
    readTag (read_ "00a1F3C207") = some 0x00A1F3C207 ∧ readTag (read_ "00A1F3C20") = none
      ∧ readTag [.error] = none
      ∧ ((atA1 .identifying).machine .a1).rdrCondition = false
      ∧ ((atA1 .identifying fun m => { m with rdrCondition := true }).machine .a1).rdrCondition = true
      ∧ (open_.station .a1).lines.approach = false
      ∧ (let m (st : EndState) : EndMachine := (atA1 st).machine .a1
         (m .held).tag.or (m .held).heldRead = none ∧ (m .held).state ≠ .identifying ∧ (m .held).state ≠ .referred)
      ∧ (let m (st : EndState) : EndMachine := (atA1 st fun m => { m with tag := some 7 }).machine .a1
         (m .active).tag.or (m .active).heldRead = some 7 ∧ (7 : Tag) ≠ 0x00A1F3C207
          ∧ (m .ready).clearTimer ≠ .expired ∧ (m .referred).state = .referred)
      ∧ (atA1 .held).link.attended = true
      ∧ ((after (.readReceived .a1 (read_ "00A1F3C207")) (atA1 .identifying)).machine .a1).state = .ready := by
  decide

/-- R83: a read of ten digits with LFs, one of eleven digits, one with a letter past F, a character in
error. -/
theorem witness_ReaderPortReads_lines :
    readTag (read_ "00a1F\n3C207\n") = some 0x00A1F3C207 ∧ readTag (read_ "00a1F3C207A") = none
      ∧ readTag (read_ "00a1G3C207") = none ∧ readTag (read_ "FFFFFFFFFF" ++ [.error]) = none
      ∧ readTag (read_ "FFFFFFFFFF") = some 0xFFFFFFFFFF := by decide

/-- The yard with a visit of a tag. -/
def withVisit (v : Visit) (s : State) : State := { s with visits := { s.visits with table := [v] } }

/-- A visit on site. -/
def v9 : Visit := { v7760 with number := 9, tag := 0x00A1F3C207, account := 1204, state := .onSite, holder := .none }

/-- A2, where outbound movements begin, identifying. -/
def outbound : State :=
  yard.modMachine .a2 fun m => { m with state := .identifying, movement := some .outbound, clearTimer := .stopped }

theorem witness_AdmissionDecision :
    ((identifying.machine .a1).state = .identifying ∧ identifying.link.attended = true
        ∧ (identifying.machine .a1).clearTimer ≠ .expired ∧ (identifying.machine .a1).visit = none
        ∧ (identifying.machine .a1).movement = some .inbound)
      ∧ (yard.machine .a1).state ≠ .identifying
      ∧ said (.endPresent .a2 (some 0x00A1F3C207)) outbound = some "OK REFERRED NO_VISIT"
      ∧ said (.endPresent .a2 (some 0x00A1F3C207)) (withVisit v9 outbound) = some "OK READY NONE"
      ∧ said (.endPresent .a2 (some 0x00A1F3C207)) (withVisit { v9 with state := .leaving } outbound)
        = some "OK REFERRED VISIT_BUSY"
      ∧ said (.endPresent .a1 (some 0x00A1F3C207)) (withVisit v9 identifying) = some "OK REFERRED DUPLICATE"
      ∧ said (.endPresent .a1 (some 0x5E10044B91)) identifying = some "OK REFERRED UNKNOWN"
      ∧ said (.endPresent .a1 (some 0x00A1F3C2FF)) identifying = some "OK REFUSED LISTED"
      ∧ said (.endPresent .a1 (some 0x00A1F3C207)) { identifying with accounts := [] }
        = some "OK REFERRED NO_ACCOUNT"
      ∧ said (.endPresent .a1 (some 0x00A1F3C207)) { identifying with outcomes := { queue := [], high := 0, attn := 1 } }
        = some "OK HELD OUTCOME_HIGH" := by decide

/-- R90's other holds, R92's DETACHED link, R94's expired clear timer, the policy REFUSE, and the other
words of R88 and R89. -/
theorem witness_AdmissionDecision_words :
    let g : Tag := 0x00A1F3C207
    let say (s : State) : Option String := said (.endPresent .a1 (some g)) s
    let account (a : Account) : State := { identifying with accounts := [a] }
    let entry (x : AdmitEntry) : State :=
      { identifying with admission := { identifying.admission with entries := [x] } }
    say { identifying with metro := { identifying.metro with switchOn := true } } = some "OK HELD CAL"
      ∧ say { identifying with visits := { identifying.visits with table := List.replicate 64 v7760 } }
          = some "OK HELD YARD_FULL"
      ∧ say { identifying with journal := { identifying.journal with low := 63 } } = some "OK HELD JOURNAL_LOW"
      ∧ say (account ⟨1204, 0, 0, .stoppedHost, [3], 0⟩) = some "OK REFERRED ACCOUNT_STOPPED"
      ∧ say (account ⟨1204, 9999, 0, .open, [4], 0⟩) = some "OK REFERRED CLASS_DENIED"
      ∧ say (account ⟨1204, 2499, 0, .open, [3], 0⟩) = some "OK REFERRED FUNDS"
      ∧ say (account ⟨1204, 2500, 0, .open, [3], 0⟩) = some "OK READY NONE"
      ∧ say (entry ⟨g, 0xFFFFFFFFFF, .refer, 0, 0, false⟩) = some "OK REFERRED LISTED"
      ∧ say { identifying with admission := { entries := [], policy := .refuse } } = some "OK REFUSED UNKNOWN"
      ∧ say { entry .empty with link := { identifying.link with attended := false } }
          = some "OK REFUSED DETACHED"
      ∧ (let s := endA1 (fun m => { m with clearTimer := .expired }) identifying
         (s.machine .a1).clearTimer = .expired
          ∧ ((after (.endPresent .a1 (some g)) s).machine .a1).state = .idle) := by decide

/-- A1 referred for a tag with its account known. -/
def referred : State :=
  atA1 .referred fun m => { m with tag := some 0x3C00220B15, reason := .funds, decideTimer := .running 120 }

theorem witness_EndDecisionsAndTimers :
    ((referred.machine .a1).state = .referred ∧ (referred.machine .a1).movement = some .inbound
        ∧ (referred.machine .a1).tag = some 0x3C00220B15 ∧ (referred.machine .a1).clearTimer ≠ .expired
        ∧ (referred.machine .a1).decideTimer.isRunning = true)
      ∧ said (.endAdmit .a1 (some ⟨3001, 9, false⟩)) referred = some "OK READY"
      ∧ said (.endAdmit .a1 (some ⟨3001, 16, false⟩)) referred = some "ER 11 PARAM"
      ∧ said (.endAdmit .a1 (some ⟨3002, 15, false⟩)) referred = some "ER 15 NOTFOUND"
      ∧ said (.endAdmit .a1 (some ⟨3001, 9, false⟩)) (withVisit { v9 with tag := 0x3C00220B15 } referred)
        = some "ER 13 BUSY"
      ∧ (yard.machine .a1).state ≠ .referred
      ∧ ((identifying.machine .a1).idTimer.isRunning = true ∧ identifying.link.attended = true)
      ∧ (let s := endA1 (fun m => { m with clearTimer := .running 1 }) referred
         (s.machine .a1).clearTimer.isRunning = true ∧ (s.machine .a1).state ≠ .idle
          ∧ ((after (.clearTimerExpiry .a1) s).machine .a1).state = .idle)
      ∧ (let s := atA1 .held fun m => { m with visit := some 9 }
         (s.machine .a1).state = .held ∧ s.firstHold true = none ∧ (s.machine .a1).visit ≠ none
          ∧ ((after (.holdRetest .a1) s).machine .a1).state = .ready)
      ∧ (let s := { atA1 .held with outcomes := { queue := [], high := 0, attn := 1 } }
         s.firstHold (s.machine .a1).visit.isSome = some .outcomeHigh) := by decide

/-- R90 and R91: a HELD end with and without a visit, an admission it holds, a negative account or class,
and an end whose clear timer has expired. -/
theorem witness_EndDecisionsAndTimers_held :
    let open1 := atA1 .held fun m => { m with tag := some 7, admission := some ⟨1204, 3, .onePass, true⟩ }
    let cal := { open1 with metro := { open1.metro with switchOn := true } }
    let gone := endA1 (fun m => { m with clearTimer := .expired }) referred
    (open1.firstHold (open1.machine .a1).visit.isSome = none ∧ (open1.machine .a1).visit = none
        ∧ open1.visitOf? 7 = none ∧ ((after (.holdRetest .a1) open1).machine .a1).visit = some 7731)
      ∧ (cal.firstHold (cal.machine .a1).visit.isSome = some .cal
          ∧ ((after (.holdRetest .a1) cal).machine .a1).reason = .cal)
      ∧ ((after (.holdRetest .a1) open1).visits.table.map fun v => (v.kind, v.note))
          = [(.twoPass, .classTwoPass)]
      ∧ said (.endAdmit .a1 (some ⟨-1, 9, false⟩)) referred = some "ER 11 PARAM"
      ∧ said (.endAdmit .a1 (some ⟨3001, -1, true⟩)) referred = some "ER 11 PARAM"
      ∧ ((gone.machine .a1).state = .referred ∧ (gone.machine .a1).clearTimer = .expired
          ∧ said (.endRefuse .a1) gone = some "OK"
          ∧ ((after (.endRefuse .a1) gone).machine .a1).state = .idle)
      ∧ ((after (.identificationTimerExpiry .a1) identifying).machine .a1).state = .referred
      ∧ ((after (.decisionTimerExpiry .a1) referred).machine .a1).reason = .timeout := by decide

theorem witness_AdmissionTableAndEndSettings :
    ((-1 : Int) < 0 ∧ (31 : Int) < 32 ∧ (0 : Int) ≤ 0 ∧ (31 : Int) ≤ 31)
      ∧ said (.tagSet 31 (some ⟨0, 0, .allow 999999 15 true⟩)) ready = some "OK"
      ∧ said (.tagSet 31 (some ⟨0, 0, .allow 1000000 15 true⟩)) ready = some "ER 11 PARAM"
      ∧ said (.tagMatchQuery (some 0x00A1F3C207)) yard = some "OK 1 ADMIT"
      ∧ said (.tagMatchQuery (some 0x5E10044B91)) yard = some "OK NONE REFER" := by decide

/-- Deck A open and empty, its end A1 READY with a visit of its own and A2 READY outbound. -/
def offering (one two : EndState) (streak : Nat) : State :=
  weighed emptySet (onA (fun u => { u with streak := streak })
    ((endA1 (fun m => { m with state := one, movement := some .inbound, visit := some 10, tag := some 10
                               clearTimer := .stopped })
      { yard with visits := { yard.visits with table :=
          [v9, { v9 with number := 10, tag := 10, state := .admitted, holder := .atEnd .a1, first := none }] } }).modMachine
      .a2 fun m => { m with state := two, movement := some .outbound, tag := some 0x00A1F3C207 }))

theorem witness_ArbiterOffersAndGrants :
    let s := offering .ready .ready 2
    let t := offering .ready .ready 3
    let h := { offering .ready .idle 0 with outcomes := { queue := [], high := 0, attn := 1 } }
    (s.part.run = true ∧ (s.deck .a).seq.state = .idle ∧ (s.deck .a).settings.mode ≠ .closed
        ∧ (s.deck .a).settings.closePending = false ∧ (s.deck .a).wcu.latest = some emptySet
        ∧ (s.driver .a1).state = .down ∧ (s.driver .a2).state = .down
        ∧ (s.faults.bar.get .a1).state = .clear ∧ (s.faults.bar.get .a2).state = .clear)
      ∧ (s.eligible .a1 = true ∧ s.eligible .a2 = true ∧ s.chosen .a = some .a2 ∧ t.chosen .a = some .a1)
      ∧ ((offering .idle .ready 0).eligible .a1 = false ∧ (offering .idle .ready 0).chosen .a = some .a2)
      ∧ ((offering .ready .idle 0).eligible .a2 = false ∧ (offering .ready .idle 0).chosen .a = some .a1)
      ∧ (offering .idle .idle 0).chosen .a = none ∧ (ready.deck .a).settings.mode = .closed
      ∧ (s.visitOf? 0x00A1F3C207 = some v9 ∧ v9.state = .onSite)
      ∧ (t.firstHold true = none ∧ (t.machine .a1).visit = some 10 ∧ (t.visit? 10).isSome = true)
      ∧ (h.firstHold true = some .outcomeHigh ∧ (h.machine .a1).clearTimer ≠ .expired)
      ∧ ((after (.arbiterOffer .a) s).deck .a).seq.role = some .second
      ∧ ((after (.arbiterOffer .a) s).deck .a).streak = 3
      ∧ ((after (.arbiterOffer .a) t).deck .a).seq.role = some .first
      ∧ ((after (.arbiterOffer .a) t).deck .a).streak = 0 := by decide

/-- R105 with the deck out of service, and R95: an outbound offer declined, ATTENDED and DETACHED. -/
theorem witness_ArbiterOffersAndGrants_declined :
    let s := offering .idle .ready 0
    let oos := { s with metro := { s.metro with switchOn := true } }
    let only (t : List Visit) : State := { s with visits := { s.visits with table := t } }
    let detached (x : State) : State := { x with link := { x.link with attended := false } }
    let m (x : State) : EndState × Reason := let y := (after (.arbiterOffer .a) x).machine .a2; (y.state, y.reason)
    (oos.oos .a = true ∧ oos.eligible .a2 = false)
      ∧ ({ only [{ v9 with state := .settled }] with metro := oos.metro }).eligible .a2 = true
      ∧ m (only []) = (.referred, .noVisit)
      ∧ ((only []).machine .a2).clearTimer ≠ .expired ∧ ((only []).machine .a2).visit = none
      ∧ m (detached (only [])) = (.refused, .detached)
      ∧ m (only [{ v9 with state := .leaving }]) = (.referred, .visitBusy)
      ∧ ((after (.arbiterOffer .a) (only [{ v9 with state := .settled }])).deck .a).seq.role = some .pass := by
  decide

/-- Deck A's transaction in a state, from A1, with A1's barrier in a state. -/
def transit (q : SeqState) (r : Role) (st : BarrierState) (mark lower : Bool) : State :=
  seqA (fun x => { x with state := q, role := some r, approach := some .a1, tag := 10, visit := 10
                          passageMark := mark, lowerRequested := lower })
    ((weighed emptySet (offering .active .idle 0)).modDriver .a1 fun b => { b with state := st, travel := .running 8 })

theorem witness_PassageAndCloseComplete :
    let s := transit .entering .first .up true false
    ((s.deck .a).seq.passageEnd = some .a1 ∧ (s.deck .a).seq.lowerRequested = false ∧ s.safetyOcc .a1 = false
        ∧ (s.deck .a).seq.passageMark = true ∧ (s.driver .a1).state = .up ∧ (s.driver .a1).mode ≠ .confirmed)
      ∧ ((after (.passageComplete .a) s).driver .a1).state = .lowering
      ∧ ((transit .ejecting .first .up false false).deck .a).seq.passageMark = false
      ∧ (ready.deck .a).seq.state ≠ .entering ∧ ((transit .entering .first .up true true).deck .a).seq.lowerRequested = true
      ∧ (let c := (offering .ready .ready 0).modSettings .a fun t => { t with closePending := true }
         (c.deck .a).settings.closePending = true ∧ (c.deck .a).seq.state = .idle
          ∧ (c.machine .a1).clearTimer ≠ .expired
          ∧ ((after (.closeComplete .a) c).machine .a1).state = .refused) := by decide

theorem witness_TransactionStatesEndAtBarrierDown :
    let s := transit .entering .first .lowering true true
    let p := transit .entering .pass .lowering true true
    let e := endA1 (fun m => { m with visit := none }) (transit .ejecting .first .lowering true true)
    ((s.driver .a1).travel.isRunning = true ∧ (s.driver .a1).state = .lowering ∧ (s.driver .a1).mode ≠ .confirmed
        ∧ (s.deck .a).seq.lowerRequested = true ∧ (s.deck .a).seq.approach = some .a1 ∧ Role.first ≠ .pass
        ∧ (s.visit? 10).isSome = true)
      ∧ ((after (.travelTimerExpiry .a1) s).deck .a).seq.state = .weighing
      ∧ ((p.deck .a).seq.role = some .pass ∧ (p.driver .a2).state = .down)
      ∧ ((after (.travelTimerExpiry .a1) p).deck .a).seq.state = .departing
      ∧ ((e.machine .a1).visit = none ∧ (e.station .a1).lines.approach = false
          ∧ e.reports.traffic = .all ∧ e.reports.queue.length < 48)
      ∧ ((after (.travelTimerExpiry .a1) e).deck .a).seq.state = .idle := by decide

theorem witness_DeckModesAndSequencerSettings :
    let closing := open_.modSettings .a fun t => { t with closePending := true }
    (ready.deck .a).settings.mode = .closed
      ∧ ((open_.deck .a).settings.mode ≠ .closed ∧ (open_.deck .a).seq.state = .idle)
      ∧ ((transit .weighing .first .down true false).deck .a).seq.state ≠ .idle
      ∧ (closing.part.run = true ∧ (closing.deck .a).settings.closePending = true)
      ∧ (running.part.run = true ∧ (running.deck .a).settings.closePending = false)
      ∧ (let up := manual .up true
         (up.deck .a).settings.mode = .closed ∧ (up.driver .a1).state = .up
          ∧ ((after (.deckOpen .a (some .both)) up).driver .a1).pending = .lower)
      ∧ said (.deckStreak .a (some (.num 9))) ready = some "OK CLAMPED 8" := by decide

/-- R103, R190: OPEN's parameter is judged first, a pending close next, then the mode. -/
theorem test_open_order :
    let closing := open_.modSettings .a fun t => { t with closePending := true }
    said (.deckOpen .a none) closing = some "ER 11 PARAM"
      ∧ said (.deckOpen .a (some .both)) closing = some "ER 13 BUSY"
      ∧ said (.deckOpen .a (some .both)) open_ = some "ER 12 STATE"
      ∧ said (.deckOpen .a (some .inOnly)) running = some "OK IN_ONLY" := by decide

theorem witness_CancelReleaseAndTimers :
    let w := transit .weighing .first .down true false
    let k := transit .ticketing .second .down true false
    (ready.deck .a).seq.state ≠ .entering
      ∧ ((w.deck .a).seq.state = .weighing ∧ (w.deck .a).seq.approach = some .a1)
      ∧ ((after (.deckCancel .a) w).deck .a).seq.state = .ejecting
      ∧ ((transit .entering .pass .up false false).deck .a).seq.state = .entering
      ∧ ((k.deck .a).seq.state = .ticketing ∧ (k.deck .a).seq.approach ≠ none)
      ∧ ((after (.deckRelease .a) k).deck .a).seq.state = .departing
      ∧ (let s := seqA (fun q => { q with take := .running 1 }) k
         (s.deck .a).seq.take.isRunning = true ∧ s.reports.weighing ≠ .none ∧ s.reports.queue.length < 48)
      ∧ (let s := seqA (fun q => { q with weighTimer := .running 1 }) w
         (s.deck .a).seq.weighTimer.isRunning = true)
      ∧ (let s := seqA (fun q => { q with tailgate := .running 1 }) (transit .entering .first .up true false)
         (s.deck .a).seq.passageEnd = some .a1 ∧ (s.deck .a).seq.tailgate.isRunning = true) := by decide

/-- A cancel in ENTERING with the passage mark clear, and the roles of R39. -/
theorem witness_CancelReleaseAndTimers_roles :
    let t (r : Role) : State := after (.deckCancel .a) (transit .entering r .up false false)
    (((t .first).deck .a).seq.unmarked = true ∧ (t .first).visits.table.map (·.number) = [9])
      ∧ ((t .onePass).visits.table.map (·.number) = [9])
      ∧ ((t .second).visits.table.map fun v => (v.number, v.state)) = [(9, .onSite), (10, .onSite)]
      ∧ (t .pass).visits.table.length = 2 := by decide

/-- Chapter 7's vehicle in SETTLING. -/
def settling : State :=
  seqA (fun q => { q with state := .settling, role := some .second, approach := some .a2, tag := v7760.tag
                          visit := 7760, weighing := some ⟨14180, 30455, .a, 7, false⟩ }) office

theorem witness_SettleReserveTakesPlace :
    ((settling.deck .a).seq.state = .settling ∧ (settling.deck .a).seq.reservation = false
        ∧ (settling.deck .a).seq.orphanSettle = false ∧ settling.outcomes.queue.length + settling.reservations < 64
        ∧ settling.visit? 7760 = some v7760 ∧ (settling.deck .a).seq.role = some .second
        ∧ v7760.first = some ⟨37300, 30402, .a, 7, false⟩)
      ∧ (ready.deck .a).seq.state ≠ .settling
      ∧ ((after (.settleReserve .a) settling).account? 2017).map (·.pendingCharge) = some 223108
      ∧ (let one := { settling with visits := { settling.visits with table :=
            [{ v7760 with kind := .onePass, tare := some ⟨14180, .weighed, 0, 7⟩ }] } }
         let s := seqA (fun q => { q with role := some .onePass }) one
         (s.deck .a).seq.role = some .onePass ∧ ((s.visit? 7760).bind (·.tare)).isSome = true) := by decide

theorem witness_DeckResetRestartsOneDeck :
    ((settling.deck .a).seq.state = .settling ∧ (settling.driver .a1).state = .down)
      ∧ (ready.part.run = false ∧ (ready.driver .a1).state = .lowering)
      ∧ ((after (.deckReset .a) (after (.settleReserve .a) settling)).deck .a).seq.orphanSettle = true := by
  decide

/-- R123, R211: a reset with a FIRST vehicle on the deck, a READY end, its barrier UP over an occupied loop,
LOOPFAULT and PAPER active, a CONFIRMED barrier in FAULT, and a cell's condition. -/
theorem witness_DeckResetRestartsOneDeck_visits :
    let put (s : State) : State := s.modLines .a1 fun _ => lines_ true true false false
    let s := (put (transit .weighing .first .up false true)).modDeckLines .a fun l => { l with paper := true }
    let t := after (.deckReset .a) s
    let second := after (.deckReset .a)
      (endA1 (fun m => { m with visit := none }) (transit .weighing .second .down false true))
    let ready1 := after (.deckReset .a) (offering .ready .ready 0)
    let flt := after (.deckReset .a) (bar .fault .confirmed (lines_ true false true true))
    let cell := after (.deckReset .a)
      ((open_.setChannel .a .c1 { Channel.fresh with condition := true }).setFault (.cell .a .c1) ⟨.active, true, 5, 9⟩)
    ((s.deck .a).seq.state = .weighing ∧ (s.driver .a1).state = .up ∧ s.safetyOcc .a1 = true)
      ∧ (t.visits.table.map (·.number) = [9] ∧ (t.driver .a1).pending = .lower
          ∧ t.faults.get (.loop .a1) = ⟨.active, false, 0, 1⟩ ∧ t.faults.get (.prn .a) = ⟨.active, false, 0, 1⟩
          ∧ (t.deck .a).printer.state = .fault)
      ∧ (second.visits.table.map fun v => (v.number, v.state, v.holder))
          = [(9, .onSite, .none), (10, .onSite, .none)]
      ∧ ready1.visits.table.map (·.number) = [9]
      ∧ ((flt.driver .a1).state = .fault ∧ (flt.faults.get (.bar .a1)).state = .active)
      ∧ (cell.faults.get (.cell .a .c1) = .clear ∧ (cell.deck .a).channels.c1.resignal = true)
      ∧ ((s.station .a2).lines.approach = false ∧ (t.machine .a2).state = .idle) := by decide +kernel

/-! #### Chapters 7 to 9 -/

/-- The yard with the visit `v9` on site, its first weighing committed. -/
def onSite : State := withVisit v9 yard

theorem witness_VisitCommands :
    onSite.visit? 9 = some v9 ∧ onSite.visit? 10 = none ∧ v9.first ≠ none
      ∧ said (.visitClose (some 9)) onSite = some "OK CLOSING"
      ∧ said (.visitClose (some 9)) (withVisit { v9 with state := .settled } yard) = some "OK CLOSED"
      ∧ said (.visitClose (some 9)) (withVisit { v9 with holder := .deck .a } yard) = some "ER 13 BUSY"
      ∧ said (.visitClose (some 9)) { onSite with journal := { onSite.journal with fault := true } }
        = some "ER 12 STATE"
      ∧ said (.visitClose (some 9)) { onSite with journal := { onSite.journal with nextSeq := 4294967296 } }
        = some "ER 16 FULL"
      ∧ said (.visitClose (some 0)) onSite = some "ER 11 PARAM"
      ∧ said (.visitClose (some 1000000)) onSite = some "ER 11 PARAM"
      ∧ said (.visitQuery 999999) onSite = some "ER 15 NOTFOUND"
      ∧ (onSite.visitOf? v9.tag = some v9 ∧ onSite.visitOf? 1 = none)
      ∧ (v9 ∈ onSite.visits.table ∧ 8 < v9.number ∧ v9.number ≤ 9)
      ∧ said (.visitNextQuery (some 9)) onSite = some "OK END" := by decide +kernel

/-- The tare table with entries at its first places and nothing free. -/
def tareFull : State :=
  { yard with
    clock := { now := 100, valid := true, batteryLow := false }
    tares := { table := [some ⟨1, 500, 50, .preset, 0⟩, some ⟨2, 600, 40, .weighed, 0⟩], expiry := 90 } }

theorem witness_TareAndClassCommands :
    said (.tareSet (some (1, 450000))) tareFull = some "OK 0"
      ∧ said (.tareSet (some (3, 1))) tareFull = some "OK 1 REPLACED 0000000002"
      ∧ said (.tareSet (some (3, 1))) yard = some "OK 0"
      ∧ said (.tareSet (some (3, 0))) yard = some "ER 11 PARAM"
      ∧ said (.tareSet (some (3, 450001))) yard = some "ER 11 PARAM"
      ∧ (tareFull.tareOf? 3 = none ∧ tareFull.tares.table ≠ [] ∧ ∀ x ∈ tareFull.tares.table, x ≠ none)
      ∧ (tareFull.tareOf? 2).map (·.1) = some 1 ∧ yard.tares.table.findIdx? (·.isNone) = some 0
      ∧ said (.tareIndexQuery 255) yard = some "OK FREE" ∧ said (.tareIndexQuery 256) yard = some "ER 11 PARAM"
      ∧ said (.classMinimum 15 (some 1000000)) yard = some "OK"
      ∧ said (.classMinimum 16 (some 1000000)) yard = some "ER 11 PARAM"
      ∧ said (.classMinimum 15 (some 1000001)) yard = some "ER 11 PARAM"
      ∧ said (.className 0 "  ABCDEFGHIJKL ".toList) yard = some "OK"
      ∧ said (.className 0 " ABCDEFGHIJKLM".toList) yard = some "ER 11 PARAM"
      ∧ ("A".toList ≠ [] ∧ "A".toList.all printable = true ∧ "A".toList.head? ≠ some ' '
          ∧ "A".toList.getLast? ≠ some ' ') := by decide +kernel

theorem witness_AccountCommands :
    (yard.account? 1204).isSome = true ∧ yard.account? 999999 = none
      ∧ said (.accountAdd 999999 (some (999999999, [0, 15]))) yard = some "OK"
      ∧ said (.accountAdd 1204 (some (0, []))) yard = some "ER 12 STATE"
      ∧ said (.accountAdd 1000000 (some (0, []))) yard = some "ER 11 PARAM"
      ∧ ([0, 15].Nodup ∧ ∀ c ∈ [0, 15], c ≤ 15)
      ∧ (yard.visits.table.any (·.account == 1204) = false ∧ onSite.visits.table.any (·.account == 1204) = true)
      ∧ said (.accountDelete 1204) onSite = some "ER 13 BUSY" ∧ said (.accountDelete 1204) yard = some "OK"
      ∧ said (.accountCredit 1204 (some 999999999)) yard = some "OK CLAMPED 999999999"
      ∧ said (.accountCredit 1204 (some 1)) yard = some "OK 412001 OPEN"
      ∧ said (.accountLimit 3001 (some 39999)) yard = some "OK 39999 STOPPED/LIMIT"
      ∧ said (.accountLimit 3001 (some 40000)) yard = some "OK 40000 OPEN"
      ∧ (let busy := { yard with accounts := [⟨5, 0, 0, .open, [], 1⟩] }
         (busy.account? 5).map (·.pendingCharge) = some 1
          ∧ said (.accountCredit 5 (some 1)) busy = some "ER 13 BUSY")
      ∧ said (.accountNextQuery (some 3001)) yard = some "OK END" := by decide +kernel

theorem witness_SettlementsAreComputed :
    (office.account? v7760.account).isSome = true ∧ onePassHolds 14580 14180 20 = true
      ∧ onePassHolds 14579 14180 20 = false := by decide +kernel

/-- A ONE_PASS settlement of a manual visit, DETACHED, at the least gross that passes, and a close. -/
theorem witness_SettlementsAreComputed_onePass :
    let s := { office with link := { office.link with attended := false } }
    let c := settleOnePass s { v7760 with manual := true } ⟨14180, .preset, 0, 6⟩ ⟨14580, 1, .a, 7, false⟩
    (s.account? v7760.account).isSome = true
      ∧ (c.net, c.charge) = (400, 3860) ∧ c.flags.names = ["PRESET_TARE", "CAL_CHANGED", "MANUAL", "DETACHED"]
      ∧ (settleAbandoned s v7760 ⟨37300, 30402, .a, 7, true⟩).flags.names = ["STAGED"] := by decide +kernel

/-- A journal state with an append of deck B's settlement in progress. -/
def writing (attempt : Nat) : State :=
  { open_ with journal := { queueOf [.link] .link with
      inProgress := some { request := { requester := .clock, deck := none, body := .clock 9, attempt := attempt },
                           stamp := ⟨0, none, 0, false⟩ } } }

/-- A journal whose CURRENT page has one slot left. -/
def lastSlot (attempt : Nat) : State :=
  { writing attempt with journal := { (writing attempt).journal with
      pages := [{ state := .current, used := List.replicate 255 .void }, { state := .erased, used := [] }] } }

theorem witness_JournalGrantChoosesRequest :
    let s := { open_ with journal := queueOf [.capture .a, .settle .b] .link }
    let again := { open_ with journal := { queueOf [.capture .a] .link with pending :=
      [{ requester := .link, deck := none, body := .clock 0, attempt := 2 }] } }
    (s.journal.scanDone = true ∧ s.journal.inProgress = none ∧ s.journal.fault = false
        ∧ s.journal.full = false ∧ s.journal.pending ≠ [])
      ∧ State.reset.journal.scanDone = false
      ∧ (∀ x ∈ s.journal.pending, x.attempt ≠ 2)
      ∧ (∃ x ∈ s.journal.pending, preferCovers s.journal.prefer x.requester = true)
      ∧ (∃ x ∈ again.journal.pending, x.attempt = 2) := by decide +kernel

theorem witness_WritesUseOneSlot :
    ((writing 1).journal.inProgress.isSome = true ∧ (writing 1).journal.current? = some 0
        ∧ ((writing 1).journal.page 0).used.length < 255)
      ∧ ((lastSlot 2).journal.current? = some 0 ∧ 255 ≤ ((lastSlot 2).journal.page 0).used.length)
      ∧ ready.journal.inProgress = none
      ∧ (after .writeFailure (writing 1)).journal.fault = false
      ∧ (after .writeFailure (lastSlot 2)).journal.fault = true
      ∧ ((after .appendComplete (lastSlot 1)).journal.page 1).state = .current := by decide +kernel

/-- R148: the page fills with an ERASED page after it, and with none in a store of 64 pages. -/
theorem witness_WritesUseOneSlot_pageFills :
    let store (last : PageState) (attempt : Nat) : State :=
      { writing attempt with journal := { (writing attempt).journal with
          pages := { state := .current, used := List.replicate 255 .void }
            :: (List.replicate 62 { state := .filled, used := [] } ++ [{ state := last, used := [] }]) } }
    let full := after .appendComplete (store .filled 1)
    ((store .erased 1).journal.pages.length = 64 ∧ (store .erased 1).journal.current? = some 0
        ∧ 255 ≤ ((store .erased 1).journal.page 0).used.length
        ∧ ((store .erased 1).journal.page 63).state = .erased)
      ∧ (after .appendComplete (store .erased 1)).journal.newest = 63
      ∧ ((after .appendComplete (store .erased 1)).journal.page 63).state = .current
      ∧ (full.journal.full = true ∧ full.reports.queue.length = (store .filled 1).reports.queue.length + 1)
      ∧ (after .writeFailure (store .filled 1)).journal.full = true
      ∧ (after .writeFailure (store .filled 2)).journal.fault = true := by decide +kernel

/-- An append in progress of a requester with a body, over a state. -/
def completing (r : Requester) (b : Body) (s : State) : State :=
  let a : Append :=
    { request := { requester := r, deck := none, body := b, attempt := 1 }, stamp := ⟨0, some .a, 7, false⟩ }
  { s with journal := { s.journal with inProgress := some a } }

/-- Deck A's capture logic in a state, its sequencer in COMMITTING. -/
def committing (c : CaptureState) (r : Role) : State :=
  capA (fun k => { k with state := c, request := some { role := r, tag := 1, visit := 1, cls := 0 }
                          stages := [{ value := 21460, seq := none }] })
    (transit .committing r .down true false)

theorem witness_CompletionsReachOwners :
    let settle := settleTwoPass office v7760 ⟨37300, 30402, .a, 7, false⟩ ⟨14180, 30455, .a, 7, false⟩
    let close := settleAbandoned office v7760 ⟨37300, 30402, .a, 7, false⟩
    let t := completing (.settle .a) (.settle settle) (seqA (fun q => { q with reservation := true }) settling)
    let w (r : Role) : State := completing (.capture .a) (.weigh 21460 r 1 1 []) (committing .weighWrite r)
    let g := completing (.capture .a) (.stage 21460 1 1 1) (committing .stageWrite .first)
    (t.journal.current? = some 0 ∧ settle.kind = .twoPass ∧ close.kind = .abandoned
        ∧ (t.deck .a).seq.orphanSettle = false ∧ (t.deck .a).seq.approach ≠ none
        ∧ (t.deck .a).printer.queue.length < 4)
      ∧ (after .appendComplete t).account? 2017 = some ⟨2017, 776892, 100000, .open, [3], 0⟩
      ∧ ((after .appendComplete t).deck .a).seq.state = .ticketing
      ∧ (((w .first).deck .a).capture.orphan = false ∧ ((w .first).deck .a).capture.state = .weighWrite
          ∧ ((w .first).deck .a).seq.state = .committing ∧ ((w .first).deck .a).seq.approach = some .a1)
      ∧ ((after .appendComplete (w .first)).deck .a).seq.state = .departing
      ∧ ((after .appendComplete (w .second)).deck .a).seq.state = .settling
      ∧ ((g.deck .a).capture.orphan = false ∧ (g.deck .a).capture.state = .stageWrite)
      ∧ ((after .appendComplete g).deck .a).capture.stage = 2
      ∧ (after .appendComplete (completing .clock (.clock 77) open_)).clock.now = 77
      ∧ (after .appendComplete (completing .metrology (.calib ⟨.switch, ⟨[], []⟩⟩) open_)).metro.inProgress = none
      ∧ (after .appendComplete (completing .link (.settle close) office)).visits.table = [] := by decide +kernel

/-- R37, R39, R40, R130: a STAGE completed in WEIGH_WRITE, orphaned captures, a ONE_PASS and a tare
update, and an orphaned settlement. -/
theorem witness_CompletionsReachOwners_others :
    let settle := settleTwoPass office v7760 ⟨37300, 30402, .a, 7, false⟩ ⟨14180, 30455, .a, 7, false⟩
    let t := completing (.settle .a) (.settle settle) (seqA (fun q => { q with orphanSettle := true }) office)
    let one := completing (.settle .a) (.settle { settle with kind := .onePass, tareUpdate := none }) settling
    let w := completing (.capture .a) (.stage 21460 2 1 1) (committing .weighWrite .first)
    let orphan (b : Body) (k : CaptureState) : State :=
      completing (.capture .a) b (capA (fun c => { c with state := k, orphan := true }) open_)
    let passed (kg : Int) : State := completing (.capture .a) (.weigh kg .onePass 10 10 [])
      (let s := committing .weighWrite .onePass
       { s with visits := { s.visits with table := [{ v9 with number := 10, tare := some ⟨14180, .weighed, 0, 7⟩ }] } })
    ((t.journal.page 0).used.length < 255 ∧ t.journal.nextSeq < 4294967295
        ∧ settle.tareUpdate = some (14180, 7) ∧ t.tareOf? settle.tag = none
        ∧ t.tares.table.findIdx? (·.isNone) = some 0)
      ∧ ((after .appendComplete t).tareOf? settle.tag).map (·.2.value) = some 14180
      ∧ ((after .appendComplete t).deck .a).seq.orphanSettle = false
      ∧ ((after .appendComplete one).visits.table.map (·.state)) = [.settled]
      ∧ ((w.deck .a).capture.stages = [] ++ [{ value := 21460, seq := none }]
          ∧ (w.deck .a).capture.orphan = false ∧ (w.deck .a).capture.state = .weighWrite
          ∧ (w.deck .a).capture.request.isSome = true
          ∧ ((after .appendComplete w).journal.pending.map (·.requester)) = [.capture .a])
      ∧ ((after .appendComplete (orphan (.stage 5 1 1 1) .waiting)).deck .a).capture.blocking = some .next
      ∧ ((after .appendComplete (orphan (.weigh 5 .first 1 1 []) .idle)).deck .a).capture.orphan = false
      ∧ ((after .appendComplete (passed 14580)).deck .a).seq.state = .settling
      ∧ ((after .appendComplete (passed 14579)).deck .a).seq.state = .departing := by decide +kernel

/-- A store whose page 1 is ERASING behind the CURRENT page 0. -/
def erasing (e : EraseState) (failed : Bool) : State :=
  { ready with journal := { ready.journal with
      pages := [{ state := .current, used := [] }, { state := .erasing, used := [.void] }]
      erase := e, eraseFailed := failed } }

theorem witness_ErasesAndScansRun :
    (let j := (erasing .none false).journal
     j.eraseHead = some 1 ∧ j.scanDone = true ∧ j.fault = false ∧ j.inProgress = none ∧ j.pending = [])
      ∧ ((erasing .running false).journal.erase = .running ∧ (erasing .running false).journal.eraseFailed = false)
      ∧ (erasing .running true).journal.eraseFailed = true ∧ ready.journal.eraseHead = none
      ∧ (after .eraseFailure (erasing .running true)).journal.fault = true
      ∧ ready.journal.scanDone = true ∧ State.reset.journal.scanDone = false
      ∧ (let j := { State.reset.journal with cutSlot := true }
         j.cutSlot = true ∧ j.current? = some 0) := by decide +kernel

/-- R55, R157: a scan with a CALIB record in progress, and one that finds the store low and full. -/
theorem witness_ErasesAndScansRun_scan :
    let calib := { State.reset with metro := { State.reset.metro with inProgress := some ⟨.switch, ⟨[.k], []⟩⟩ } }
    let full := { State.reset with journal := { State.reset.journal with pages := [{ state := .filled, used := [] }] } }
    ((after (.journalScanComplete true) calib).journal.pending.map (·.requester)) = [.metrology]
      ∧ ((after (.journalScanComplete false) calib).journal.pending.map (·.requester)) = [.metrology]
      ∧ ((after (.journalScanComplete true) full).reports.queue.map (·.kind)) = [.powerUp, .journalFull, .journalLow]
      ∧ ((after .eraseComplete (erasing .running false)).reports.queue.map (·.params)) = [[], ["1", "1"]] := by
  decide +kernel

/-- A store of one FILLED page with a record of sequence 1, purgeable once exported. -/
def purgeable_ (mark : Nat) : State :=
  { ready with
    clock := { now := 40000000, valid := true, batteryLow := false }
    journal := { ready.journal with
      pages := [{ state := .current, used := [] },
        { state := .filled, used := [.written ⟨1, ⟨0, none, 0, false⟩, .clock 0⟩] }]
      nextSeq := 2, exported := mark, purgeLatch := true } }

theorem witness_JournalSettingsAndPurge :
    running.part.run = true ∧ ready.part.run = false
      ∧ ((purgeable_ 0).journal.exported ≤ 1 ∧ 1 < (purgeable_ 0).journal.nextSeq)
      ∧ said (.journalExported (some 1)) (purgeable_ 0) = some "OK 1"
      ∧ said (.journalExported (some 2)) (purgeable_ 0) = some "ER 11 PARAM"
      ∧ said (.journalExported (some 0)) (purgeable_ 1) = some "ER 11 PARAM"
      ∧ ((purgeable_ 1).journal.purgeLatch = true ∧ (purgeable_ 1).journal.fault = false
          ∧ (purgeable_ 1).journal.erasing = false ∧ ready.journal.purgeLatch = false)
      ∧ said (.journalPurge (some 1)) (purgeable_ 1) = some "OK 1 NONE"
      ∧ said (.journalPurge (some 63)) (purgeable_ 1) = some "OK 1 NO_PAGE"
      ∧ said (.journalPurge (some 1)) (purgeable_ 0) = some "OK 0 NOT_EXPORTED"
      ∧ said (.journalPurge (some 64)) (purgeable_ 1) = some "ER 11 PARAM"
      ∧ (let s := { erasing .none false with journal := { (erasing .none false).journal with purgeLatch := true } }
         s.journal.erasing = true ∧ said (.journalPurge (some 1)) s = some "ER 13 BUSY") := by decide +kernel

/-- R161: a purge that takes the older of two pages, and one stopped by the retention period. -/
theorem witness_JournalSettingsAndPurge_pages :
    let rec_ (q t : Nat) : Slot := .written ⟨q, ⟨t, none, 0, false⟩, .clock 0⟩
    let two : State := { purgeable_ 2 with journal := { (purgeable_ 2).journal with
      nextSeq := 3
      pages := { state := .current, used := [] } :: (List.replicate 61 { state := .erased, used := [] }
        ++ [{ state := .filled, used := [rec_ 1 0] }, { state := .filled, used := [rec_ 2 39999999] }]) } }
    two.journal.pages.length = 64 ∧ said (.journalPurge (some 1)) two = some "OK 1 NONE"
      ∧ ((after (.journalPurge (some 1)) two).journal.page 62).state = .erasing
      ∧ said (.journalPurge (some 2)) two = some "OK 1 RETAINED"
      ∧ ((after (.journalPurge (some 2)) two).journal.page 63).state = .filled
      ∧ ((after (.journalPurge (some 2)) two).reports.queue.map (·.params)) = [[], ["RETAINED", "63", "2"]] := by
  decide +kernel

theorem witness_JournalIsReadBack :
    ((purgeable_ 0).journal.held.map (·.seq) = [1] ∧ (purgeable_ 0).journal.readPointer = 0)
      ∧ ready.journal.held = []
      ∧ said (.journalRead (some 4294967295)) (purgeable_ 0) = some "ER 15 NOTFOUND"
      ∧ said (.journalRead (some 0)) (purgeable_ 0) = some "ER 11 PARAM"
      ∧ (after (.journalRead (some 1)) (purgeable_ 0)).journal.readPointer = 1
      ∧ (after .journalNextQuery (purgeable_ 0)).journal.readPointer = 1
      ∧ said (.journalPageQuery (some 63)) ready = some "OK ERASED 0 0 - -" := by decide +kernel

/-- R150: the fields of a record of each kind beyond the common ones. -/
theorem witness_JournalIsReadBack_fields :
    let f (b : Body) : List String := (Record.fields ⟨9, ⟨100, some .b, 7, true⟩, b⟩).drop 7
    f (.weigh 21460 .onePass 1 7 [4, 5]) = ["21460", "ONE_PASS", "0000000001", "7", "4,5"]
      ∧ f (.stage 21460 2 1 7) = ["21460", "2", "0000000001", "7"]
      ∧ f (.settle (settleTwoPass office v7760 ⟨37300, 30402, .a, 7, false⟩ ⟨14180, 30455, .b, 7, false⟩))
          = ["7760", "00B7720915", "2017", "3", "TWO_PASS", "37300/30402", "14180/30455", "-", "23120", "IN",
             "223108", "776892", "DECK_CHANGE", "14180/7"]
      ∧ f (.calib ⟨.switch, ⟨[.k, .g1], []⟩⟩) = ["SWITCH", "K,G1", "-"]
      ∧ f (.clock 86400) = ["2000-01-01", "00:01:40", "2000-01-02", "00:00:00"] := by decide +kernel

theorem witness_YardClockAdvancesAndIsSet :
    let low := { ready with clock := { ready.clock with batteryLow := true } }
    (ready.clock.valid = true ∧ ready.clock.batteryLow = false ∧ low.clock.batteryLow = true)
      ∧ ((after (.batteryMonitorChange true) ready).faults.get .clock).state = .active
      ∧ said (.clockSet (some ⟨2031, 2, 29, 0, 0, 0⟩)) ready = some "ER 11 PARAM"
      ∧ said (.clockSet (some ⟨2032, 2, 29, 23, 59, 59⟩)) ready = some "OK SETTING"
      ∧ said (.clockSet (some ⟨2032, 2, 29, 23, 59, 59⟩)) { ready with journal := queueOf [.clock] .link }
        = some "ER 13 BUSY"
      ∧ said (.clockSet (some ⟨2032, 2, 29, 0, 0, 0⟩)) { ready with journal := { ready.journal with fault := true } }
        = some "ER 12 STATE"
      ∧ (after .clockSecond { ready with clock := { ready.clock with now := 3155759999 } }).clock.now = 3155759999 := by
  decide +kernel

/-- R128, R165: timers that run, a visit that becomes due at this second, and the battery's changes. -/
theorem witness_YardClockAdvancesAndIsSet_second :
    let s := { withVisit { v9 with opened := 0 } referred with
      clock := { now := 43199, valid := true, batteryLow := false } }
    let t := after .clockSecond s
    let low := { s with clock := { s.clock with batteryLow := true } }
    let bad := { low with clock := { low.clock with valid := false } }
    ((t.machine .a1).decideTimer = .running 119 ∧ t.link.silenceTimer = .running 119 ∧ t.clock.now = 43200
        ∧ t.visits.table.map (·.overstay) = [true] ∧ (t.reports.queue.map (·.kind)) = [.powerUp, .overstay])
      ∧ (after .clockSecond { s with clock := { s.clock with now := 43198 } }).visits.table.map (·.overstay) = [false]
      ∧ ((after (.batteryMonitorChange false)
          (low.setFault .clock ⟨.active, false, 5, 1⟩)).faults.get .clock).state = .latched
      ∧ ((after (.batteryMonitorChange false) bad).faults.get .clock).state = .clear
      ∧ said .clockQuery bad = some "OK 2000-01-01 11:59:59 INVALID"
      ∧ said (.clockSet (some ⟨2031, 5, 9, 6, 30, 0⟩))
          { s with journal := { s.journal with nextSeq := 4294967296 } } = some "ER 16 FULL" := by decide +kernel

theorem witness_CalendarRoundTrip :
    ClockArgs.moment? ⟨2099, 12, 31, 23, 59, 59⟩ = some 3155759999
      ∧ ClockArgs.moment? ⟨2000, 1, 1, 0, 0, 0⟩ = some 0
      ∧ dateText 3155759999 = "2099-12-31" := by decide +kernel

theorem witness_JournalKeptByEveryStep :
    JournalKept State.reset ∧ step State.reset = .next State.reset :=
  ⟨by unfold JournalKept; decide +kernel, rfl⟩

/-- Printer A with the job of chapter 9 at its head, in a state. -/
def prn (st : PrinterState) (f : Printer → Printer := id) : State :=
  (settling.modPrinter .a fun p => f { p with state := st, queue := [job30456] })

/-- The same with its port at a place in the job. -/
def sending (n : Nat) (rest : Text) : State :=
  prn .printing fun p => { p with send := some { line := n, rest := rest }, charGoing := true }

theorem witness_PrinterSendsTheHeadJob :
    ((prn .ready).deck .a).printer.queue = [job30456] ∧ ((prn .ready).deck .a).printer.state = .ready
      ∧ (((prn .waitTake fun p => { p with uncollected := .expired }).deck .a).printer.uncollected = .expired)
      ∧ ((ready.deck .a).printer.queue = [] ∧ (ready.deck .a).printer.charGoing = false)
      ∧ layoutLength ((prn .ready).layout 0) = 11 ∧ layoutLength ((prn .ready).layout 7) = 0
      ∧ ((after (.printerJobStart .a) (prn .ready)).deck .a).printer.state = .printing
      ∧ ((after (.printerCharacterSent .a) (sending 1 ['W', 'E'])).deck .a).printer.send = some ⟨1, ['E']⟩
      ∧ ((after (.printerCharacterSent .a) (sending 10 ['X'])).deck .a).printer.send
        = some ⟨11, "FLAGS .......  CAL     7".toList ++ [Char.ofNat 13, Char.ofNat 10, Char.ofNat 12]⟩
      ∧ ((after (.printerLastCharacterSent .a) (sending 11 [Char.ofNat 12])).deck .a).printer.endTimer = .running 2
      ∧ (Char.ofNat 10 ≠ Char.ofNat 12 ∧ "MIXED HH".toList.length ≤ 12) := by decide +kernel

theorem witness_printed_width : ∀ w, markerWidth 'B' = some w →
    (fieldText "MIXED HH".toList job30456 'B' w).length = w := by
  intro w h; cases h; decide

/-- Every field of the worked ticket fits its width. -/
theorem witness_printed_width_all : ("MIXED HH".toList).length ≤ 12 ∧
    ∀ c w, markerWidth c = some w → c ≠ 'K' → (fieldText "MIXED HH".toList job30456 c w).length = w := by
  refine ⟨by decide, fun c w h _ => ?_⟩
  have all : ∀ p ∈ [('G', 7), ('T', 7), ('N', 7), ('C', 10), ('B', 11), ('Q', 10), ('V', 6), ('P', 10),
      ('A', 6), ('K', 12), ('D', 10), ('H', 8), ('Z', 5), ('S', 7), ('X', 4)],
      (fieldText "MIXED HH".toList job30456 p.1 p.2).length = p.2 := by decide +kernel
  unfold markerWidth at h
  split at h <;> cases h <;> exact all (_, _) (by decide)

/-- Deck A in TICKETING for the ticket of job 30,456, under a release condition. -/
def ticketing (r : Release) (s : State) : State :=
  seqA (fun q => { q with state := .ticketing, release := r, ticket := some ⟨30456, .queued⟩ }) s

theorem witness_JobsPrintAndTicketsAreTaken :
    let p (b : Bool) : State := ticketing .atPrinted (prn .printing fun p =>
      { p with send := some ⟨11, []⟩, endTimer := .running 0, busyAfterEnd := b })
    let shown := ticketing .atTaken (prn .waitTake fun p => { p with presented := some job30456, uncollected := .running 0 })
    (((p false).deck .a).printer.state = .printing ∧ ((p false).deck .a).printer.endTimer = .running 0
        ∧ ((p false).deck .a).printer.busyAfterEnd = false ∧ job30456.copy = false
        ∧ ((p false).deck .a).seq.ticket.map Ticket.seq = some job30456.seq
        ∧ ((p false).deck .a).seq.approach ≠ none)
      ∧ ((after (.printerEndTimerExpiry .a) (p false)).deck .a).seq.state = .departing
      ∧ ((p true).deck .a).printer.busyAfterEnd = true ∧ (ready.deck .a).printer.state ≠ .printing
      ∧ (let s := (p true).modDeckLines .a fun l => { l with busy := true }
         (s.deck .a).lines.busy = true ∧ (s.deck .a).printer.condition = false
          ∧ ((after (.busyChange .a false) s).deck .a).printer.state = .waitTake)
      ∧ ((shown.deck .a).printer.presented = some job30456 ∧ (shown.deck .a).lines.taken = false
          ∧ (shown.deck .a).printer.uncollected = .running 0 ∧ (shown.deck .a).printer.queue = [job30456])
      ∧ ((after (.takeEvent .a) shown).deck .a).seq.state = .departing
      ∧ ((after (.uncollectedTimerExpiry .a) shown).deck .a).printer.state = .printing
      ∧ (ready.deck .a).printer.presented = none := by decide +kernel

theorem witness_PrinterFaultsFollowPaperAndBusy :
    let bad := prn .fault fun p => { p with condition := true }
    let stuck := (prn .printing fun p => { p with stuck := .running 0 }).modDeckLines .a fun l => { l with busy := true }
    (((prn .printing).deck .a).printer.condition = false ∧ (bad.deck .a).printer.condition = true
        ∧ (bad.deck .a).lines.busy = false)
      ∧ ((after (.paperChange .a true) (prn .printing)).deck .a).printer.state = .fault
      ∧ ((stuck.deck .a).printer.stuck = .running 0 ∧ (stuck.deck .a).lines.busy = true
          ∧ (stuck.deck .a).printer.condition = false)
      ∧ ((after (.stuckTimerExpiry .a) stuck).faults.get (.prn .a)).state = .active
      ∧ (ready.deck .a).printer.stuck = .stopped := by decide +kernel

/-- R178: a stuck printer whose BUSY falls, with PAPER inactive and active. -/
theorem witness_PrinterFaultsFollowPaperAndBusy_busyFalls :
    let s (paper : Bool) : State :=
      ((prn .fault fun p => { p with condition := true, stuck := .expired }).modDeckLines .a fun l =>
        { l with busy := true, paper := paper }).setFault (.prn .a) ⟨.active, false, 5, 1⟩
    let t (paper : Bool) : State := after (.busyChange .a false) (s paper)
    (((s true).deck .a).lines.busy = true ∧ ((s true).deck .a).printer.condition = true
        ∧ ((s true).deck .a).printer.state ≠ .printing)
      ∧ (((t false).deck .a).printer.condition = false ∧ ((t false).faults.get (.prn .a)).state = .latched)
      ∧ (((t true).deck .a).printer.condition = true ∧ ((t true).faults.get (.prn .a)).state = .active) := by
  decide +kernel

theorem witness_LayoutAndTicketCommands :
    ((prn .ready).layoutHeld 0 = true ∧ ready.layoutHeld 0 = false)
      ∧ said (.layoutLine 0 (some 24) "~Q".toList) (prn .ready) = some "ER 13 BUSY"
      ∧ said (.layoutLine 0 (some 24) "~Q".toList) ready = some "OK 10"
      ∧ said (.layoutLine 0 (some 25) "~Q".toList) ready = some "ER 11 PARAM"
      ∧ said (.layoutLine 8 (some 1) "~Q".toList) ready = some "ER 11 PARAM"
      ∧ said (.layoutLine 7 (some 1) ("~K~K~K~X".toList ++ ['X'])) ready = some "ER 11 PARAM"
      ∧ said (.layoutLine 7 (some 1) "~K~K~K~X".toList) ready = some "OK 40"
      ∧ said (.ticketReprint .a (some 1)) (purgeable_ 0) = some "ER 15 NOTFOUND"
      ∧ (let s := after .appendComplete (completing .link (.settle (settleAbandoned office v7760
           ⟨37300, 30402, .a, 7, false⟩)) office)
         said (.ticketReprint .a (some 30456)) s = some "OK 1") := by decide +kernel

/-- A line number out of range, and none, for a line and its query. -/
theorem witness_LayoutAndTicketCommands_numbers :
    said (.layoutLine 0 (some 0) []) ready = some "ER 11 PARAM"
      ∧ said (.layoutLine 0 none []) ready = some "ER 11 PARAM"
      ∧ said (.layoutLineQuery 0 (some 25)) ready = some "ER 11 PARAM"
      ∧ said (.layoutLineQuery 0 none) ready = some "ER 11 PARAM"
      ∧ said (.layoutLineQuery 0 (some 24)) ready = some "OK" := by decide +kernel

/-! #### Chapters 10 and 11, and the whole machine -/

/-- The characters of a line. -/
def line_ (t : String) : List LineChar := t.toList.map (sentChar .none)

/-- A reply in progress, a held line and a number of refusals. -/
def link_ (reply : Bool) (held : Option Line) (n : Nat) : State :=
  { ready with link := { ready.link with
      reply := if reply then some (.ok []) else none, held := held, refusals := n } }

theorem witness_LinesAreJudgedAndOffered :
    ready.link.rx = { chars := [], spoiled := false, overflow := false }
      ∧ (ready.link.held = none ∧ ready.link.refusals = 0 ∧ ready.link.reply = none)
      ∧ ((link_ true none 0).link.reply ≠ none ∧ (link_ true (some .spoiled) 0).link.held ≠ none
          ∧ (link_ true none 1).link.refusals ≠ 0)
      ∧ (line_ "   ").length ≤ 200
      ∧ said (.lineComplete (line_ "dec a wei?")) ready = some "OK NONE"
      ∧ said (.lineComplete (line_ "deck a sta 3 4")) ready = some "ER 10 SYNTAX"
      ∧ said (.lineComplete [⟨'A', none, true⟩, ⟨'A', none, false⟩]) ready = some "ER 20 LINE"
      ∧ said (.lineComplete (List.replicate 201 ⟨'A', none, true⟩)) ready = some "ER 21 LONG"
      ∧ (after (.lineComplete (line_ "LINK?")) (link_ true none 0)).link.held = some (.framed "LINK?".toList)
      ∧ (after (.lineComplete (line_ "LINK?")) (link_ true none 255)).link.refusals = 255 := by
  decide +kernel

/-- R184 under EVEN: a line with its parity bits right, one with a bit wrong, and one with none; and a line
that finds the link DETACHED. -/
theorem witness_LinesAreJudgedAndOffered_parity :
    let even := { ready with link := { ready.link with lineParity := .even } }
    let sent (p : Parity) : List LineChar := "METRO?".toList.map (sentChar p)
    let away := { ready with
      link := { ready.link with attended := false, detachedSince := some 10 }
      clock := { now := 70, valid := true, batteryLow := false } }
    (sent .even).all (fun c => c.stop && c.parity.isSome) = true
      ∧ said (.lineComplete (sent .even)) even = some "OK OFF CLEAR 0 NONE - -"
      ∧ said (.lineComplete (sent .none)) even = some "ER 20 LINE"
      ∧ said (.lineComplete [⟨'A', some true, true⟩]) even = some "ER 20 LINE"
      ∧ ((after (.lineComplete (line_ "METRO?")) away).reports.queue.map (·.params)) = [[], ["60"]]
      ∧ (after (.lineComplete (line_ "METRO?")) away).link.attended = true := by decide +kernel

theorem witness_RepliesAndSilence :
    ready.link.reply = none
      ∧ ((link_ true none 0).link.reply ≠ none ∧ (link_ true none 0).link.resetAsked = false)
      ∧ said (.replySent .quiet) (link_ true (some (.framed "LINK?".toList)) 0) = some "OK 9600 NONE 120 ATTENDED 120"
      ∧ said (.replySent .quiet) (link_ true (some .spoiled) 0) = some "ER 20 LINE"
      ∧ said (.replySent .quiet) (link_ true (some .overlong) 1) = some "ER 21 LONG"
      ∧ said (.replySent .quiet) (link_ true none 1) = some "ER 13 BUSY"
      ∧ (ready.link.silenceTimer = .running 120 ∧ ready.link.attended = true)
      ∧ (referred.link.silenceTimer = .running 120 ∧ (referred.machine .a1).clearTimer ≠ .expired
          ∧ ((after .silenceTimerExpiry referred).machine .a1).reason = .detached)
      ∧ (after .silenceTimerExpiry ready).link.attended = false := by decide +kernel

theorem witness_LinkAndPartCommands :
    said (.linkBaud (some (.num 19199))) ready = some "OK CLAMPED 9600"
      ∧ said (.linkBaud (some (.num 115200))) ready = some "OK 115200"
      ∧ said (.linkSilence (some (.time (.num 0)))) ready = some "OK OFF"
      ∧ said (.linkSilence (some (.time (.num 4)))) ready = some "OK CLAMPED 5"
      ∧ said (.linkSilence (some (.time (.num 601)))) ready = some "OK CLAMPED 600"
      ∧ (running.part.run = true ∧ ready.part.run = false)
      ∧ said .partStart ready = some "OK RUN"
      ∧ said .partStart (onA (fun u => { u with params := { u.params with interval := 5 } }) ready)
        = some "ER 12 STATE INCONSISTENT A"
      ∧ said .partStop running = some "OK SETUP" ∧ said .partStop identifying = some "ER 13 BUSY"
      ∧ ((∀ d, (running.deck d).seq.state = .idle) ∧ ∀ e, (running.machine e).state = .idle)
      ∧ (let s := (atA1 .idle).setRun false
         (s.machine .a1).state = .idle ∧ (s.station .a1).lines.approach = true ∧ s.isApproach .a1 = true
          ∧ (s.machine .a1).heldRead = none ∧ (s.machine .a1).conflict = false
          ∧ (s.machine .a1).clearTimer ≠ .expired
          ∧ ((after .partStart s).machine .a1).state = .identifying)
      ∧ (let s := bar .up .hold .quiet
         (s.driver .a1).state = .up ∧ s.safetyOcc .a1 = false ∧ (s.driver .a1).mode ≠ .confirmed
          ∧ ((after .partStop s).driver .a1).state = .lowering) := by
  refine ⟨by decide +kernel, by decide +kernel, by decide +kernel, by decide +kernel, by decide +kernel,
    by decide, by decide +kernel, by decide +kernel, by decide +kernel, by decide +kernel, ⟨?_, ?_⟩,
    by decide +kernel, by decide +kernel⟩
  · intro d; cases d <;> rfl
  · intro e; cases e <;> rfl

/-- R184: a reply on its way, with its parity bits. -/
theorem witness_LinkAndPartCommands_sent :
    let l := (link_ true none 0).link
    let s := { ready with link := { l with lineParity := .even } }
    s.link.reply = some (.ok []) ∧ s.sentLine = some (9600,
      [⟨'O', some true, true⟩, ⟨'K', some false, true⟩, ⟨'\r', some true, true⟩, ⟨'\n', some false, true⟩]) := by
  decide +kernel

theorem witness_PowerOnAndResetAll :
    let s := { link_ true none 0 with link := { (link_ true none 0).link with resetAsked := true } }
    (s.link.resetAsked = true ∧ s.link.reply ≠ none)
      ∧ (after (.replySent .quiet) s).link.resetAsked = false
      ∧ (after (.powerOn ⟨.quiet, none, true⟩) ready).clock = { now := 0, valid := false, batteryLow := true } := by
  decide +kernel

/-- R80: each way a driver starts, and an end woken in RUN by an autostart. -/
theorem witness_PowerOnAndResetAll_drivers :
    let start (m : DriveMode) (l : EndReadings) : Driver :=
      (after (.powerOn ⟨{ Readings.quiet with ends := ⟨l, .quiet, .quiet, .quiet⟩ }, some 0, false⟩)
        (bar .up m .quiet)).driver .a1
    let auto := { yard with part := { yard.part with autostart := true } }
    let woken := after (.powerOn ⟨{ Readings.quiet with ends := ⟨⟨true, false, false, false, false⟩, .quiet, .quiet,
      .quiet⟩ }, some 0, false⟩) auto
    ((start .confirmed (lines_ true false false true)).state = .down
        ∧ (start .hold (lines_ false false false true)).state = .lowering
        ∧ (start .pulse (lines_ true false false false)).state = .up
        ∧ (start .hold (lines_ false true false false)).state = .raising
        ∧ (start .confirmed (lines_ true false false false)).state = .raising
        ∧ (start .confirmed (lines_ true false true false)).state = .up
        ∧ (start .confirmed (lines_ false false true true)).cause = .both)
      ∧ (woken.part.run = true ∧ (woken.machine .a1).state = .identifying) := by decide +kernel

theorem witness_OutcomeQueueCommands :
    let s := after .appendComplete (completing .link (.settle (settleAbandoned office v7760
      ⟨37300, 30402, .a, 7, false⟩)) office)
    s.outcomes.queue.map (·.seq) = [30456]
      ∧ said (.outcomeTake (some 30456)) s = some "OK 0"
      ∧ said (.outcomeTake (some 4294967295)) s = some "ER 17 MISMATCH"
      ∧ said (.outcomeTake (some 1)) ready = some "ER 15 NOTFOUND"
      ∧ said (.outcomeTake (some 0)) ready = some "ER 11 PARAM"
      ∧ said (.outcomeTake (some 4294967296)) ready = some "ER 11 PARAM" := by decide +kernel

theorem witness_ReportQueueCommands :
    ready.reports.queue = [firstReport]
      ∧ said (.reportTake (some 1)) ready = some "OK 0" ∧ said (.reportTake (some 65535)) ready = some "ER 17 MISMATCH"
      ∧ said (.reportTake (some 0)) ready = some "ER 11 PARAM" ∧ said (.reportTake (some 65536)) ready = some "ER 11 PARAM"
      ∧ (ready.reports.selects .fault = true ∧ ready.reports.queue.length < 48)
      ∧ (let q := { ready.reports with faults := .none, queue := List.replicate 48 firstReport }
         q.selects .fault = false ∧ q.selects .powerUp = true ∧ 48 ≤ q.queue.length) := by decide +kernel

/-- The source of A1's barrier in a state, read or not, with the driver in FAULT over given readings. -/
def faulted (st : EntryState) (read : Bool) (m : DriveMode) (safety : Bool) : State :=
  (bar .fault m (lines_ safety false false true)).setFault (.bar .a1) ⟨st, read, 5, 255⟩

theorem witness_FaultTableCommandsAndAttn :
    said .faultQuery ready = some "OK NONE"
      ∧ ((faulted .latched false .hold false).faults.get (.bar .a1)).state ≠ .clear
      ∧ said (.faultClear (some (.bar .a1))) (faulted .active true .hold false) = some "ER 19 ACTIVE"
      ∧ said (.faultClear (some (.bar .a1))) (faulted .latched false .hold false) = some "ER 18 UNREAD"
      ∧ (let s := faulted .latched true .confirmed false
         (s.driver .a1).commanded = .down ∧ (s.deck .a).seq.passageEnd ≠ some .a1
          ∧ ((after (.faultClear (some (.bar .a1))) s).driver .a1).state = .down)
      ∧ ((after (.faultClear (some (.bar .a1))) (faulted .latched true .hold true)).driver .a1).pending = .lower
      ∧ ((after (.faultClear (some (.bar .a1))) (faulted .latched true .hold false)).driver .a1).state = .lowering
      ∧ (let s := (prn .fault).setFault (.prn .a) ⟨.latched, true, 5, 1⟩
         (s.deck .a).printer.state = .fault
          ∧ ((after (.faultClear (some (.prn .a))) s).deck .a).printer.state = .ready) := by decide +kernel

/-- R209: an entry of each state, its condition arising and ending. -/
theorem witness_FaultTableCommandsAndAttn_entries :
    let s (st : EntryState) : State := ready.setFault .journal ⟨st, true, 5, 255⟩
    let en (t : State) : EntryState × Nat := let v := t.faults.get .journal; (v.state, v.count)
    en (condArises .journal ready) = (.active, 1) ∧ en (condEnds .journal ready) = (.clear, 0)
      ∧ en (condArises .journal (s .active)) = (.active, 255)
      ∧ en (condEnds .journal (s .active)) = (.latched, 255)
      ∧ en (condArises .journal (s .latched)) = (.active, 255)
      ∧ en (condEnds .journal (s .latched)) = (.latched, 255)
      ∧ ((condArises .journal (s .latched)).reports = (s .latched).reports)
      ∧ (condEnds .journal (s .active)).reports.queue.map (·.params) = [[], ["255", "LATCHED"]] := by
  decide +kernel

/-! #### CONFIRMED drives, DETACHED ends and the other widened clauses -/

/-- The same with the link DETACHED. -/
def detached (s : State) : State := { s with link := { s.link with attended := false } }

/-- The same with A1's driver CONFIRMED over given inputs. -/
def confirmed (up down : Bool) (s : State) : State :=
  (barA1 (fun b => { b with mode := .confirmed }) s).modLines .a1 fun l => { l with up := up, down := down }

/-- The state and cause of A1's driver, and of its entry. -/
def driverA1 (s : State) : BarrierState × BarrierCause × EntryState :=
  ((s.driver .a1).state, (s.driver .a1).cause, (s.faults.get (.bar .a1)).state)

theorem witness_SafetyLoopEvents_confirmed :
    let t (up down : Bool) := driverA1 (after (.safetyOccupied .a1) (confirmed up down (bar .lowering .hold .quiet)))
    (bar .lowering .hold .quiet).safetyOcc .a1 = false
      ∧ t false false = (.raising, .none, .clear) ∧ t true false = (.up, .none, .clear)
      ∧ t true true = (.fault, .both, .active) := by decide +kernel

theorem witness_BarrierTravelAndPendingRequests_confirmed :
    let t (i : Instr) (st : BarrierState) (p : PendingMove) (up down : Bool) :=
      driverA1 (after i (confirmed up down (bar st .hold .quiet fun b => { b with pending := p })))
    (t (.pendingRaise .a1) .down .raise false true).1 = .raising
      ∧ t (.pendingRaise .a1) .down .raise true false = (.up, .none, .clear)
      ∧ t (.pendingRaise .a1) .down .raise true true = (.fault, .both, .active)
      ∧ (t (.pendingLower .a1) .up .lower true false).1 = .lowering
      ∧ t (.pendingLower .a1) .up .lower false true = (.down, .none, .clear)
      ∧ t (.pendingLower .a1) .up .lower true true = (.fault, .both, .active) := by decide +kernel

theorem witness_BarrierCommandsAndPolarity_confirmed :
    said (.barrierRaise .a1) (confirmed true false (manual .down false)) = some "OK UP"
      ∧ said (.barrierRaise .a1) (confirmed true true (manual .down false)) = some "OK FAULT"
      ∧ said (.barrierLower .a1) (confirmed false true (manual .up false)) = some "OK DOWN"
      ∧ said (.barrierLower .a1) (confirmed true true (manual .up false)) = some "OK FAULT"
      ∧ said (.barrierLower .a1) (confirmed true false (manual .up false)) = some "OK LOWERING" := by
  decide +kernel

/-- R84, R92: a conflict mark at an IDLE end that wakes, ATTENDED and DETACHED. -/
theorem witness_ApproachLoopEvents_conflict :
    let s := endA1 (fun m => { m with conflict := true, heldRead := some 5 }) open_
    let m (s : State) := let x := (after (.approachOccupied .a1) s).machine .a1; (x.state, x.reason, x.prior, x.tag)
    (s.link.attended = true ∧ s.isApproach .a1 = true ∧ (s.machine .a1).state = .idle)
      ∧ m s = (.referred, .tagConflict, .none, some 5)
      ∧ m (detached s) = (.refused, .detached, .tagConflict, some 5) := by decide +kernel

theorem witness_ReaderPortReads_detached :
    let s := detached (atA1 .held fun m => { m with tag := some 7 })
    ((s.machine .a1).tag.or (s.machine .a1).heldRead = some 7 ∧ (s.station .a1).lines.approach = true
        ∧ (s.machine .a1).clearTimer ≠ .expired ∧ (s.machine .a1).rdrCondition = false)
      ∧ (let x := (after (.readReceived .a1 (read_ "0000000008")) s).machine .a1
         (x.state, x.reason, x.prior) = (.refused, .detached, .tagConflict)) := by decide +kernel

/-- R90: a visit opened for a HELD end's tag meanwhile; R86 with the link DETACHED. -/
theorem witness_EndDecisionsAndTimers_duplicate :
    let s := withVisit { v9 with tag := 7 }
      (atA1 .held fun m => { m with tag := some 7, admission := some ⟨1204, 3, .onePass, true⟩ })
    let m (i : Instr) (s : State) := let x := (after i s).machine .a1; (x.state, x.reason, x.prior)
    (s.firstHold false = none ∧ (s.machine .a1).visit = none ∧ (s.visitOf? 7).isSome = true
        ∧ (s.machine .a1).clearTimer ≠ .expired)
      ∧ m (.holdRetest .a1) s = (.referred, .duplicate, .none)
      ∧ m (.holdRetest .a1) (detached s) = (.refused, .detached, .duplicate)
      ∧ m (.identificationTimerExpiry .a1) (detached identifying) = (.refused, .detached, .noTag) := by
  decide +kernel

theorem witness_ArbiterOffersAndGrants_confirmed :
    let t (up down : Bool) := driverA1 (after (.arbiterOffer .a) (confirmed up down (offering .ready .idle 0)))
    (t false true).1 = .raising ∧ t true false = (.up, .none, .clear)
      ∧ t true true = (.fault, .both, .active) := by decide +kernel

theorem witness_PassageAndCloseComplete_confirmed :
    let t (st : BarrierState) (up down : Bool) :=
      after (.passageComplete .a) (confirmed up down (transit .entering .first st true false))
    driverA1 (t .up true false) = (.lowering, .none, .clear)
      ∧ (driverA1 (t .up false true)).1 = .down ∧ ((t .up false true).deck .a).seq.state = .weighing
      ∧ driverA1 (t .up true true) = (.fault, .both, .active)
      ∧ ((t .up true true).deck .a).seq.lowerRequested = true
      ∧ ((t .down false true).deck .a).seq.state = .weighing := by decide +kernel

theorem witness_TransactionStatesEndAtBarrierDown_confirmed :
    let s (st : BarrierState) (lower down : Bool) := confirmed false down (transit .entering .first st true lower)
    ((s .up false true).safetyOcc .a1 = false
        ∧ ((after (.passageComplete .a) (s .up false true)).deck .a).seq.state = .weighing)
      ∧ ((after (.feedbackChange .a1 .down true) (s .lowering true false)).deck .a).seq.state = .weighing := by
  decide +kernel

/-- R96, R102, R103: a CLOSE over waiting ends, and an OPEN over an occupied loop and a CONFIRMED barrier. -/
theorem witness_DeckModesAndSequencerSettings_ends :
    let s := offering .ready .ready 0
    let c := after (.deckClose .a) s
    let o (up : Bool) := after (.deckOpen .a (some .inOnly))
      (confirmed up true ((manual .up false).modLines .a1 fun l => { l with approach := true }))
    ((s.deck .a).settings.mode ≠ .closed ∧ (s.deck .a).seq.state = .idle
        ∧ (s.machine .a1).clearTimer ≠ .expired)
      ∧ ((c.machine .a1).state = .refused ∧ (c.machine .a1).reason = .closed ∧ (c.machine .a2).state = .refused
          ∧ c.visits.table.map (·.number) = [9])
      ∧ (((o false).machine .a1).state = .identifying ∧ (driverA1 (o false)).1 = .down)
      ∧ driverA1 (o true) = (.fault, .both, .active) := by decide +kernel

theorem witness_DeckResetRestartsOneDeck_confirmed :
    let t (st : BarrierState) (safety up down : Bool) :=
      driverA1 (after (.deckReset .a) ((confirmed up down (bar st .hold .quiet)).modLines .a1 fun l =>
        { l with safety := safety }))
    t .up false false true = (.down, .none, .clear) ∧ t .up false true true = (.fault, .both, .active)
      ∧ t .lowering true true false = (.up, .none, .clear) ∧ (t .fault false true false).1 = .lowering
      ∧ t .fault true false true = (.down, .none, .clear) := by decide +kernel

/-- R135 to R137: every form outside its range, whether the account exists or not. -/
theorem witness_AccountCommands_ranges :
    let no (i : Instr) : Prop := said i yard = some "ER 11 PARAM"
    no (.accountCredit 1204 (some 0)) ∧ no (.accountCredit 5 (some 1000000000))
      ∧ no (.accountLimit 1204 (some (-1))) ∧ no (.accountLimit 5 (some 1000000000))
      ∧ no (.accountClasses 1204 (some [16])) ∧ no (.accountClasses 1204 (some [-1]))
      ∧ no (.accountClasses 5 (some [3, 3])) ∧ no (.accountAdd 5 (some (1000000000, [])))
      ∧ no (.accountAdd 5 (some (0, [2, 2])))
      ∧ said (.accountClasses 5 (some [3])) yard = some "ER 15 NOTFOUND"
      ∧ said (.accountLimit 5 (some 0)) yard = some "ER 15 NOTFOUND" := by decide +kernel

/-- R142, R126: a ONE_PASS gross one kilogram short of T + 20e; R165: a clock set with the battery good. -/
theorem witness_CompletionsReachOwners_converted :
    let s := completing (.capture .a) (.weigh 14579 .onePass 10 10 [])
      (let s := committing .weighWrite .onePass
       { s with visits := { s.visits with table :=
          [{ v9 with number := 10, kind := .onePass, first := none, tare := some ⟨14180, .weighed, 0, 7⟩ }] } })
    let k := completing .clock (.clock 77)
      ({ open_ with clock := { now := 0, valid := false, batteryLow := false } }.setFault .clock ⟨.active, true, 5, 1⟩)
    ((s.deck .a).params.interval = 20 ∧ ((s.visit? 10).bind (·.tare)).isSome = true)
      ∧ ((after .appendComplete s).visits.table.map fun v => (v.kind, v.state, v.note, v.tare.isSome))
          = [(.twoPass, .onSite, .tareConflict, false)]
      ∧ ((after .appendComplete s).visits.table.map fun v => v.first.map (·.value)) = [some 14579]
      ∧ ((after .appendComplete k).faults.get .clock).state = .latched := by decide +kernel

theorem witness_RepliesAndSilence_reports :
    (referred.machine .a1).visit = none
      ∧ ((after .silenceTimerExpiry referred).reports.queue.drop referred.reports.queue.length).map
          (fun r => (r.kind, r.params))
        = [(.detached, ["120"]), (.refused, ["DETACHED", "FUNDS", "3C00220B15"])] := by decide +kernel

theorem witness_LinkAndPartCommands_confirmed :
    let t (up down : Bool) := driverA1 (after .partStop (confirmed up down (bar .up .hold .quiet)))
    t false true = (.down, .none, .clear) ∧ t true true = (.fault, .both, .active)
      ∧ (t true false).1 = .lowering := by decide +kernel

/-- R61, R165, R183, R211: the conditions found at power-on, and the clock that RESET ALL keeps. -/
theorem witness_PowerOnAndResetAll_faults :
    let found : Readings := { Readings.quiet with
      ends := ⟨lines_ false true false false, .quiet, .quiet, .quiet⟩
      decks := ⟨{ Readings.quiet.decks.a with busy := true }, { Readings.quiet.decks.b with paper := true }⟩ }
    let t := after (.powerOn ⟨found, some 9, true⟩) (ready.setFault .journal ⟨.active, true, 5, 1⟩)
    let s := { link_ true none 0 with link := { (link_ true none 0).link with resetAsked := true } }
    let fresh : FaultEntry := ⟨.active, false, 9, 1⟩
    (t.faults.get (.loop .a1) = fresh ∧ t.faults.get (.prn .b) = fresh ∧ t.faults.get .clock = fresh
        ∧ t.faults.get .journal = .clear ∧ t.faults.get (.prn .a) = .clear)
      ∧ (t.deck .a).printer.stuck = .running 30
      ∧ (after (.replySent .quiet) s).clock = s.clock := by decide +kernel

/-- R74: the recovery lower of a CONFIRMED driver commanded UP, over a clear loop. -/
theorem witness_FaultTableCommandsAndAttn_recovery :
    let t (up down : Bool) := driverA1 (after (.faultClear (some (.bar .a1)))
      (barA1 (fun b => { b with commanded := .up })
        (confirmed up down (faulted .latched true .confirmed false))))
    t true false = (.lowering, .none, .clear) ∧ t false true = (.down, .none, .clear)
      ∧ t true true = (.fault, .both, .active) := by decide +kernel

/-- A command waiting at the reset state. -/
def waiting_ : State := { State.reset with pending := [.deckTrack .a (some false)] }

theorem witness_StepRunsFrontCommand :
    State.reset.pending = [] ∧ waiting_.pending = [.deckTrack .a (some false)]
      ∧ ran (.deckTrack .a (some false)) waiting_ := ⟨rfl, rfl, _, rfl⟩

theorem witness_OutcomesKeptByEveryStep : OutcomesKept waiting_ ∧ ∃ t, step waiting_ = .next t :=
  ⟨⟨fun d => by cases d <;> decide, by decide, by decide⟩, _, rfl⟩

theorem witness_ZeroKeptByEveryStep : ZeroKept waiting_ ∧ ∃ t, step waiting_ = .next t :=
  ⟨fun d => by cases d <;> rfl, _, rfl⟩

theorem witness_TablesAndFaultsKeptByEveryStep :
    TablesKept waiting_ ∧ FaultsKept waiting_ ∧ ∃ t, step waiting_ = .next t :=
  ⟨by unfold TablesKept; decide +kernel,
    fun f => by
      have h : waiting_.faults.get f = .clear := by
        cases f <;> (try rename_i d c; cases d <;> cases c <;> rfl) <;>
          (try rename_i e; cases e <;> rfl) <;> rfl
      rw [h]; rfl,
    _, rfl⟩

end Sys2Proof.Tests
end

section
/-! PROOFS. What DECK x WEIGHT? shows (R24): its two kinds of fields, with and without a weight. -/

namespace Sys2Proof.Machine

/-! ### The fields of DECK x WEIGHT? (R24) -/

theorem DeckUnit.valueField_of_no_weight {u : DeckUnit} (h : u.wcu.latest = none) :
    u.valueField = "NONE" := by
  simp only [DeckUnit.valueField, h]

theorem DeckUnit.valueField_of_weight {u : DeckUnit} {p : Published} (h : u.wcu.latest = some p) :
    u.valueField = if p.overload then "OVER" else if p.underload then "UNDER" else toString p.disp := by
  simp only [DeckUnit.valueField, h, num]

/-- R13: without a weight only the out-of-service flag can be shown. -/
theorem flagFields_of_no_weight {u : DeckUnit} (h : u.wcu.latest = none) (oos : Bool) :
    flagFields u oos = if oos then ["OOS"] else [] := by
  simp only [flagFields, h, List.nil_append]

theorem flagFields_of_weight {u : DeckUnit} {p : Published} (h : u.wcu.latest = some p) (oos : Bool) :
    flagFields u oos =
      (if p.stable then ["STABLE"] else []) ++ (if p.occupied then ["OCCUPIED"] else [])
        ++ (if p.empty then ["EMPTY"] else []) ++ (if p.invalid then ["INVALID"] else [])
        ++ (if oos then ["OOS"] else []) := by
  simp only [flagFields, h]

theorem answers_deckWeightQuery (d : Deck) (s : State) :
    Answers (.deckWeightQuery d)
      (.ok ((s.deck d).valueField :: flagFields (s.deck d) (s.oos d))) s := rfl

/-- Settles O1: the query judges nothing, so it is answered in every state, and the fields it shows
are read off the latest set, with a weight and without one. -/
theorem weightQueryShowsLatestSet : Obligations.WeightQueryShowsLatestSet := by
  intro d s
  have answered := answers_deckWeightQuery d s
  cases latest : (s.deck d).wcu.latest with
  | none =>
    rw [DeckUnit.valueField_of_no_weight latest, flagFields_of_no_weight latest] at answered
    simpa only [latest] using answered
  | some p =>
    rw [DeckUnit.valueField_of_weight latest, flagFields_of_weight latest] at answered
    simpa only [latest] using answered

end Sys2Proof.Machine
end

section
/-! PROOFS. What the three kinds of settlement contain (R140 to R145). -/

namespace Sys2Proof.Machine

/-! ### The parts of a settlement's computation -/

/-- A visit whose account is in the table is charged to it: log entry 47 is not used. -/
theorem State.accountOr_of_account? {s : State} {n : Nat} {a : Account}
    (found : s.account? n = some a) : s.accountOr n = a := by
  rw [State.accountOr, found, Option.getD_some]

/-- R144 with the floor written out. -/
theorem Account.after_eq_max (a : Account) (charge : Nat) :
    a.after charge = max (-999999999) (a.balance - a.pendingCharge - charge) := rfl

/-- R143 with the rounding written out. -/
theorem chargeOf_eq_max (minimum net rate : Nat) :
    chargeOf minimum net rate = max minimum ((2 * (net * rate) + 1000) / 2000) := rfl

/-- R142: the one-pass test as a comparison of integers. -/
theorem onePassHolds_iff (gross : Int) (tare e : Nat) :
    onePassHolds gross tare e = true ↔ (tare : Int) + 20 * e ≤ gross := by
  rw [onePassHolds, decide_eq_true_iff]
  push_cast
  rfl

section Flow
variable (f g : Int)

theorem flowOf_eq_inward_iff : flowOf f g = .inward ↔ g < f := by
  unfold flowOf
  split_ifs with less more <;> simp [less]

theorem flowOf_eq_outward_iff : flowOf f g = .outward ↔ f < g := by
  unfold flowOf
  split_ifs with less more
  · simp [less.le]
  · simp [more]
  · simp [more]

theorem flowOf_eq_none_iff : flowOf f g = .none ↔ f = g := by
  unfold flowOf
  split_ifs with less more
  · simp [less.ne']
  · simp [more.ne]
  · simp [le_antisymm (not_lt.mp less) (not_lt.mp more)]

/-- R141: with equal weighings the net is 0, so the rate the statement names there does not matter. -/
theorem net_mul_rate_flowOf (c : WasteClass) :
    (f - g).natAbs * c.rate (flowOf f g)
      = (f - g).natAbs * (if g < f then c.inRate else c.outRate) := by
  rcases lt_trichotomy f g with more | rfl | less
  · rw [(flowOf_eq_outward_iff f g).mpr more, if_neg more.not_gt]
    rfl
  · rw [sub_self, Int.natAbs_zero, Nat.zero_mul, Nat.zero_mul]
  · rw [(flowOf_eq_inward_iff f g).mpr less, if_pos less]
    rfl

end Flow

/-! ### What a settlement takes from its account (R144, R145) -/

section Account
variable {s : State} {v : Visit} {a : Account} (found : s.account? v.account = some a)
include found

theorem settleTwoPass_balanceAfter (f g : Committed) :
    (settleTwoPass s v f g).balanceAfter
      = max (-999999999) (a.balance - a.pendingCharge - (settleTwoPass s v f g).charge) := by
  rw [← Account.after_eq_max, ← State.accountOr_of_account? found]
  rfl

theorem settleOnePass_balanceAfter (t : TareUsed) (g : Committed) :
    (settleOnePass s v t g).balanceAfter
      = max (-999999999) (a.balance - a.pendingCharge - (settleOnePass s v t g).charge) := by
  rw [← Account.after_eq_max, ← State.accountOr_of_account? found]
  rfl

theorem settleAbandoned_balanceAfter (f : Committed) :
    (settleAbandoned s v f).balanceAfter = max (-999999999) (a.balance - a.pendingCharge) := by
  have uncharged := Account.after_eq_max a 0
  rw [Nat.cast_zero, sub_zero, ← State.accountOr_of_account? found] at uncharged
  rw [← State.accountOr_of_account? found]
  exact uncharged

theorem settleTwoPass_limit_iff (f g : Committed) :
    (settleTwoPass s v f g).flags.limit = true
      ↔ (settleTwoPass s v f g).balanceAfter < -(a.limit : Int) := by
  rw [← State.accountOr_of_account? found]
  exact decide_eq_true_iff

theorem settleOnePass_limit_iff (t : TareUsed) (g : Committed) :
    (settleOnePass s v t g).flags.limit = true
      ↔ (settleOnePass s v t g).balanceAfter < -(a.limit : Int) := by
  rw [← State.accountOr_of_account? found]
  exact decide_eq_true_iff

end Account

/-! ### The net and the charge (R141 to R143) -/

theorem settleTwoPass_net (s : State) (v : Visit) (f g : Committed) :
    ((settleTwoPass s v f g).net : Int) = |f.value - g.value| :=
  Int.natCast_natAbs (f.value - g.value)

theorem settleTwoPass_charge (s : State) (v : Visit) (f g : Committed) :
    (settleTwoPass s v f g).charge
      = max (s.cls v.cls).minimum
          ((2 * ((settleTwoPass s v f g).net
              * (if g.value < f.value then (s.cls v.cls).inRate else (s.cls v.cls).outRate))
            + 1000) / 2000) := by
  have priced := net_mul_rate_flowOf f.value g.value (s.cls v.cls)
  calc (settleTwoPass s v f g).charge
      = max (s.cls v.cls).minimum
          ((2 * ((f.value - g.value).natAbs
              * (s.cls v.cls).rate (flowOf f.value g.value)) + 1000) / 2000) :=
        chargeOf_eq_max _ _ _
    _ = _ := by rw [priced]; rfl

/-- R142: a gross that passes the one-pass test is no less than the tare, so nothing is cut off. -/
theorem settleOnePass_net (s : State) (v : Visit) (t : TareUsed) (g : Committed) {e : Nat}
    (passed : onePassHolds g.value t.value e = true) :
    ((settleOnePass s v t g).net : Int) = g.value - t.value := by
  have tested := (onePassHolds_iff g.value t.value e).mp passed
  exact Int.toNat_of_nonneg (by omega)

/-! ### The flags that compare (R145) -/

section Flags
variable (s : State) (v : Visit) (f g : Committed) (t : TareUsed)

theorem settleTwoPass_staged_iff :
    (settleTwoPass s v f g).flags.staged = true ↔ f.staged = true ∨ g.staged = true :=
  Bool.or_eq_true_iff

theorem settleTwoPass_calChanged_iff :
    (settleTwoPass s v f g).flags.calChanged = true ↔ f.count ≠ g.count :=
  bne_iff_ne

theorem settleTwoPass_deckChange_iff :
    (settleTwoPass s v f g).flags.deckChange = true ↔ f.deck ≠ g.deck :=
  bne_iff_ne

theorem settleTwoPass_detached_iff :
    (settleTwoPass s v f g).flags.detached = true ↔ s.link.attended = false :=
  iff_of_eq (Bool.not_eq_true' _)

theorem settleOnePass_presetTare_iff :
    (settleOnePass s v t g).flags.presetTare = true ↔ t.source = .preset :=
  beq_iff_eq

theorem settleOnePass_calChanged_iff :
    (settleOnePass s v t g).flags.calChanged = true ↔ t.count ≠ g.count :=
  bne_iff_ne

theorem settleOnePass_detached_iff :
    (settleOnePass s v t g).flags.detached = true ↔ s.link.attended = false :=
  iff_of_eq (Bool.not_eq_true' _)

end Flags

/-- Settles O34, kind by kind: what a settlement copies from the visit and its weighings stands in it
as it is; net, charge, balance after and the flags that compare have a lemma each. -/
theorem settlementsAreComputed : Obligations.SettlementsAreComputed := by
  refine ⟨?twoPass, ?onePass, onePassHolds_iff, ?abandoned⟩
  case twoPass =>
    intro s v f g a found c r rate after
    have balance : r.balanceAfter = after := settleTwoPass_balanceAfter found f g
    have limit : r.flags.limit = true ↔ after < -(a.limit : Int) :=
      balance ▸ settleTwoPass_limit_iff found f g
    exact ⟨rfl, rfl, rfl, rfl, rfl, rfl, rfl, rfl, settleTwoPass_net s v f g,
      flowOf_eq_inward_iff _ _, flowOf_eq_outward_iff _ _, flowOf_eq_none_iff _ _,
      settleTwoPass_charge s v f g, balance, settleTwoPass_staged_iff s v f g, rfl,
      settleTwoPass_calChanged_iff s v f g, limit, rfl, settleTwoPass_detached_iff s v f g,
      settleTwoPass_deckChange_iff s v f g, rfl⟩
  case onePass =>
    intro s v t g a e found passed c r after
    have balance : r.balanceAfter = after := settleOnePass_balanceAfter found t g
    have limit : r.flags.limit = true ↔ after < -(a.limit : Int) :=
      balance ▸ settleOnePass_limit_iff found t g
    exact ⟨rfl, rfl, rfl, rfl, rfl, rfl, rfl, rfl, settleOnePass_net s v t g passed, rfl,
      chargeOf_eq_max _ _ _, balance, rfl, rfl, settleOnePass_presetTare_iff s v g t,
      settleOnePass_calChanged_iff s v g t, limit, rfl, rfl, settleOnePass_detached_iff s v g t⟩
  case abandoned =>
    intro s v g a found x
    exact ⟨rfl, rfl, rfl, rfl, rfl, rfl, rfl, rfl, rfl, rfl, rfl, rfl,
      settleAbandoned_balanceAfter found g, rfl⟩

end Sys2Proof.Machine
end

section
/-! PROOFS. What a step keeps: the relation `Calm` between a state and a later one, which holds of every
operation that leaves the metrology block, the deck parameters and the store alone, and its form
`Guarded`, which also says where a barrier has been raised (R72). Each primitive update of the state has
one lemma here; every operation's lemma is then a chain of them. -/

namespace Sys2Proof.Machine

-- One declaration after another: at once they ask for more threads than the check's limits allow.
set_option Elab.async false

/-! ### What every next state of a result has -/

/-- Every next state that a result gives has the property. -/
def Yields (P : State → Prop) (r : Result State) : Prop := ∀ t, r = .next t → P t

section Yields
variable {P : State → Prop} {s : State}

theorem yields_next (h : P s) : Yields P (.next s) := by
  rintro t ⟨⟩
  exact h

theorem yields_answer {r : Reply} (h : P (s.answered r)) : Yields P (answer r s) := yields_next h

theorem yields_laneWrite {k : Result State} (h : P (s.answered (.er .state []))) (hk : Yields P k) :
    Yields P (laneWrite s k) := by
  unfold laneWrite
  split
  · exact yields_answer h
  · exact hk

theorem yields_writeWord {α : Type} {p : Option α} {f : α → State → State}
    (h : P (s.answered (.er .param []))) (hf : ∀ v, P ((f v s).answered (.ok []))) :
    Yields P (writeWord p f s) := by
  unfold writeWord
  split
  · exact yields_answer h
  · exact yields_answer (hf _)

theorem yields_writeSetting {lo hi dflt : Nat} {p : Option SetArg} {f : Nat → State → State}
    (h : ∀ r, P (s.answered r)) (hf : ∀ v r, P ((f v s).answered r)) :
    Yields P (writeSetting lo hi dflt p f s) := by
  unfold writeSetting
  split
  · exact yields_answer (h _)
  · exact yields_answer (hf _ _)

end Yields

/-! ### The places of the outcome queue at one deck -/

/-- A deck's part of `OutcomesKept`: a place is reserved in SETTLING only, not beside an orphaned one,
and the capture logic rests then. -/
def DeckUnit.SettleSound (u : DeckUnit) : Prop :=
  (u.seq.reservation = true → u.seq.state = .settling)
    ∧ (u.seq.orphanSettle = true → u.seq.reservation = false)
    ∧ (u.seq.state = .settling → u.capture.state = .idle)

/-- A deck's change keeps its part of `OutcomesKept` and the places it holds. -/
def SettleStep (u u' : DeckUnit) : Prop :=
  u.SettleSound → u'.SettleSound ∧ u'.seq.places = u.seq.places

theorem SettleStep.of_eq {u u' : DeckUnit} (hs : u'.seq = u.seq)
    (hc : u'.capture.state = u.capture.state) : SettleStep u u' := by
  intro h
  unfold DeckUnit.SettleSound at *
  rw [hs, hc]
  exact ⟨h, rfl⟩

theorem SettleStep.of_eq_places {u u' : DeckUnit} (hs : u'.seq.state = u.seq.state)
    (hr : u'.seq.reservation = u.seq.reservation) (ho : u'.seq.orphanSettle = u.seq.orphanSettle)
    (hc : u'.capture.state = u.capture.state) : SettleStep u u' := by
  intro h
  unfold DeckUnit.SettleSound Sequencer.places at *
  rw [hs, hr, ho, hc]
  exact ⟨h, rfl⟩

/-- A change of the sequencer outside SETTLING, that reserves nothing, holds no other places: where the
state is not SETTLING nothing was reserved. -/
theorem SettleStep.of_not_settling {u u' : DeckUnit} (h : u.seq.state ≠ .settling)
    (h' : u'.seq.state ≠ .settling)
    (hr : u'.seq.reservation = u.seq.reservation ∨ u'.seq.reservation = false)
    (ho : u'.seq.orphanSettle = u.seq.orphanSettle) : SettleStep u u' := by
  rintro ⟨reserved, -, -⟩
  have none : u.seq.reservation = false := by
    cases hres : u.seq.reservation with
    | false => rfl
    | true => exact absurd (reserved hres) h
  have none' : u'.seq.reservation = false := by
    rcases hr with hr | hr
    · rw [hr, none]
    · exact hr
  exact ⟨⟨by simp [none'], fun _ => none', fun hs => absurd hs h'⟩, by
    simp only [Sequencer.places, none, none', ho]⟩

/-- `OutcomesKept` with the deck's part named. -/
theorem outcomesKept_iff (s : State) : OutcomesKept s ↔
    (∀ d, s.journal.load (.settle d) ≤ (s.deck d).seq.places) ∧ (∀ d, (s.deck d).SettleSound)
      ∧ s.journal.load .link ≤ countOf s.link.closing.isSome
      ∧ s.outcomes.queue.length + ((s.deck .a).seq.places + (s.deck .b).seq.places
          + countOf s.link.closing.isSome) ≤ 64 := by
  constructor
  · rintro ⟨hd, hl, hq⟩
    exact ⟨fun d => (hd d).1, fun d => (hd d).2, hl, hq⟩
  · rintro ⟨hj, hd, hl, hq⟩
    exact ⟨fun d => ⟨hj d, hd d⟩, hl, hq⟩

theorem OutcomesKept.of_steps {s t : State} (h : OutcomesKept s)
    (hd : ∀ d, SettleStep (s.deck d) (t.deck d))
    (hj : ∀ r, r = .link ∨ (∃ d, r = .settle d) → t.journal.load r ≤ s.journal.load r)
    (hl : t.link.closing = s.link.closing) (ho : t.outcomes = s.outcomes) : OutcomesKept t := by
  rw [outcomesKept_iff] at *
  obtain ⟨hload, hsound, hlink, hroom⟩ := h
  have places : ∀ d, (t.deck d).seq.places = (s.deck d).seq.places := fun d => (hd d (hsound d)).2
  refine ⟨fun d => ?_, fun d => (hd d (hsound d)).1, ?_, ?_⟩
  · rw [places]
    exact (hj _ (.inr ⟨d, rfl⟩)).trans (hload d)
  · rw [hl]
    exact (hj _ (.inl rfl)).trans hlink
  · rw [places, places, hl, ho]
    exact hroom

/-! ### The tables and the fault entries -/

/-- A fault entry of the shape section 11.3 gives it. -/
def FaultEntry.Shaped (en : FaultEntry) : Prop :=
  if en.state = .clear then en = .clear else 1 ≤ en.count ∧ en.count ≤ 255

theorem FaultEntry.Shaped.clear : FaultEntry.clear.Shaped := rfl

theorem FaultEntry.Shaped.of_count {en : FaultEntry} (h : en.state ≠ .clear) (low : 1 ≤ en.count)
    (high : en.count ≤ 255) : en.Shaped := by
  rw [FaultEntry.Shaped, if_neg h]
  exact ⟨low, high⟩

theorem faultsKept_setFault {s : State} {f : FaultSource} {v : FaultEntry} (h : FaultsKept s)
    (hv : v.Shaped) : FaultsKept (s.setFault f v) := by
  intro g
  by_cases hg : g = f
  · subst hg
    change ((s.faults.set g v).get g).Shaped
    rwa [FaultTable.get_set]
  · rw [State.setFault_faults, FaultTable.get_set_of_ne _ _ hg]
    exact h g

/-- `TablesKept` with the printers of both decks named at once. -/
theorem tablesKept_iff (s : State) : TablesKept s ↔
    s.visits.table.length ≤ 64 ∧ s.tares.table.length = 256 ∧ s.accounts.length ≤ 128
    ∧ s.admission.entries.length = 32 ∧ s.classes.length = 16 ∧ s.layouts.length = 8
    ∧ s.reports.queue.length ≤ 48 ∧ s.reports.lost ≤ 65535 ∧ s.link.refusals ≤ 255
    ∧ ∀ d, (s.deck d).printer.queue.length ≤ 4 := by
  unfold TablesKept
  constructor
  · rintro ⟨h1, h2, h3, h4, h5, h6, h7, h8, h9, ha, hb⟩
    exact ⟨h1, h2, h3, h4, h5, h6, h7, h8, h9, fun d => by cases d <;> assumption⟩
  · rintro ⟨h1, h2, h3, h4, h5, h6, h7, h8, h9, hd⟩
    exact ⟨h1, h2, h3, h4, h5, h6, h7, h8, h9, hd .a, hd .b⟩

theorem tablesKept_offer {s : State} (k : ReportKind) (subj : Subject) (ps : List String)
    (h : TablesKept s) : TablesKept (offer k subj ps s) := by
  obtain ⟨h1, h2, h3, h4, h5, h6, h7, h8, rest⟩ := h
  obtain ⟨-, he⟩ | ⟨-, hlt, he⟩ | ⟨-, -, he⟩ := offer_cases s k subj ps <;> rw [he]
  · exact ⟨h1, h2, h3, h4, h5, h6, h7, h8, rest⟩
  · exact ⟨h1, h2, h3, h4, h5, h6, by simp; omega, Nat.zero_le _, rest⟩
  · exact ⟨h1, h2, h3, h4, h5, h6, h7, Nat.min_le_left _ _, rest⟩

/-! ### The relations -/

/-- `t` comes of `s` with the journal's pages, next sequence and mark of what is exported as they were, and with the
invariants of the tables, the fault entries and the outcome queue kept. -/
structure Kept (s t : State) : Prop where
  pages : t.journal.pages = s.journal.pages
  nextSeq : t.journal.nextSeq = s.journal.nextSeq
  exported : t.journal.exported = s.journal.exported
  tables : TablesKept s → TablesKept t
  faults : FaultsKept s → FaultsKept t
  outcomes : OutcomesKept s → OutcomesKept t

/-- `Kept`, with the metrology block and the parameters and zeros of both decks as they were too. -/
structure Calm (s t : State) : Prop extends Kept s t where
  metro : t.metro = s.metro
  params : ∀ d, (t.deck d).params = (s.deck d).params
  zero : ∀ d, (t.deck d).wcu.zero = (s.deck d).wcu.zero

/-- R72, over a whole command: a barrier that was DOWN and now stands or moves up has the other barrier
of its deck DOWN. -/
def Raised (s t : State) : Prop :=
  ∀ e, (s.driver e).state = .down → (t.driver e).state.upward = true →
    (t.driver e.other).state = .down

/-- `Calm`, with the barriers raised as R72 permits. -/
structure Guarded (s t : State) : Prop extends Calm s t where
  raised : Raised s t

theorem Kept.refl (s : State) : Kept s s := ⟨rfl, rfl, rfl, id, id, id⟩

theorem Kept.trans {s t u : State} (h : Kept s t) (k : Kept t u) : Kept s u where
  pages := k.pages.trans h.pages
  nextSeq := k.nextSeq.trans h.nextSeq
  exported := k.exported.trans h.exported
  tables := k.tables ∘ h.tables
  faults := k.faults ∘ h.faults
  outcomes := k.outcomes ∘ h.outcomes

theorem Calm.refl (s : State) : Calm s s := ⟨.refl s, rfl, fun _ => rfl, fun _ => rfl⟩

theorem Calm.trans {s t u : State} (h : Calm s t) (k : Calm t u) : Calm s u where
  toKept := h.toKept.trans k.toKept
  metro := k.metro.trans h.metro
  params d := (k.params d).trans (h.params d)
  zero d := (k.zero d).trans (h.zero d)

theorem raised_of_same_driver {s t : State} (h : ∀ e, (t.driver e).state = (s.driver e).state) :
    Raised s t := by
  intro e hdown hup
  rw [h e, hdown] at hup
  cases hup

theorem Guarded.refl (s : State) : Guarded s s :=
  ⟨Calm.refl s, raised_of_same_driver fun _ => rfl⟩

theorem Raised.congr {s t t' : State} (h : Raised s t) (hd : ∀ e, t'.driver e = t.driver e) :
    Raised s t' := by
  intro e
  rw [hd, hd]
  exact h e

/-- An operation that is calm and leaves every driver as it is keeps `Guarded`. -/
theorem Guarded.calm {s t u : State} (h : Guarded s t) (k : Calm t u)
    (hd : ∀ e, u.driver e = t.driver e) : Guarded s u :=
  ⟨h.toCalm.trans k, h.raised.congr hd⟩

/-! ### The primitive updates are calm -/

section Calm
variable {s : State}

/-- An update of blocks that none of the three invariants, the parameters, the store and the metrology
block stand in. -/
theorem calm_of_eq {t : State} (metro : t.metro = s.metro) (decks : t.decks = s.decks)
    (journal : t.journal = s.journal) (faults : t.faults = s.faults)
    (closing : t.link.closing = s.link.closing) (outcomes : t.outcomes = s.outcomes)
    (tables : TablesKept s → TablesKept t) : Calm s t where
  metro := metro
  params d := by rw [State.deck, decks]; rfl
  zero d := by rw [State.deck, decks]; rfl
  pages := by rw [journal]
  nextSeq := by rw [journal]
  exported := by rw [journal]
  tables := tables
  faults h f := by rw [faults]; exact h f
  outcomes h := h.of_steps (fun d => by rw [State.deck, State.deck, decks]; exact .of_eq rfl rfl)
    (fun r _ => by rw [journal]) closing outcomes

theorem calm_modStation (e : EndId) (f : Station → Station) : Calm s (s.modStation e f) :=
  calm_of_eq rfl rfl rfl rfl rfl rfl id

theorem calm_offer (k : ReportKind) (subj : Subject) (ps : List String) : Calm s (offer k subj ps s) :=
  calm_of_eq (by simp) (by simp) (by simp) (by simp) (by simp) (by simp) (tablesKept_offer k subj ps)

theorem calm_modVisits {f : Visits → Visits}
    (h : s.visits.table.length ≤ 64 → (f s.visits).table.length ≤ 64) : Calm s (s.modVisits f) :=
  calm_of_eq rfl rfl rfl rfl rfl rfl fun ⟨h1, rest⟩ => ⟨h h1, rest⟩

theorem calm_modVisit (n : Nat) (f : Visit → Visit) : Calm s (s.modVisit n f) :=
  calm_modVisits fun h => by simpa using h

theorem calm_removeVisit (n : Nat) : Calm s (s.removeVisit n) :=
  calm_modVisits fun h => (List.length_filter_le _ _).trans h

theorem calm_modAccount (n : Nat) (f : Account → Account) : Calm s (s.modAccount n f) :=
  calm_of_eq rfl rfl rfl rfl rfl rfl fun ⟨h1, h2, h3, rest⟩ => ⟨h1, h2, by simpa using h3, rest⟩

theorem calm_modLink {f : Link → Link} (hc : (f s.link).closing = s.link.closing)
    (hr : s.link.refusals ≤ 255 → (f s.link).refusals ≤ 255) : Calm s (s.modLink f) :=
  calm_of_eq rfl rfl rfl rfl hc rfl
    fun ⟨h1, h2, h3, h4, h5, h6, h7, h8, h9, rest⟩ => ⟨h1, h2, h3, h4, h5, h6, h7, h8, hr h9, rest⟩

theorem calm_modReports {f : Reports → Reports}
    (hq : s.reports.queue.length ≤ 48 → (f s.reports).queue.length ≤ 48)
    (hl : (f s.reports).lost = s.reports.lost) : Calm s (s.modReports f) :=
  calm_of_eq rfl rfl rfl rfl rfl rfl
    fun ⟨h1, h2, h3, h4, h5, h6, h7, h8, rest⟩ =>
      ⟨h1, h2, h3, h4, h5, h6, hq h7, (congrArg (· ≤ 65535) hl).mpr h8, rest⟩

/-- An update of the journal that keeps its pages, next sequence and mark of what is exported, and asks for no
settlement. -/
theorem calm_modJournal {f : Journal → Journal} (hp : (f s.journal).pages = s.journal.pages)
    (hn : (f s.journal).nextSeq = s.journal.nextSeq) (he : (f s.journal).exported = s.journal.exported)
    (hl : ∀ r, r = .link ∨ (∃ d, r = .settle d) → (f s.journal).load r ≤ s.journal.load r) :
    Calm s (s.modJournal f) where
  metro := rfl
  params _ := rfl
  zero _ := rfl
  pages := hp
  nextSeq := hn
  exported := he
  tables := id
  faults := id
  outcomes h := h.of_steps (fun _ => .of_eq rfl rfl) hl rfl rfl

theorem Journal.load_append (j : Journal) (x : Request) (r : Requester) :
    Journal.load { j with pending := j.pending ++ [x] } r
      = j.load r + countOf (x.requester == r) := by
  simp only [Journal.load, List.countP_append, List.countP_singleton, countOf]
  omega

/-- A request for a record that is no settlement. -/
theorem calm_journalRequest {r : Requester} (d : Option Deck) (b : Body) (hl : r ≠ .link)
    (hs : ∀ d, r ≠ .settle d) : Calm s (journalRequest r d b s) := by
  refine calm_modJournal rfl rfl rfl fun q hq => ?_
  have other : (r == q) = false := by
    rw [beq_eq_false_iff_ne]
    rintro rfl
    obtain hq | ⟨d, hq⟩ := hq
    exacts [hl hq, hs d hq]
  rw [Journal.load_append, other]
  rfl

theorem calm_answered (r : Reply) : Calm s (s.answered r) where
  metro := rfl
  params _ := rfl
  zero _ := rfl
  pages := rfl
  nextSeq := rfl
  exported := rfl
  tables := id
  faults := id
  outcomes h := h.of_steps (fun _ => .of_eq rfl rfl) (fun _ _ => le_rfl) rfl rfl

theorem calm_setFault {f : FaultSource} {v : FaultEntry} (hv : FaultsKept s → v.Shaped) :
    Calm s (s.setFault f v) where
  metro := rfl
  params _ := rfl
  zero _ := rfl
  pages := rfl
  nextSeq := rfl
  exported := rfl
  tables := id
  faults h := faultsKept_setFault h (hv h)
  outcomes h := h.of_steps (fun _ => .of_eq rfl rfl) (fun _ _ => le_rfl) rfl rfl

theorem calm_condArises (f : FaultSource) : Calm s (condArises f s) := by
  unfold condArises
  dsimp only
  split
  · exact (calm_setFault fun _ => .of_count (by simp) le_rfl (by simp)).trans
      (calm_offer _ _ _)
  · rename_i active
    exact calm_setFault fun _ =>
      .of_count (by simp [active]) (by dsimp only; omega) (Nat.min_le_left _ _)
  · exact calm_setFault fun _ =>
      .of_count (by simp) (by dsimp only; omega) (Nat.min_le_left _ _)

theorem calm_condEnds (f : FaultSource) : Calm s (condEnds f s) := by
  unfold condEnds
  dsimp only
  split
  · rename_i active
    refine (calm_setFault fun h => ?_).trans (calm_offer _ _ _)
    have shaped := h f
    rw [if_neg (by simp [active])] at shaped
    exact .of_count (by simp) shaped.1 shaped.2
  · exact .refl s
  · exact .refl s

theorem calm_signal (f : FaultSource) (g : Signal) : Calm s (signal f g s) := by
  cases g
  exacts [.refl s, calm_condArises f, calm_condEnds f]

/-- What holds of a deck changed and of any deck left alone holds of every deck. -/
theorem modDeck_each {Q : DeckUnit → DeckUnit → Prop} {d : Deck} {f : DeckUnit → DeckUnit}
    (h : Q (s.deck d) (f (s.deck d))) (hr : ∀ u, Q u u) (x : Deck) :
    Q (s.deck x) ((s.modDeck d f).deck x) := by
  by_cases hx : x = d
  · subst hx
    rwa [State.modDeck_deck]
  · rw [State.modDeck_deck_of_ne s f hx]
    exact hr _

theorem tablesKept_modDeck {d : Deck} {f : DeckUnit → DeckUnit}
    (hq : (s.deck d).printer.queue.length ≤ 4 → (f (s.deck d)).printer.queue.length ≤ 4)
    (h : TablesKept s) : TablesKept (s.modDeck d f) := by
  rw [tablesKept_iff] at *
  obtain ⟨h1, h2, h3, h4, h5, h6, h7, h8, h9, hd⟩ := h
  exact ⟨h1, h2, h3, h4, h5, h6, h7, h8, h9, fun x => modDeck_each
    (Q := fun u v => u.printer.queue.length ≤ 4 → v.printer.queue.length ≤ 4) hq (fun _ => id) x (hd x)⟩

/-- An update of a deck that keeps its printer queue and its part of `OutcomesKept`. -/
theorem kept_modDeck {d : Deck} {f : DeckUnit → DeckUnit}
    (hq : (s.deck d).printer.queue.length ≤ 4 → (f (s.deck d)).printer.queue.length ≤ 4)
    (ho : SettleStep (s.deck d) (f (s.deck d))) : Kept s (s.modDeck d f) where
  pages := rfl
  nextSeq := rfl
  exported := rfl
  tables := tablesKept_modDeck hq
  faults := id
  outcomes h := h.of_steps (modDeck_each ho fun _ => .of_eq rfl rfl) (fun _ _ => le_rfl) rfl rfl

/-- Any change of a sequencer that keeps `OutcomesKept`. -/
theorem calm_modSeq {d : Deck} {f : Sequencer → Sequencer}
    (ho : OutcomesKept s → OutcomesKept (s.modSeq d f)) : Calm s (s.modSeq d f) where
  pages := rfl
  nextSeq := rfl
  exported := rfl
  tables := tablesKept_modDeck (f := fun u => { u with seq := f u.seq }) id
  faults := id
  outcomes := ho
  metro := rfl
  params := modDeck_each (Q := fun u v => v.params = u.params)
    (f := fun u => { u with seq := f u.seq }) rfl fun _ => rfl
  zero := modDeck_each (Q := fun u v => v.wcu.zero = u.wcu.zero)
    (f := fun u => { u with seq := f u.seq }) rfl fun _ => rfl

/-- An update of a deck that keeps its parameters and zero too. -/
theorem calm_modDeck {d : Deck} {f : DeckUnit → DeckUnit}
    (hp : (f (s.deck d)).params = (s.deck d).params)
    (hz : (f (s.deck d)).wcu.zero = (s.deck d).wcu.zero)
    (hq : (s.deck d).printer.queue.length ≤ 4 → (f (s.deck d)).printer.queue.length ≤ 4)
    (ho : SettleStep (s.deck d) (f (s.deck d))) : Calm s (s.modDeck d f) where
  toKept := kept_modDeck hq ho
  metro := rfl
  params := modDeck_each (Q := fun u v => v.params = u.params) hp fun _ => rfl
  zero := modDeck_each (Q := fun u v => v.wcu.zero = u.wcu.zero) hz fun _ => rfl

theorem kept_modMetro (f : Metro → Metro) : Kept s (s.modMetro f) where
  pages := rfl
  nextSeq := rfl
  exported := rfl
  tables := id
  faults := id
  outcomes h := h.of_steps (fun _ => .of_eq rfl rfl) (fun _ _ => le_rfl) rfl rfl

end Calm

/-! ### The primitive updates are guarded

An operation's lemma is a chain of these; `Guarded s t` speaks of the command's start `s` throughout. -/

section Guarded
variable {s t : State}

@[simp] theorem modMachine_driver (e x : EndId) (f : EndMachine → EndMachine) (s : State) :
    (s.modMachine e f).driver x = s.driver x := by cases e <;> cases x <;> rfl

@[simp] theorem modLines_driver (e x : EndId) (f : EndReadings → EndReadings) (s : State) :
    (s.modLines e f).driver x = s.driver x := by cases e <;> cases x <;> rfl

@[simp] theorem offer_driver (k : ReportKind) (subj : Subject) (ps : List String) (x : EndId)
    (s : State) : (offer k subj ps s).driver x = s.driver x := by
  rw [State.driver, offer_ends]
  rfl

@[simp] theorem condArises_driver_eq (f : FaultSource) (x : EndId) (s : State) :
    (condArises f s).driver x = s.driver x := by
  obtain ⟨v, r, h, -⟩ := condArises_spec s f
  rw [h]
  rfl

@[simp] theorem signal_driver (f : FaultSource) (g : Signal) (x : EndId) (s : State) :
    (signal f g s).driver x = s.driver x := by
  obtain ⟨v, r, h⟩ := signal_frame s f g
  rw [h]
  rfl

@[simp] theorem condEnds_driver (f : FaultSource) (x : EndId) (s : State) :
    (condEnds f s).driver x = s.driver x := signal_driver f .ends x s

theorem Guarded.modMachine (h : Guarded s t) {e : EndId} {f : EndMachine → EndMachine} :
    Guarded s (t.modMachine e f) := h.calm (calm_modStation e _) fun x => modMachine_driver e x f t

theorem Guarded.modLines (h : Guarded s t) {e : EndId} {f : EndReadings → EndReadings} :
    Guarded s (t.modLines e f) := h.calm (calm_modStation e _) fun x => modLines_driver e x f t

theorem Guarded.offer (h : Guarded s t) {k : ReportKind} {subj : Subject} {ps : List String} :
    Guarded s (offer k subj ps t) := h.calm (calm_offer k subj ps) fun x => offer_driver k subj ps x t

theorem Guarded.modVisit (h : Guarded s t) {n : Nat} {f : Visit → Visit} :
    Guarded s (t.modVisit n f) := h.calm (calm_modVisit n f) fun _ => rfl

theorem Guarded.removeVisit (h : Guarded s t) {n : Nat} : Guarded s (t.removeVisit n) :=
  h.calm (calm_removeVisit n) fun _ => rfl

theorem Guarded.removeVisit? (h : Guarded s t) {n : Option Nat} : Guarded s (t.removeVisit? n) := by
  cases n
  exacts [h, h.removeVisit]

theorem Guarded.modVisits (h : Guarded s t) {f : Visits → Visits}
    (hf : t.visits.table.length ≤ 64 → (f t.visits).table.length ≤ 64) : Guarded s (t.modVisits f) :=
  h.calm (calm_modVisits hf) fun _ => rfl

theorem Guarded.modAccount (h : Guarded s t) {n : Nat} {f : Account → Account} :
    Guarded s (t.modAccount n f) := h.calm (calm_modAccount n f) fun _ => rfl

theorem Guarded.modLink (h : Guarded s t) {f : Link → Link}
    (hc : (f t.link).closing = t.link.closing := by rfl)
    (hr : t.link.refusals ≤ 255 → (f t.link).refusals ≤ 255 := by exact id) :
    Guarded s (t.modLink f) := h.calm (calm_modLink hc hr) fun _ => rfl

theorem Guarded.modJournal (h : Guarded s t) {f : Journal → Journal}
    (hp : (f t.journal).pages = t.journal.pages := by rfl)
    (hn : (f t.journal).nextSeq = t.journal.nextSeq := by rfl)
    (he : (f t.journal).exported = t.journal.exported := by rfl)
    (hl : ∀ r, r = .link ∨ (∃ d, r = .settle d) → (f t.journal).load r ≤ t.journal.load r := by
      exact fun _ _ => le_rfl) :
    Guarded s (t.modJournal f) := h.calm (calm_modJournal hp hn he hl) fun _ => rfl

theorem Guarded.journalRequest (h : Guarded s t) {r : Requester} {d : Option Deck} {b : Body}
    (hl : r ≠ .link := by intro h; cases h) (hs : ∀ d, r ≠ .settle d := by intro d h; cases h) :
    Guarded s (journalRequest r d b t) := h.calm (calm_journalRequest d b hl hs) fun _ => rfl

theorem Guarded.answered (h : Guarded s t) {r : Reply} : Guarded s (t.answered r) :=
  h.calm (calm_answered r) fun _ => rfl

theorem Guarded.condArises (h : Guarded s t) {f : FaultSource} : Guarded s (condArises f t) :=
  h.calm (calm_condArises f) fun x => condArises_driver_eq f x t

theorem Guarded.condEnds (h : Guarded s t) {f : FaultSource} : Guarded s (condEnds f t) :=
  h.calm (calm_condEnds f) fun x => condEnds_driver f x t

theorem Guarded.signal (h : Guarded s t) {f : FaultSource} {g : Signal} : Guarded s (signal f g t) :=
  h.calm (calm_signal f g) fun x => signal_driver f g x t

theorem Guarded.setFault (h : Guarded s t) {f : FaultSource} {v : FaultEntry}
    (hv : FaultsKept t → v.Shaped) : Guarded s (t.setFault f v) :=
  h.calm (calm_setFault hv) fun _ => rfl

theorem Guarded.modDeck (h : Guarded s t) {d : Deck} {f : DeckUnit → DeckUnit}
    (hp : (f (t.deck d)).params = (t.deck d).params := by rfl)
    (hz : (f (t.deck d)).wcu.zero = (t.deck d).wcu.zero := by rfl)
    (hq : (t.deck d).printer.queue.length ≤ 4 → (f (t.deck d)).printer.queue.length ≤ 4 := by exact id)
    (ho : SettleStep (t.deck d) (f (t.deck d)) := by exact .of_eq rfl rfl) :
    Guarded s (t.modDeck d f) := h.calm (calm_modDeck hp hz hq ho) fun _ => rfl

theorem Guarded.modWcu (h : Guarded s t) {d : Deck} {f : Wcu → Wcu}
    (hz : (f (t.deck d).wcu).zero = (t.deck d).wcu.zero := by rfl) : Guarded s (t.modWcu d f) :=
  h.modDeck rfl hz

theorem Guarded.modSettings (h : Guarded s t) {d : Deck} {f : DeckSettings → DeckSettings} :
    Guarded s (t.modSettings d f) := h.modDeck

theorem Guarded.modDeckLines (h : Guarded s t) {d : Deck} {f : DeckReadings → DeckReadings} :
    Guarded s (t.modDeckLines d f) := h.modDeck

theorem Guarded.modCapture (h : Guarded s t) {d : Deck} {f : Capture → Capture}
    (hc : (f (t.deck d).capture).state = (t.deck d).capture.state := by rfl) :
    Guarded s (t.modCapture d f) := h.modDeck rfl rfl id (.of_eq rfl hc)

/-- A capture logic may do anything outside SETTLING, and may go to rest at any time. -/
theorem Guarded.modCapture_free (h : Guarded s t) {d : Deck} {f : Capture → Capture}
    (hc : (t.deck d).seq.state = .settling → (f (t.deck d).capture).state = .idle) :
    Guarded s (t.modCapture d f) :=
  h.modDeck rfl rfl id fun ⟨hr, ho, _⟩ => ⟨⟨hr, ho, hc⟩, rfl⟩

theorem Guarded.modPrinter (h : Guarded s t) {d : Deck} {f : Printer → Printer}
    (hq : (t.deck d).printer.queue.length ≤ 4 → (f (t.deck d).printer).queue.length ≤ 4 := by exact id) :
    Guarded s (t.modPrinter d f) := h.modDeck rfl rfl hq

/-- A change of the sequencer that touches neither its state nor its places. -/
theorem Guarded.modSeq (h : Guarded s t) {d : Deck} {f : Sequencer → Sequencer}
    (hs : (f (t.deck d).seq).state = (t.deck d).seq.state := by rfl)
    (hr : (f (t.deck d).seq).reservation = (t.deck d).seq.reservation := by rfl)
    (ho : (f (t.deck d).seq).orphanSettle = (t.deck d).seq.orphanSettle := by rfl) :
    Guarded s (t.modSeq d f) := h.modDeck rfl rfl id (.of_eq_places hs hr ho rfl)

/-- A change of the sequencer's state outside SETTLING. -/
theorem Guarded.modSeq_free (h : Guarded s t) {d : Deck} {f : Sequencer → Sequencer}
    (hn : (t.deck d).seq.state ≠ .settling)
    (hs : (f (t.deck d).seq).state ≠ .settling := by intro h; cases h)
    (hr : (f (t.deck d).seq).reservation = (t.deck d).seq.reservation
      ∨ (f (t.deck d).seq).reservation = false := by exact .inl rfl)
    (ho : (f (t.deck d).seq).orphanSettle = (t.deck d).seq.orphanSettle := by rfl) :
    Guarded s (t.modSeq d f) := h.modDeck rfl rfl id (.of_not_settling hn hs hr ho)

end Guarded

end Sys2Proof.Machine
end

section
/-! PROOFS. The barrier drivers' operations: each is calm, and what each makes of the driver's state, so
that every raise of a command is one R72 permits. -/

namespace Sys2Proof.Machine

-- One declaration after another: at once they ask for more threads than the check's limits allow.
set_option Elab.async false

variable {s t u : State} {e : EndId}

/-! ### The operations are calm -/

theorem calm_modDriver (e : EndId) (f : Driver → Driver) : Calm s (s.modDriver e f) :=
  calm_modStation e _

theorem calm_barrierCondition (e : EndId) (s : State) : Calm s (barrierCondition e s) := by
  unfold barrierCondition
  dsimp only
  split
  · exact .refl s
  · exact (calm_modDriver e _).trans (calm_signal _ _)

theorem calm_faultSafety (e : EndId) (s : State) : Calm s (faultSafety e s) := by
  unfold faultSafety
  dsimp only
  split
  · exact (calm_modDriver e _).trans (calm_barrierCondition e _)
  · exact .refl s

theorem calm_enterBarrierFault (e : EndId) (c : BarrierCause) (s : State) :
    Calm s (enterBarrierFault e c s) :=
  ((calm_modDriver e _).trans (calm_condArises _)).trans (calm_faultSafety e _)

theorem calm_watchFeedback (e : EndId) (s : State) : Calm s (watchFeedback e s) := by
  unfold watchFeedback
  split
  · exact .refl s
  · exact calm_modDriver e _
  · exact calm_enterBarrierFault e _ s

theorem calm_startUp (e : EndId) (s : State) : Calm s (startUp e s) :=
  (calm_modDriver e _).trans (calm_watchFeedback e _)

theorem calm_startDown (e : EndId) (s : State) : Calm s (startDown e s) :=
  (calm_modDriver e _).trans (calm_watchFeedback e _)

theorem calm_setPending (e : EndId) (p : PendingMove) (s : State) : Calm s (setPending e p s) :=
  calm_modDriver e _

theorem calm_raiseExecuted (e : EndId) (s : State) : Calm s (raiseExecuted e s) := by
  have started := (calm_setPending e .none s).trans (calm_startUp e _)
  have kept := calm_setPending e .none s
  unfold raiseExecuted
  split
  exacts [started, started, kept, kept, kept]

theorem calm_lowerRequest (e : EndId) (s : State) : Calm s (lowerRequest e s) := by
  have dropped : Calm s (if (s.driver e).pending = .raise then setPending e .none s else s) := by
    split
    · exact calm_setPending e _ s
    · exact .refl s
  have lowered := (dropped.trans (calm_setPending e .none _)).trans (calm_startDown e _)
  have waits := dropped.trans (calm_setPending e .lower _)
  unfold lowerRequest
  dsimp only
  split
  · split
    exacts [waits, lowered]
  · split
    exacts [waits, lowered]
  · exact dropped
  · exact dropped
  · exact dropped

theorem calm_driverSafetyOccupied (e : EndId) (s : State) : Calm s (driverSafetyOccupied e s) := by
  unfold driverSafetyOccupied
  split
  · exact (calm_setPending e _ s).trans (calm_startUp e _)
  · exact calm_faultSafety e s
  · exact .refl s
  · exact .refl s
  · exact .refl s

theorem calm_recoveryLower (e : EndId) (s : State) : Calm s (recoveryLower e s) := by
  unfold recoveryLower
  dsimp only
  split
  · exact .refl s
  · split
    · exact (calm_modDriver e _).trans (calm_modDriver e _)
    · split
      · exact (calm_modDriver e _).trans (calm_modDriver e _)
      · exact (calm_modDriver e _).trans (calm_startDown e _)

theorem calm_startDriver (e : EndId) (s : State) : Calm s (startDriver e s) := by
  have rested : Calm s (s.modDriver e Driver.rested) := calm_modDriver e _
  unfold startDriver
  dsimp only
  split
  · exact rested.trans (calm_modDriver e _)
  · split
    · exact rested.trans (calm_startDown e _)
    · split
      · exact rested.trans (calm_modDriver e _)
      · exact (rested.trans (calm_setPending e _ _)).trans (calm_startUp e _)

theorem calm_resetDriver (e : EndId) (s : State) : Calm s (resetDriver e s) := by
  have lowered := (calm_setPending e .none s).trans (calm_startDown e _)
  have raised := (calm_setPending e .lower s).trans (calm_startUp e _)
  have waits := calm_setPending e .lower s
  unfold resetDriver
  split
  · exact calm_setPending e _ s
  · split
    exacts [waits, lowered]
  · split
    exacts [waits, lowered]
  · split
    exacts [raised, lowered]
  · exact calm_startDriver e s

theorem calm_takeFeedback (e : EndId) (s : State) : Calm s (takeFeedback e s) := by
  unfold takeFeedback
  split
  · exact calm_barrierCondition e s
  · exact calm_watchFeedback e s

theorem calm_travelExpires (e : EndId) (s : State) : Calm s (travelExpires e s) := by
  have stopped : Calm s (s.modDriver e fun b => { b with travel := .stopped }) := calm_modDriver e _
  unfold travelExpires
  dsimp only
  split
  · exact stopped.trans (calm_enterBarrierFault e _ _)
  · exact stopped.trans (calm_enterBarrierFault e _ _)
  · exact stopped.trans (calm_modDriver e _)
  · exact stopped.trans (calm_modDriver e _)
  · exact stopped
  · exact stopped
  · exact stopped

theorem calm_changeMode (e : EndId) (m : DriveMode) (s : State) : Calm s (changeMode e m s) := by
  have changed : Calm s (s.modDriver e fun b => b.inMode m) := calm_modDriver e _
  unfold changeMode
  dsimp only
  split
  · exact changed.trans (calm_barrierCondition e _)
  · split
    · exact changed.trans (calm_enterBarrierFault e _ _)
    · exact changed
  · exact changed
  · exact changed
  · exact changed

/-! ### They change one driver only -/

theorem takeFeedback_driverOnly (e : EndId) (s : State) : DriverOnly e s (takeFeedback e s) := by
  unfold takeFeedback
  split
  · exact barrierCondition_driverOnly e s
  · exact watchFeedback_driverOnly e s

theorem travelExpires_driverOnly (e : EndId) (s : State) : DriverOnly e s (travelExpires e s) := by
  have stopped := modDriver_driverOnly e (fun b => { b with travel := .stopped }) s
  unfold travelExpires
  dsimp only
  split
  · exact stopped.trans (enterBarrierFault_driverOnly e _ _)
  · exact stopped.trans (enterBarrierFault_driverOnly e _ _)
  · exact stopped.trans (modDriver_driverOnly e _ _)
  · exact stopped.trans (modDriver_driverOnly e _ _)
  · exact stopped
  · exact stopped
  · exact stopped

theorem changeMode_driverOnly (e : EndId) (m : DriveMode) (s : State) :
    DriverOnly e s (changeMode e m s) := by
  have changed := modDriver_driverOnly e (fun b => b.inMode m) s
  unfold changeMode
  dsimp only
  split
  · exact changed.trans (barrierCondition_driverOnly e _)
  · split
    · exact changed.trans (enterBarrierFault_driverOnly e _ _)
    · exact changed
  · exact changed
  · exact changed
  · exact changed

theorem DriverOnly.driver_of_ne (h : DriverOnly e s t) {x : EndId} (hx : x ≠ e) :
    t.driver x = s.driver x := congrArg Station.driver (h.station_of_ne hx)

/-! ### What they make of the driver's state -/

@[simp] theorem Driver.outputsUp_state (b : Driver) : b.outputsUp.state = b.state := by
  unfold Driver.outputsUp
  split <;> rfl

@[simp] theorem Driver.outputsDown_state (b : Driver) : b.outputsDown.state = b.state := by
  unfold Driver.outputsDown
  split <;> rfl

@[simp] theorem setPending_state (e : EndId) (p : PendingMove) (s : State) :
    ((setPending e p s).driver e).state = (s.driver e).state := by
  rw [setPending, modDriver_driver]

@[simp] theorem barrierCondition_state (e : EndId) (s : State) :
    ((barrierCondition e s).driver e).state = (s.driver e).state := by
  unfold barrierCondition
  dsimp only
  split
  · rfl
  · rw [signal_driver, modDriver_driver]

@[simp] theorem faultSafety_state (e : EndId) (s : State) :
    ((faultSafety e s).driver e).state = (s.driver e).state := by
  unfold faultSafety
  dsimp only
  split
  · rw [barrierCondition_state, modDriver_driver, Driver.outputsUp_state]
  · rfl

@[simp] theorem enterBarrierFault_state (e : EndId) (c : BarrierCause) (s : State) :
    ((enterBarrierFault e c s).driver e).state = .fault := by
  rw [enterBarrierFault, faultSafety_state, condArises_driver_eq, modDriver_driver]

/-- The watch leaves a DOWN barrier where it is, or takes it to FAULT (R69). -/
theorem watchFeedback_not_upward (h : (s.driver e).state = .down) :
    ((watchFeedback e s).driver e).state.upward = false := by
  have hd : (s.station e).driver.state = .down := h
  unfold watchFeedback
  split
  · rw [h]
    rfl
  · rename_i st arrived
    exfalso
    revert arrived
    simp only [Station.watch, hd]
    split_ifs <;> simp
  · rw [enterBarrierFault_state]
    rfl

theorem takeFeedback_not_upward (h : (s.driver e).state = .down) :
    ((takeFeedback e s).driver e).state.upward = false := by
  unfold takeFeedback
  rw [h, if_neg (by decide)]
  exact watchFeedback_not_upward h

theorem travelExpires_not_upward (h : (s.driver e).state = .down) :
    ((travelExpires e s).driver e).state.upward = false := by
  unfold travelExpires
  dsimp only
  rw [h]
  simp [modDriver_driver, h, BarrierState.upward]

theorem changeMode_not_upward (m : DriveMode) (h : (s.driver e).state = .down) :
    ((changeMode e m s).driver e).state.upward = false := by
  have kept : ((s.driver e).inMode m).state = .down := by
    unfold Driver.inMode
    split <;> exact h
  unfold changeMode
  rw [h]
  dsimp only
  split
  · rw [enterBarrierFault_state]
    rfl
  · rw [modDriver_driver, kept]
    rfl

/-- A lower request drives nothing up (R66). -/
theorem lowerRequest_upward (h : ((lowerRequest e s).driver e).state.upward = true) :
    (s.driver e).state.upward = true := by
  by_contra hn
  rw [lowerRequest_eq] at h
  unfold lowered at h
  dsimp only at h
  split_ifs at h with hup
  · rcases hup with hup | hup <;> simp [hup, BarrierState.upward] at hn
  · rcases hup with hup | hup <;> simp [hup, BarrierState.upward] at hn
  · rw [modDriver_driver] at h
    exact hn h
  · exact hn h

theorem lowerRequest_down (h : (s.driver e).state = .down) :
    ((lowerRequest e s).driver e).state = .down := by
  rw [lowerRequest_eq]
  unfold lowered
  dsimp only
  rw [if_neg (by simp [h])]
  split
  · rw [modDriver_driver]
    exact h
  · exact h

theorem resetDriver_down (h : (s.driver e).state = .down) :
    ((resetDriver e s).driver e).state = .down := by
  unfold resetDriver
  rw [h]
  dsimp only
  rw [setPending_state, h]

theorem driverSafetyOccupied_down (h : (s.driver e).state = .down) :
    driverSafetyOccupied e s = s := by
  unfold driverSafetyOccupied
  rw [h]

theorem recoveryLower_of_not_fault (h : (s.driver e).state ≠ .fault) : recoveryLower e s = s := by
  unfold recoveryLower
  rw [if_pos h]

/-! ### A raise that R72 permits -/

/-- What an operation on one driver must meet to keep R72's record of a command. -/
theorem Raised.driver (h : Raised s t) (k : DriverOnly e t u)
    (own : (s.driver e).state = .down → (u.driver e).state.upward = true →
      (t.driver e.other).state = .down)
    (other : (s.driver e.other).state = .down → (t.driver e.other).state.upward = true →
      (t.driver e).state = .down → (u.driver e).state = .down) : Raised s u := by
  have other_ne : e.other ≠ e := by cases e <;> decide
  have other_other : e.other.other = e := by cases e <;> rfl
  intro x hdown hup
  by_cases hx : x = e
  · subst hx
    rw [k.driver_of_ne other_ne]
    exact own hdown hup
  · rw [k.driver_of_ne hx] at hup
    have below := h x hdown hup
    by_cases hxo : x = e.other
    · subst hxo
      rw [other_other] at below ⊢
      exact other hdown hup below
    · have hxe : x.other ≠ e := by
        rintro rfl
        exact hxo (by cases x <;> rfl)
      rwa [k.driver_of_ne hxe]

/-- An operation at the start of a command need only leave a DOWN barrier from rising. -/
theorem raised_of_first (same : ∀ x, (t.driver x).state = (s.driver x).state) (k : DriverOnly e t u)
    (own : (t.driver e).state = .down → (u.driver e).state.upward = false) : Raised s u := by
  refine (raised_of_same_driver same).driver k (fun hd hu => ?_) fun hd hu => ?_
  · rw [own ((same e).trans hd)] at hu
    cases hu
  · rw [same, hd] at hu
    cases hu

theorem Guarded.driver (h : Guarded s t) (k : Calm t u) (hr : Raised s u) : Guarded s u :=
  ⟨h.toCalm.trans k, hr⟩

theorem Guarded.setPending (h : Guarded s t) {p : PendingMove} : Guarded s (setPending e p t) := by
  refine h.driver (calm_setPending e p t) (h.raised.driver (setPending_driverOnly e p t)
    (fun hd hu => ?_) fun _ _ hd => ?_)
  · rw [setPending_state] at hu
    exact h.raised e hd hu
  · rw [setPending_state]
    exact hd

/-- A change of a driver that keeps its state. -/
theorem Guarded.modDriver (h : Guarded s t) {f : Driver → Driver}
    (hf : (f (t.driver e)).state = (t.driver e).state := by rfl) : Guarded s (t.modDriver e f) := by
  have kept : ((t.modDriver e f).driver e).state = (t.driver e).state := by
    rw [modDriver_driver, hf]
  refine h.driver (calm_modDriver e f) (h.raised.driver (modDriver_driverOnly e f t)
    (fun hd hu => ?_) fun _ _ hd => ?_)
  · rw [kept] at hu
    exact h.raised e hd hu
  · rw [kept]
    exact hd

theorem Guarded.lowerRequest (h : Guarded s t) : Guarded s (lowerRequest e t) :=
  h.driver (calm_lowerRequest e t) (h.raised.driver (lowerRequest_driverOnly e t)
    (fun hd hu => h.raised e hd (lowerRequest_upward hu)) fun _ _ hd => lowerRequest_down hd)

/-- A raise is executed over the other barrier DOWN, or does nothing to a barrier already upward. -/
theorem Guarded.raiseExecuted (h : Guarded s t)
    (permit : (t.driver e.other).state = .down ∨ (t.driver e).state.upward = true) :
    Guarded s (raiseExecuted e t) := by
  refine h.driver (calm_raiseExecuted e t) ?_
  rcases permit with hdown | hup
  · refine h.raised.driver (raiseExecuted_driverOnly e t) (fun _ _ => hdown) fun _ hup => ?_
    rw [hdown] at hup
    cases hup
  · have waits : Machine.raiseExecuted e t = Machine.setPending e .none t := by
      unfold Machine.raiseExecuted
      cases hs : (t.driver e).state <;> simp_all [BarrierState.upward]
    rw [waits]
    exact h.setPending.raised

theorem Guarded.raiseRequest (h : Guarded s t) : Guarded s (raiseRequest e t) := by
  by_cases may : t.mayRaise e = true
  · have down : (t.driver e.other).state = .down := by
      unfold State.mayRaise State.barrierDown at may
      simpa using (Bool.and_eq_true_iff.mp may).1
    have executed : Machine.raiseRequest e t = Machine.raiseExecuted e t := by
      rw [Machine.raiseRequest, if_pos may]
    rw [executed]
    exact h.raiseExecuted (.inl down)
  · have waits : Machine.raiseRequest e t = Machine.setPending e .raise t := by
      rw [Machine.raiseRequest, if_neg may]
    rw [waits]
    exact h.setPending

end Sys2Proof.Machine
end

section
/-! PROOFS. The operations of ends, sequencers, captures and printers are guarded. -/

namespace Sys2Proof.Machine

-- One declaration after another: at once they ask for more threads than the check's limits allow.
set_option Elab.async false

variable {s t : State} {d : Deck} {e : EndId}

/-! ### Ends (R84 to R100) -/

theorem Guarded.endIdle (h : Guarded s t) : Guarded s (endIdle e t) := h.removeVisit?.modMachine

theorem Guarded.expiredToIdle (h : Guarded s t) : Guarded s (expiredToIdle e t) := by
  unfold Machine.expiredToIdle
  split
  exacts [h.endIdle, h]

theorem Guarded.refuseEnd (h : Guarded s t) {r p : Reason} : Guarded s (refuseEnd e r p t) :=
  h.removeVisit?.modMachine.offer.expiredToIdle

theorem Guarded.refer (h : Guarded s t) {r : Reason} : Guarded s (refer e r t) := by
  unfold Machine.refer
  dsimp only
  split
  exacts [h.modMachine.offer.expiredToIdle, h.modMachine.refuseEnd]

theorem Guarded.openVisit (h : Guarded s t) {x : EndId} {g : Tag} {ad : Admission} {k : VisitKind}
    {n : VisitNote} {u : Option TareUsed} (room : t.visits.table.length < 64) :
    Guarded s (openVisit x g ad k n u t) := by
  unfold Machine.openVisit
  exact h.modVisits fun _ => by
    rw [List.length_append, List.length_singleton]
    omega

theorem Guarded.readyEnd (h : Guarded s t) {v : Option Nat} : Guarded s (readyEnd e v t) :=
  h.modMachine

theorem Guarded.openAtEnd (h : Guarded s t) {g : Tag} {ad : Admission}
    (room : t.visits.table.length < 64) : Guarded s (openAtEnd e g ad t) := by
  unfold Machine.openAtEnd
  dsimp only
  split
  exacts [h.refer, (h.openVisit room).readyEnd.offer.expiredToIdle]

/-- R90: an end without a visit passes the hold check only while the visit table has room. -/
theorem visits_room_of_no_hold {hasVisit : Bool} (h : s.firstHold hasVisit = none)
    (hv : hasVisit = false) : s.visits.table.length < 64 := by
  unfold State.firstHold at h
  rw [hv] at h
  split_ifs at h with _ full
  rw [Bool.not_false, Bool.true_and, decide_eq_true_iff] at full
  exact Nat.lt_of_not_le full

theorem Guarded.admitNow (h : Guarded s t)
    (room : (t.machine e).visit = none → t.visits.table.length < 64) :
    Guarded s (admitNow e t) := by
  unfold Machine.admitNow
  dsimp only
  split
  · exact h.readyEnd.expiredToIdle
  · rename_i none _ _
    exact h.openAtEnd (room none)
  · exact h

theorem room_of_passed_hold (h : s.firstHold (s.machine e).visit.isSome = none)
    (hv : (s.machine e).visit = none) : s.visits.table.length < 64 :=
  visits_room_of_no_hold h (by rw [hv]; rfl)

theorem Guarded.holdEnd (h : Guarded s t) {r : Reason} : Guarded s (holdEnd e r t) :=
  h.modMachine.offer.expiredToIdle

theorem Guarded.holdCheck (h : Guarded s t) : Guarded s (holdCheck e t) := by
  unfold Machine.holdCheck
  split
  · exact h.holdEnd
  · rename_i passed
    exact h.admitNow (room_of_passed_hold passed)

theorem Guarded.decideOutbound (h : Guarded s t) {g : Tag} : Guarded s (decideOutbound e g t) := by
  unfold Machine.decideOutbound
  split
  · exact h.refer
  · split
    exacts [h.readyEnd.expiredToIdle, h.readyEnd.expiredToIdle, h.refer, h.refer]

theorem Guarded.decideInbound (h : Guarded s t) {g : Tag} : Guarded s (decideInbound e g t) := by
  unfold Machine.decideInbound
  split
  · exact h.refer
  · split
    · split
      exacts [h.refer, h.refuseEnd]
    · split
      · split
        exacts [h.refer, h.modMachine.holdCheck]
      exacts [h.refer, h.refuseEnd, h.refuseEnd]

theorem Guarded.acceptTag (h : Guarded s t) {g : Tag} : Guarded s (acceptTag e g t) := by
  unfold Machine.acceptTag
  dsimp only
  split
  exacts [h.modMachine.decideInbound, h.modMachine.decideOutbound, h.modMachine]

theorem Guarded.wake (h : Guarded s t) : Guarded s (wake e t) := by
  unfold Machine.wake
  dsimp only
  split
  · exact h.modMachine.modMachine.refer
  · split
    exacts [h.modMachine.expiredToIdle, h.modMachine.acceptTag]

theorem Guarded.wakeTest (h : Guarded s t) : Guarded s (wakeTest e t) := by
  unfold Machine.wakeTest
  dsimp only
  split
  · split
    · exact h.wake
    · split
      exacts [h, h.modMachine.offer]
  · exact h

theorem Guarded.readerConditionEnds (h : Guarded s t) : Guarded s (readerConditionEnds e t) := by
  unfold Machine.readerConditionEnds
  split
  exacts [h.modMachine.condEnds, h]

theorem Guarded.arrival (h : Guarded s t) {g : Tag} : Guarded s (arrival e g t) := by
  unfold Machine.arrival
  dsimp only
  split
  exacts [h.modMachine.acceptTag, h.modMachine.modMachine.offer, h.modMachine, h.modMachine,
    h.modMachine, h.modMachine, h.modMachine]

theorem Guarded.conflict (h : Guarded s t) : Guarded s (conflict e t) := by
  have marked : Guarded s (t.modMachine e fun m => { m with conflict := true }) := h.modMachine
  unfold Machine.conflict
  dsimp only
  split
  exacts [marked.modMachine.offer, marked.removeVisit?.modMachine.refer,
    marked.removeVisit?.modMachine.refer, marked, marked, marked, marked]

theorem Guarded.portRead (h : Guarded s t) {g : Tag} : Guarded s (portRead e g t) := by
  unfold Machine.portRead
  split
  · split
    · exact h.arrival
    · split
      exacts [h, h.conflict]
  · exact h

theorem Guarded.detachEnd (h : Guarded s t) : Guarded s (detachEnd t e) := by
  unfold Machine.detachEnd
  split
  exacts [h.refuseEnd, h]

theorem Guarded.closeEnd (h : Guarded s t) : Guarded s (closeEnd t e) := by
  unfold Machine.closeEnd
  split
  exacts [h.refuseEnd, h.refuseEnd, h.refuseEnd, h.refuseEnd, h, h, h]

theorem Guarded.closeEnds (h : Guarded s t) : Guarded s (closeEnds d t) := h.closeEnd.closeEnd

theorem Guarded.resetEnd (h : Guarded s t) : Guarded s (resetEnd e t) :=
  h.removeVisit?.calm (calm_modStation e _) fun x => by cases e <;> cases x <;> rfl

/-! ### Sequencers and captures (chapters 2 and 6) -/

theorem Guarded.enterPassage (h : Guarded s t) {st : SeqState} {pe : EndId}
    (hn : (t.deck d).seq.state ≠ .settling) (hst : st ≠ .settling) :
    Guarded s (enterPassage d st pe t) := (h.modSeq_free hn hst).raiseRequest

theorem Guarded.enterDeparting (h : Guarded s t) (hn : (t.deck d).seq.state ≠ .settling) :
    Guarded s (enterDeparting d t) := by
  unfold Machine.enterDeparting
  split
  exacts [h.enterPassage hn (by decide), h]

theorem Guarded.enterEjecting (h : Guarded s t) (hn : (t.deck d).seq.state ≠ .settling) :
    Guarded s (enterEjecting d t) := by
  unfold Machine.enterEjecting
  split
  exacts [h.enterPassage hn (by decide), h]

theorem Guarded.seqSafety (h : Guarded s t) {occ : Bool} : Guarded s (seqSafety e occ t) := by
  unfold Machine.seqSafety
  dsimp only
  split
  · split
    exacts [h.modSeq, h.modSeq]
  · exact h

theorem Guarded.releaseHolder (h : Guarded s t) {n : Nat} : Guarded s (releaseHolder d n t) :=
  h.modVisit

theorem Guarded.captureRequest (h : Guarded s t) {r : CaptureRequest}
    (hn : (t.deck d).seq.state ≠ .settling) : Guarded s (captureRequest d r t) :=
  h.modCapture_free fun hs => absurd hs hn

theorem Guarded.enterWeighing (h : Guarded s t) (hn : (t.deck d).seq.state ≠ .settling) :
    Guarded s (enterWeighing d t) := by
  have weighing : Guarded s (t.modSeq d fun q =>
      { q with state := .weighing, passage := none, lowerRequested := false, tailgate := .stopped,
               weighTimer := .running (t.deck d).settings.weighingTime }) := h.modSeq_free hn
  unfold Machine.enterWeighing
  dsimp only
  split
  · exact weighing
  · exact weighing.captureRequest (by simp)

theorem Guarded.endTransaction (h : Guarded s t) {w : String} (hn : (t.deck d).seq.state ≠ .settling) :
    Guarded s (endTransaction d w t) := by
  unfold Machine.endTransaction
  dsimp only
  split
  · refine h.releaseHolder.offer.endIdle.wakeTest.modSeq_free ?_ (by intro h; cases h) (.inr rfl)
    rw [(wakeTest_endOnly _ _).deck, (endIdle_endOnly _ _).deck, offer_deck]
    exact hn
  · exact h

theorem Guarded.passageEnds (h : Guarded s t) : Guarded s (passageEnds d t) := by
  unfold Machine.passageEnds
  dsimp only
  split
  · rename_i entering
    have hn : (t.deck d).seq.state ≠ .settling := by simp [entering]
    split
    exacts [h.enterDeparting hn, h.enterWeighing hn]
  · rename_i departing
    split
    · exact h.removeVisit.endTransaction (by simp [departing])
    · exact h.endTransaction (by simp [departing])
  · rename_i ejecting
    exact h.endTransaction (by simp [ejecting])
  · exact h
  · exact h
  · exact h
  · exact h
  · exact h

theorem Guarded.seqBarrierDown (h : Guarded s t) : Guarded s (seqBarrierDown e t) := by
  unfold Machine.seqBarrierDown
  dsimp only
  split
  · split
    exacts [h.passageEnds, h.raiseRequest]
  · exact h

theorem guarded_withDown {f : State → State} (h : Guarded s (f t)) : Guarded s (withDown e f t) := by
  unfold withDown
  dsimp only
  split
  exacts [h.seqBarrierDown, h]

theorem Guarded.becomeClosed (h : Guarded s t) : Guarded s (becomeClosed d t) :=
  h.modSettings.closeEnds

theorem Guarded.completeClose (h : Guarded s t) : Guarded s (completeClose d t) := by
  unfold Machine.completeClose
  split
  exacts [h.becomeClosed, h]

theorem Guarded.lowerBoth (h : Guarded s t) : Guarded s (lowerBoth d t) := h.lowerRequest.lowerRequest

theorem Guarded.testRelease (h : Guarded s t) : Guarded s (testRelease d t) := by
  unfold Machine.testRelease
  split
  · rename_i ticketing
    exact h.enterDeparting (by simp [ticketing.1])
  · exact h

theorem Guarded.ticketProgress (h : Guarded s t) {n : Nat} {p : TicketProgress} :
    Guarded s (ticketProgress d n p t) := by
  unfold Machine.ticketProgress
  dsimp only
  split
  exacts [h.modSeq.testRelease, h]

theorem Guarded.turnBackVisit (h : Guarded s t) {q : Sequencer} : Guarded s (turnBackVisit q t) := by
  unfold Machine.turnBackVisit
  split
  exacts [h.removeVisit, h.removeVisit, h.modVisit, h, h]

theorem turnBackVisit_deck (q : Sequencer) (s : State) (d : Deck) :
    (turnBackVisit q s).deck d = s.deck d := by
  unfold turnBackVisit
  split <;> rfl

theorem Guarded.takeGrant (h : Guarded s t) {mv : Movement} {v : Visit} {r : Role}
    (hn : (t.deck d).seq.state = .idle) : Guarded s (takeGrant d e mv v r t) := by
  unfold Machine.takeGrant
  dsimp only
  refine Guarded.enterPassage (h.modVisit.modMachine.modDeck rfl rfl id ?_) ?_ (by decide)
  · exact .of_not_settling (by simp [hn]) (by simp [Sequencer.toIdle, Sequencer.cleared])
      (.inr rfl) rfl
  · rw [State.modDeck_deck]
    simp [Sequencer.toIdle, Sequencer.cleared]

theorem Guarded.offerEnd (h : Guarded s t) (hn : (t.deck d).seq.state = .idle) :
    Guarded s (offerEnd d e t) := by
  unfold Machine.offerEnd
  split
  · split
    · exact h.holdEnd
    · split
      exacts [h.takeGrant hn, h]
  · split
    · exact h.refer
    · split
      exacts [h.takeGrant hn, h.takeGrant hn, h.refer, h.refer]
  · exact h

/-! ### Barriers, lamps and detectors (chapter 4) -/

theorem Guarded.safetyChange (h : Guarded s t) {f : EndReadings → EndReadings}
    (same : ∀ x, (t.driver x).state = (s.driver x).state) : Guarded s (safetyChange e f t) := by
  have lines : Guarded s (t.modLines e f) := h.modLines
  have occupied : Guarded s (driverSafetyOccupied e (t.modLines e f)) :=
    lines.driver (calm_driverSafetyOccupied e _)
      (raised_of_first (t := t.modLines e f) (fun x => by rw [modLines_driver]; exact same x)
        (driverSafetyOccupied_driverOnly e _)
        fun hd => by rw [driverSafetyOccupied_down hd, hd]; rfl)
  unfold Machine.safetyChange
  dsimp only
  split
  exacts [occupied.seqSafety, lines.seqSafety, lines]

/-! ### Printers and tickets (chapter 9) -/

theorem Guarded.startJob (h : Guarded s t) : Guarded s (startJob d t) := by
  unfold Machine.startJob
  split
  exacts [h, h.modPrinter]

theorem Guarded.jobPrinted (h : Guarded s t) : Guarded s (jobPrinted d t) := by
  unfold Machine.jobPrinted
  split
  · exact h
  · rename_i j rest queue
    have popped : Guarded s (t.modPrinter d fun p =>
        { p with queue := rest, presented := some j, endTimer := .stopped, send := none,
                 charGoing := false, state := .waitTake, uncollected := .running p.uncollectedTime }) :=
      h.modPrinter fun hq => by
        rw [queue, List.length_cons] at hq
        dsimp only
        omega
    dsimp only
    split
    exacts [popped.offer, popped.offer.ticketProgress]

theorem Guarded.printerFaultEntry (h : Guarded s t) : Guarded s (printerFaultEntry d t) :=
  (h.modPrinter fun hq => by split <;> exact hq).condArises

theorem Guarded.printerConditionBegins (h : Guarded s t) : Guarded s (printerConditionBegins d t) := by
  unfold Machine.printerConditionBegins
  split
  exacts [h, h.printerFaultEntry]

theorem Guarded.printerConditionEnds (h : Guarded s t) : Guarded s (printerConditionEnds d t) := by
  unfold Machine.printerConditionEnds
  dsimp only
  split
  exacts [h.modPrinter.condEnds, h]

theorem Guarded.printerFaultExit (h : Guarded s t) : Guarded s (printerFaultExit d t) :=
  h.modPrinter fun hq => by
    split
    · split <;> exact hq
    · exact hq

theorem Guarded.busyOff (h : Guarded s t) : Guarded s (busyOff d t) := by
  have stopped : Guarded s ((t.modDeckLines d fun l => { l with busy := false }).modPrinter d fun p =>
      { p with stuck := .stopped }) := h.modDeckLines.modPrinter
  refine Guarded.printerConditionEnds ?_
  split
  · split
    · split
      exacts [stopped.jobPrinted, stopped]
    · exact stopped.modPrinter
  · exact stopped

theorem Guarded.ticketTaken (h : Guarded s t) : Guarded s (ticketTaken d t) := by
  unfold Machine.ticketTaken
  split
  · exact h
  · have taken : Guarded s (t.modPrinter d fun p =>
        if p.state = .waitTake then { p with presented := none, uncollected := .stopped, state := .ready }
        else { p with presented := none }) := h.modPrinter fun hq => by split <;> exact hq
    dsimp only
    split
    exacts [taken, taken.ticketProgress]

theorem Guarded.joinQueue (h : Guarded s t) {j : Job} (room : (t.deck d).printer.room = true) :
    Guarded s (joinQueue d j t) :=
  h.modPrinter fun _ => by
    have short : (t.deck d).printer.queue.length < 4 := of_decide_eq_true room
    rw [List.length_append, List.length_singleton]
    omega

theorem Guarded.settlementJob (h : Guarded s t) {j : Job} : Guarded s (settlementJob d j t).2 := by
  unfold Machine.settlementJob
  split
  · rename_i room
    exact h.joinQueue room
  · exact h.offer

theorem Guarded.resetPrinter (h : Guarded s t) : Guarded s (resetPrinter d t) := by
  have restarted : Guarded s (t.modPrinter d fun p => p.restarted (t.deck d).lines.busy) :=
    h.modPrinter fun _ => Nat.zero_le _
  unfold Machine.resetPrinter
  dsimp only
  split
  exacts [restarted.printerFaultEntry, restarted]

/-! ### Tables, clock and link -/

theorem Guarded.storeTare (h : Guarded s t) {g : Tag} {kg : Nat} {src : TareSource} {n : Nat} :
    Guarded s (storeTare g kg src n t).2.2 := by
  have stored (i : Nat) (en : TareEntry) :
      Guarded s { t with tares := { t.tares with table := t.tares.table.set i (some en) } } :=
    h.calm (calm_of_eq rfl rfl rfl rfl rfl rfl fun ⟨h1, h2, rest⟩ => ⟨h1, by simpa using h2, rest⟩)
      fun _ => rfl
  unfold Machine.storeTare
  dsimp only
  split
  exacts [stored _ _, (stored _ _).offer]

theorem Guarded.overstayTest (h : Guarded s t) : Guarded s (overstayTest t) := by
  have flagged (due : Visit → Bool) : Guarded s (t.modVisits fun v =>
      { v with table := v.table.map fun x => if due x then { x with overstay := true } else x }) :=
    h.modVisits fun hl => by simpa using hl
  unfold Machine.overstayTest
  dsimp only
  generalize t.visits.table.filter _ = found
  replace flagged := flagged (Visit.overstays t.clock.now t.visits.overstay)
  generalize t.modVisits _ = u at flagged ⊢
  induction found generalizing u with
  | nil => exact flagged
  | cons v found ih => exact ih _ flagged.offer

theorem Guarded.changeClock (h : Guarded s t) {f : YardClock → YardClock} :
    Guarded s (changeClock f t) := by
  have changed : Guarded s { t with clock := f t.clock } :=
    h.calm (calm_of_eq rfl rfl rfl rfl rfl rfl id) fun _ => rfl
  unfold Machine.changeClock
  dsimp only
  split
  exacts [changed.condArises, changed.condEnds, changed]

theorem Guarded.levelReports (h : Guarded s t) {j : Journal} : Guarded s (levelReports j t) := by
  unfold Machine.levelReports
  dsimp only
  split <;> split
  exacts [h.offer.offer, h.offer, h.offer, h]

theorem Guarded.attach (h : Guarded s t) : Guarded s (attach t) := by
  unfold Machine.attach
  dsimp only
  split
  exacts [h.modLink, h.modLink.modLink.offer]

theorem Guarded.journalFault (h : Guarded s t) : Guarded s (journalFault t) := h.modJournal.condArises

theorem Guarded.requestCalibAgain (h : Guarded s t) : Guarded s (requestCalibAgain t) := by
  unfold Machine.requestCalibAgain
  split
  · split
    exacts [h, h.journalRequest]
  · exact h

theorem Guarded.restartWindows (h : Guarded s t) : Guarded s (restartWindows d t) :=
  Guarded.modCapture h.modWcu (by unfold Capture.noset; split <;> rfl)

theorem Guarded.restartBoth (h : Guarded s t) : Guarded s (restartBoth t) :=
  h.restartWindows.restartWindows

theorem Guarded.foldl {α : Type} {f : State → α → State}
    (hf : ∀ u a, Guarded s u → Guarded s (f u a)) (h : Guarded s t) (as : List α) :
    Guarded s (as.foldl f t) := by
  induction as generalizing t with
  | nil => exact h
  | cons a as ih => exact ih (hf _ a h)

theorem Guarded.wakeAll (h : Guarded s t) : Guarded s (wakeAll t) :=
  h.foldl (fun _ _ k => k.wakeTest) EndId.all

theorem Guarded.setRun (h : Guarded s t) {r : Bool} : Guarded s (t.setRun r) :=
  h.calm (calm_of_eq rfl rfl rfl rfl rfl rfl id) fun _ => rfl

end Sys2Proof.Machine
end

section
/-! PROOFS. The events' commands that leave the metrology block, the parameters, the zeros and the store
alone are guarded. -/

namespace Sys2Proof.Machine

-- One declaration after another: at once they ask for more threads than the check's limits allow.
set_option Elab.async false

variable {s : State} {d : Deck} {e : EndId}

/-- Every next state is guarded. -/
abbrev Guards (s : State) (r : Result State) : Prop := Yields (Guarded s) r

theorem guards_same : Guards s (.next s) := yields_next (.refl s)

theorem guards_answer {t : State} (h : Guarded s t) {r : Reply} : Guards s (answer r t) :=
  yields_answer h.answered

theorem guards_refuse {c : ErCode} : Guards s (refuse c s) := guards_answer (.refl s)

/-! ### Weighing and capture -/

theorem Guarded.channelStep {t : State} (h : Guarded s t) {ch : Chan}
    {f : Channel → Channel × Signal} : Guarded s (channelStep d ch f t) := h.modDeck.signal

theorem guards_conversionResult {ch : Chan} {n : Int} :
    Guards s (execConversionResult d ch n s) := by
  unfold execConversionResult
  split
  exacts [yields_next (Guarded.refl s).channelStep.channelStep, guards_same]

theorem guards_lampFlashToggle : Guards s (execLampFlashToggle d s) := by
  unfold execLampFlashToggle
  split
  exacts [yields_next (Guarded.refl s).modCapture, guards_same]

theorem guards_beamChange {n : EndNo} {b : Bool} : Guards s (execBeamChange d n b s) :=
  yields_next (Guarded.refl s).modDeckLines

/-- While the capture logic is at work the sequencer is not in SETTLING, so that its state may change. -/
theorem Guarded.modSeq_awake {t : State} (h : Guarded s t) {f : Sequencer → Sequencer}
    (awake : (t.deck d).capture.state ≠ .idle) (hs : (f (t.deck d).seq).state ≠ .settling)
    (hr : (f (t.deck d).seq).reservation = (t.deck d).seq.reservation)
    (ho : (f (t.deck d).seq).orphanSettle = (t.deck d).seq.orphanSettle) :
    Guarded s (t.modSeq d f) := by
  refine h.modDeck rfl rfl id fun sound => ?_
  have away : (t.deck d).seq.state ≠ .settling := fun hset => awake (sound.2.2 hset)
  exact SettleStep.of_not_settling (u' := { t.deck d with seq := f (t.deck d).seq }) away hs (.inl hr) ho
    sound

/-- A capture logic at work may take any state. -/
theorem Guarded.modCapture_awake {t : State} (h : Guarded s t) {f : Capture → Capture}
    (awake : (t.deck d).capture.state ≠ .idle) : Guarded s (t.modCapture d f) := by
  refine h.modDeck rfl rfl id fun sound => ?_
  obtain ⟨reserved, orphan, rest⟩ := sound
  exact ⟨⟨reserved, orphan, fun hset => absurd (rest hset) awake⟩, rfl⟩

theorem guarded_stageGrant {r : CaptureRequest} {v : Int}
    (awake : (s.deck d).capture.state ≠ .idle) : Guarded s (stageGrant d r v s) :=
  ((Guarded.refl s).modCapture_awake awake).journalRequest

theorem guarded_lastCapture {r : CaptureRequest} {v : Int}
    (awake : (s.deck d).capture.state ≠ .idle) : Guarded s (lastCapture d r v s) := by
  have committing : Guarded s (s.modSeq d fun q => { q with state := .committing, weighTimer := .stopped }) :=
    (Guarded.refl s).modSeq_awake awake (by intro h; cases h) rfl rfl
  have awake' : ((s.modSeq d fun q =>
      { q with state := .committing, weighTimer := .stopped }).deck d).capture.state ≠ .idle := by
    rwa [State.modSeq_deck]
  unfold lastCapture
  dsimp only
  split
  exacts [(committing.modCapture_awake awake').journalRequest,
    (committing.modCapture_awake awake').journalRequest]

theorem guards_captureGrant : Guards s (execCaptureGrant d s) := by
  unfold execCaptureGrant
  dsimp only
  split
  · split
    · rename_i waiting
      have awake : (s.deck d).capture.state ≠ .idle := by simp [waiting]
      split
      exacts [yields_next (guarded_lastCapture awake), yields_next (guarded_stageGrant awake)]
    · exact guards_same
  · exact guards_same

/-! ### Barriers, lamps and detectors -/

theorem guarded_safetyChange {f : EndReadings → EndReadings} : Guarded s (safetyChange e f s) :=
  (Guarded.refl s).safetyChange fun _ => rfl

theorem guarded_loopfaultOn : Guarded s (loopfaultOn e s) := by
  unfold loopfaultOn
  split
  exacts [.refl s, guarded_safetyChange.condArises]

theorem guards_loopfaultInactive : Guards s (execLoopfaultInactive e s) := by
  unfold execLoopfaultInactive
  split
  exacts [yields_next guarded_safetyChange.condEnds, guards_same]

theorem guards_feedbackChange {inp : FeedbackInput} {b : Bool} :
    Guards s (execFeedbackChange e inp b s) := by
  refine yields_next (guarded_withDown ?_)
  exact (Guarded.refl s).modLines.driver (calm_takeFeedback e _)
    (raised_of_first (t := s.modLines e fun l => setFeedback l inp b)
      (fun x => by rw [modLines_driver]) (takeFeedback_driverOnly e _) takeFeedback_not_upward)

theorem guards_travelTimerExpiry : Guards s (execTravelTimerExpiry e s) := by
  unfold execTravelTimerExpiry
  split
  · refine yields_next (guarded_withDown ?_)
    exact (Guarded.refl s).driver (calm_travelExpires e s)
      (raised_of_first (fun _ => rfl) (travelExpires_driverOnly e s) travelExpires_not_upward)
  · exact guards_same

theorem guards_pulseTimerExpiry : Guards s (execPulseTimerExpiry e s) := by
  unfold execPulseTimerExpiry
  split
  exacts [yields_next (Guarded.refl s).modDriver, guards_same]

theorem guards_pendingRaise : Guards s (execPendingRaise e s) := by
  unfold execPendingRaise
  split
  · rename_i permit
    have down : (s.driver e.other).state = .down := by simpa [State.barrierDown] using permit.2.2
    exact yields_next ((Guarded.refl s).raiseExecuted (.inl down))
  · exact guards_same

theorem guards_pendingLower : Guards s (execPendingLower e s) := by
  unfold execPendingLower
  split
  exacts [yields_next (guarded_withDown (Guarded.refl s).lowerRequest), guards_same]

/-! ### Ends -/

theorem guards_approachOccupied : Guards s (execApproachOccupied e s) := by
  unfold execApproachOccupied
  split
  exacts [guards_same, yields_next (Guarded.refl s).modLines.modMachine.wakeTest]

theorem guards_approachClear : Guards s (execApproachClear e s) := by
  unfold execApproachClear
  split
  exacts [yields_next (Guarded.refl s).modLines.modMachine, guards_same]

theorem guards_readReceived {cs : List RxChar} : Guards s (execReadReceived e cs s) := by
  unfold execReadReceived
  split
  exacts [guards_same, yields_next (Guarded.refl s).readerConditionEnds.portRead]

theorem guards_readerErrorRun : Guards s (execReaderErrorRun e s) := by
  unfold execReaderErrorRun
  split
  exacts [guards_same, yields_next (Guarded.refl s).modMachine.condArises]

theorem guards_holdRetest : Guards s (execHoldRetest e s) := by
  unfold execHoldRetest
  split
  · split
    · exact yields_next (Guarded.refl s).modMachine
    · rename_i passed
      exact yields_next ((Guarded.refl s).admitNow (room_of_passed_hold passed))
  · exact guards_same

theorem guards_identificationTimerExpiry : Guards s (execIdentificationTimerExpiry e s) := by
  unfold execIdentificationTimerExpiry
  split
  exacts [yields_next (Guarded.refl s).refer, guards_same]

theorem guards_decisionTimerExpiry : Guards s (execDecisionTimerExpiry e s) := by
  unfold execDecisionTimerExpiry
  split
  exacts [yields_next (Guarded.refl s).refuseEnd, guards_same]

theorem guards_clearTimerExpiry : Guards s (execClearTimerExpiry e s) := by
  unfold execClearTimerExpiry
  split
  exacts [yields_next (Guarded.refl s).modMachine.expiredToIdle, guards_same]

/-! ### Deck transactions -/

theorem guards_arbiterOffer : Guards s (execArbiterOffer d s) := by
  unfold execArbiterOffer
  split
  · rename_i may
    have idle : (s.deck d).seq.state = .idle := by
      simp only [State.mayOffer, Bool.and_eq_true, beq_iff_eq] at may
      obtain ⟨⟨⟨⟨⟨⟨⟨-, idle⟩, -⟩, -⟩, -⟩, -⟩, -⟩, -⟩ := may
      exact idle
    split
    exacts [yields_next ((Guarded.refl s).offerEnd idle), guards_same]
  · exact guards_same

theorem guards_passageComplete : Guards s (execPassageComplete d s) := by
  unfold execPassageComplete
  split
  · exact guards_same
  · split
    · rename_i pe _ _
      have lowered : Guarded s (lowerRequest pe
          (s.modSeq d fun q => { q with passage := none, lowerRequested := true })) :=
        (Guarded.refl s).modSeq.lowerRequest
      dsimp only
      split
      exacts [yields_next lowered.passageEnds, yields_next lowered]
    · exact guards_same

theorem guards_closeComplete : Guards s (execCloseComplete d s) :=
  yields_next (Guarded.refl s).completeClose

theorem guards_tailgateTimerExpiry : Guards s (execTailgateTimerExpiry d s) := by
  unfold execTailgateTimerExpiry
  dsimp only
  split
  · exact guards_same
  · split
    · refine yields_next ?_
      split
      exacts [(Guarded.refl s).modSeq, (Guarded.refl s).modSeq.offer]
    · exact guards_same

theorem guards_weighingTimerExpiry : Guards s (execWeighingTimerExpiry d s) := by
  unfold execWeighingTimerExpiry
  dsimp only
  split
  exacts [yields_next (Guarded.refl s).modSeq.offer, guards_same]

theorem guards_takeTimerExpiry : Guards s (execTakeTimerExpiry d s) := by
  unfold execTakeTimerExpiry
  dsimp only
  split
  · rename_i ticketing
    exact yields_next ((Guarded.refl s).offer.enterDeparting (by simp [ticketing.1]))
  · exact guards_same

/-! ### The journal's events that leave the store alone -/

theorem guards_eraseStart : Guards s (execEraseStart s) := by
  unfold execEraseStart
  split
  · split
    exacts [yields_next (Guarded.refl s).modJournal, guards_same]
  · exact guards_same

theorem guards_eraseFailure : Guards s (execEraseFailure s) := by
  unfold execEraseFailure
  split
  · split
    exacts [yields_next (Guarded.refl s).modJournal.journalFault,
      yields_next (Guarded.refl s).modJournal]
  · exact guards_same

/-- A grant drops the requester's other requests, so that none has more requests than before. -/
theorem load_grant_le {j : Journal} {r : Request} {st : Stamp} (hr : r ∈ j.pending) (q : Requester) :
    Journal.load { j with
      pending := j.pending.filter fun x => x.requester != r.requester
      inProgress := some { request := r, stamp := st }
      lastGranted := r.requester
      erase := j.erase.suspend } q ≤ j.load q := by
  unfold Journal.load
  dsimp only
  rw [List.countP_filter]
  by_cases hq : r.requester = q
  · subst hq
    have none : j.pending.countP (fun x => x.requester == r.requester && x.requester != r.requester) = 0 := by
      rw [List.countP_eq_zero]
      simp
    have some : 1 ≤ j.pending.countP (·.requester == r.requester) :=
      List.countP_pos_iff.mpr ⟨r, hr, by simp⟩
    rw [none]
    simp only [beq_self_eq_true, countOf, if_true]
    omega
  · have fewer : j.pending.countP (fun x => x.requester == q && x.requester != r.requester)
        ≤ j.pending.countP (·.requester == q) :=
      List.countP_mono_left fun x _ h => (Bool.and_eq_true_iff.mp h).1
    have other : countOf (r.requester == q) = 0 := by simp [countOf, hq]
    rw [other]
    omega

theorem guards_journalGrant : Guards s (execJournalGrant s) := by
  obtain ⟨-, same⟩ | ⟨r, hr, -, granted⟩ := execJournalGrant_cases s
  · rw [same]
    exact guards_same
  · rw [granted]
    exact yields_next ((Guarded.refl s).modJournal (f := fun j => { j with
      pending := j.pending.filter fun x => x.requester != r.requester
      inProgress := some { request := r, stamp := s.stamp r.deck }
      lastGranted := r.requester
      erase := j.erase.suspend }) rfl rfl rfl fun q _ => load_grant_le hr q)

/-! ### The clock -/

theorem guarded_tickTimers {c : YardClock} : Guarded s { tickTimers s with clock := c } := by
  refine ⟨⟨⟨rfl, rfl, rfl, ?_, id, ?_⟩, rfl, ?_, ?_⟩, raised_of_same_driver fun e => by cases e <;> rfl⟩
  · exact id
  · exact fun h => h.of_steps (fun d => by cases d <;> exact .of_eq_places rfl rfl rfl rfl)
      (fun _ _ => le_rfl) rfl rfl
  · intro d
    cases d <;> rfl
  · intro d
    cases d <;> rfl

theorem guards_clockSecond : Guards s (execClockSecond s) := yields_next guarded_tickTimers.overstayTest

theorem guards_batteryMonitorChange {b : Bool} : Guards s (execBatteryMonitorChange b s) :=
  yields_next (Guarded.refl s).changeClock

/-! ### Printers -/

theorem guards_printerJobStart : Guards s (execPrinterJobStart d s) := by
  unfold execPrinterJobStart
  split
  exacts [yields_next (Guarded.refl s).startJob, guards_same]

theorem guards_printerCharacterSent : Guards s (execPrinterCharacterSent d s) := by
  unfold execPrinterCharacterSent
  dsimp only
  split
  · split
    exacts [yields_next (Guarded.refl s).modPrinter, guards_same]
  · exact guards_same

theorem guards_printerLastCharacterSent : Guards s (execPrinterLastCharacterSent d s) := by
  unfold execPrinterLastCharacterSent
  dsimp only
  split
  · split
    exacts [yields_next (Guarded.refl s).modPrinter, guards_same]
  · exact guards_same

theorem guards_printerEndTimerExpiry : Guards s (execPrinterEndTimerExpiry d s) := by
  unfold execPrinterEndTimerExpiry
  dsimp only
  split
  · split
    exacts [yields_next (Guarded.refl s).modPrinter, yields_next (Guarded.refl s).jobPrinted]
  · exact guards_same

theorem guards_busyChange {b : Bool} : Guards s (execBusyChange d b s) := by
  unfold execBusyChange
  split
  · exact guards_same
  · refine yields_next ?_
    split
    exacts [(Guarded.refl s).modDeckLines.modPrinter, (Guarded.refl s).busyOff]

theorem guards_paperChange {b : Bool} : Guards s (execPaperChange d b s) := by
  refine yields_next ?_
  split
  exacts [(Guarded.refl s).modDeckLines.printerConditionBegins,
    (Guarded.refl s).modDeckLines.printerConditionEnds]

theorem guards_takeEvent : Guards s (execTakeEvent d s) := by
  unfold execTakeEvent
  split
  exacts [guards_same, yields_next (Guarded.refl s).modDeckLines.ticketTaken]

theorem guards_uncollectedTimerExpiry : Guards s (execUncollectedTimerExpiry d s) := by
  have expired : Guarded s (s.modPrinter d fun p => { p with uncollected := .expired }) :=
    (Guarded.refl s).modPrinter
  unfold execUncollectedTimerExpiry
  split
  · refine yields_next ?_
    split
    exacts [expired.startJob, expired]
  · exact guards_same

theorem guards_stuckTimerExpiry : Guards s (execStuckTimerExpiry d s) := by
  have expired : Guarded s (s.modPrinter d fun p => { p with stuck := .expired }) :=
    (Guarded.refl s).modPrinter
  unfold execStuckTimerExpiry
  dsimp only
  split
  · refine yields_next ?_
    split
    exacts [expired.printerConditionBegins, expired]
  · exact guards_same

theorem guards_silenceTimerExpiry : Guards s (execSilenceTimerExpiry s) := by
  unfold execSilenceTimerExpiry
  split
  · exact yields_next ((Guarded.refl s).modLink.offer.foldl (fun _ _ h => h.detachEnd) EndId.all)
  · exact guards_same

end Sys2Proof.Machine
end

section
/-! PROOFS. The host's commands that leave the metrology block, the parameters, the zeros and the store
alone are guarded. -/

namespace Sys2Proof.Machine

-- One declaration after another: at once they ask for more threads than the check's limits allow.
set_option Elab.async false

variable {s : State} {d : Deck} {e : EndId}

/-! ### The forms a host's command takes -/

theorem guards_query {r : Reply} : Guards s (answer r s) := guards_answer (.refl s)

theorem guards_laneWrite {k : Result State} (h : Guards s k) : Guards s (laneWrite s k) :=
  yields_laneWrite (Guarded.refl s).answered h

theorem guards_writeWord {α : Type} {p : Option α} {f : α → State → State}
    (h : ∀ v, Guarded s (f v s)) : Guards s (writeWord p f s) :=
  yields_writeWord (Guarded.refl s).answered fun v => (h v).answered

theorem guards_writeSetting {lo hi dflt : Nat} {p : Option SetArg} {f : Nat → State → State}
    (h : ∀ v, Guarded s (f v s)) : Guards s (writeSetting lo hi dflt p f s) :=
  yields_writeSetting (fun _ => (Guarded.refl s).answered) fun v _ => (h v).answered

/-- A write to the tables or to the part that keeps the sizes. -/
theorem guarded_tables {t : State} (tables : TablesKept s → TablesKept t)
    (metro : t.metro = s.metro := by rfl) (decks : t.decks = s.decks := by rfl)
    (ends : t.ends = s.ends := by rfl) (journal : t.journal = s.journal := by rfl)
    (faults : t.faults = s.faults := by rfl) (closing : t.link.closing = s.link.closing := by rfl)
    (outcomes : t.outcomes = s.outcomes := by rfl) : Guarded s t :=
  (Guarded.refl s).calm (calm_of_eq metro decks journal faults closing outcomes tables)
    fun x => congrArg (fun ends => (ends.get x).driver) ends

/-! ### Weighing and capture -/

theorem Guarded.agesZero {t : State} (h : Guarded s t) : Guarded s (agesZero d t) := h.modDeck

theorem guarded_part (p : Part) : Guarded s { s with part := p } :=
  guarded_tables id

theorem guards_partScan {rate : Option SetArg} : Guards s (execPartScan rate s) := by
  refine guards_laneWrite ?_
  split
  · exact guards_refuse
  · refine guards_answer ?_
    split
    exacts [.refl s, (guarded_part _).restartBoth.agesZero.agesZero]

theorem guards_deckFilter {n : Option SetArg} : Guards s (execDeckFilter d n s) := by
  refine guards_laneWrite ?_
  split
  · exact guards_refuse
  · refine guards_answer ?_
    split
    exacts [.refl s, (Guarded.refl s).modWcu.restartWindows]

theorem guards_deckStability {mb : Option (SetArg × SetArg)} :
    Guards s (execDeckStability d mb s) := by
  refine guards_laneWrite ?_
  split
  · exact guards_refuse
  · refine guards_answer ?_
    split
    exacts [.refl s, (Guarded.refl s).modWcu]

theorem guards_deckCaptureQuery : Guards s (execDeckCaptureQuery d s) := by
  unfold execDeckCaptureQuery
  dsimp only
  split
  exacts [guards_query, guards_query]

/-! ### Barriers and polarity -/

theorem guarded_polarityEffect {l k : EndLine} {v : Polarity} :
    Guarded s (polarityEffect e l
      (s.modStation e fun t => { t with polarity := t.polarity.put k v })) := by
  have same : ∀ x, (s.modStation e fun t => { t with polarity := t.polarity.put k v }).driver x
      = s.driver x := fun x => by cases e <;> cases x <;> rfl
  have put : Guarded s (s.modStation e fun t => { t with polarity := t.polarity.put k v }) :=
    (Guarded.refl s).calm (calm_modStation e _) same
  unfold polarityEffect
  split
  · split
    exacts [put, put.safetyChange fun x => by rw [same]]
  · unfold loopfaultOn
    split
    exacts [put, (put.safetyChange fun x => by rw [same]).condArises]
  all_goals exact put

theorem guards_endPolarity {p : Option (EndLine × Polarity)} : Guards s (execEndPolarity e p s) := by
  refine guards_laneWrite ?_
  split
  · exact guards_refuse
  · split
    exacts [guards_query, guards_answer guarded_polarityEffect]

theorem guards_endPolarityQuery {l : Option EndLine} : Guards s (execEndPolarityQuery e l s) := by
  unfold execEndPolarityQuery
  split
  exacts [guards_refuse, guards_query]

theorem guards_deckPolarityQuery {l : Option DeckLine} : Guards s (execDeckPolarityQuery d l s) := by
  unfold execDeckPolarityQuery
  split
  exacts [guards_refuse, guards_query]

theorem guards_partPolarityQuery {l : Option PartLine} : Guards s (execPartPolarityQuery l s) := by
  unfold execPartPolarityQuery
  split
  exacts [guards_refuse, guards_query, guards_query]

theorem guarded_changeMode {m : DriveMode} : Guarded s (changeMode e m s) :=
  (Guarded.refl s).driver (calm_changeMode e m s)
    (raised_of_first (fun _ => rfl) (changeMode_driverOnly e m s) (changeMode_not_upward m))

theorem guards_barrierMode {m : Option DriveMode} : Guards s (execBarrierMode e m s) := by
  refine guards_laneWrite ?_
  split
  · exact guards_refuse
  · rename_i v
    have changed : Guarded s (if (s.driver e).mode = v then s else changeMode e v s) := by
      split
      exacts [.refl s, guarded_changeMode]
    split
    exacts [guards_answer changed, guards_answer changed, guards_refuse, guards_refuse, guards_refuse]

theorem guards_barrierRaise : Guards s (execBarrierRaise e s) := by
  unfold execBarrierRaise
  dsimp only
  split
  · rename_i permit
    refine guards_answer ((Guarded.refl s).raiseExecuted ?_)
    obtain ⟨-, -, -, down | upward⟩ := permit
    · exact .inl (by simpa [State.barrierDown] using down)
    · exact .inr upward
  · exact guards_refuse

theorem guards_barrierLower : Guards s (execBarrierLower e s) := by
  unfold execBarrierLower
  split
  exacts [guards_answer (Guarded.refl s).lowerRequest, guards_refuse]

/-! ### Ends and the admission table -/

theorem guards_endPresent {g : Option Tag} : Guards s (execEndPresent e g s) := by
  unfold execEndPresent
  split
  · exact guards_refuse
  · split
    exacts [guards_answer (Guarded.refl s).acceptTag, guards_refuse]

theorem guards_endAdmit {p : Option AdmitArgs} : Guards s (execEndAdmit e p s) := by
  unfold execEndAdmit
  dsimp only
  split
  · exact guards_refuse
  · split
    · exact guards_refuse
    · split
      · exact guards_refuse
      · split
        · exact guards_refuse
        · split
          · split
            · exact guards_refuse
            · split
              exacts [guards_refuse, guards_answer (Guarded.refl s).modMachine.holdCheck]
          · exact guards_refuse

theorem guards_endRefuse : Guards s (execEndRefuse e s) := by
  have refused := guards_answer (s := s) (r := .ok [])
    ((Guarded.refl s).refuseEnd (e := e) (r := .host) (p := (s.machine e).reason))
  unfold execEndRefuse
  split
  exacts [refused, refused, refused, guards_refuse, guards_refuse, guards_refuse, guards_refuse]

theorem guarded_setEntry {i : Nat} {en : AdmitEntry} : Guarded s (s.setEntry i en) :=
  guarded_tables fun ⟨h1, h2, h3, h4, rest⟩ => ⟨h1, h2, h3, by simpa [State.setEntry] using h4, rest⟩

theorem guards_tagSet {i : Int} {p : Option TagSetArgs} : Guards s (execTagSet i p s) := by
  unfold execTagSet
  split
  exacts [guards_answer guarded_setEntry, guards_refuse]

theorem guards_tagClear {i : Int} : Guards s (execTagClear i s) := by
  unfold execTagClear
  split
  exacts [guards_refuse, guards_answer guarded_setEntry]

theorem guards_tagQuery {i : Int} : Guards s (execTagQuery i s) := by
  unfold execTagQuery
  split
  exacts [guards_refuse, guards_query]

theorem guards_tagMatchQuery {g : Option Tag} : Guards s (execTagMatchQuery g s) := by
  unfold execTagMatchQuery
  split
  · exact guards_refuse
  · split
    exacts [guards_query, guards_query]

theorem guards_tagPolicy {p : Option Policy} : Guards s (execTagPolicy p s) :=
  guards_writeWord fun _ => guarded_tables id

/-! ### Deck transactions -/

theorem guards_deckOpen {m : Option OpenMode} : Guards s (execDeckOpen d m s) := by
  unfold execDeckOpen
  split
  · exact guards_refuse
  · dsimp only
    split
    · exact guards_refuse
    · split
      · exact guards_refuse
      · rename_i w _ _
        have opened : Guarded s (s.modSettings d fun t => { t with mode := openMode w }) :=
          (Guarded.refl s).modSettings
        refine guards_answer ?_
        split <;> split
        exacts [opened.lowerBoth.wakeTest.wakeTest.modDeck, opened.wakeTest.wakeTest.modDeck,
          opened.lowerBoth.wakeTest.wakeTest, opened.wakeTest.wakeTest]

theorem guards_deckClose : Guards s (execDeckClose d s) := by
  unfold execDeckClose
  split
  · exact guards_query
  · split
    exacts [guards_answer (Guarded.refl s).becomeClosed, guards_answer (Guarded.refl s).modSettings]

theorem guards_deckCancel : Guards s (execDeckCancel d s) := by
  unfold execDeckCancel
  dsimp only
  split
  · rename_i weighing
    refine guards_answer (Guarded.enterEjecting
      ((Guarded.refl s).modCapture_free (f := Capture.withdraw) fun _ => rfl).modSeq.turnBackVisit ?_)
    simp [turnBackVisit_deck, weighing]
  · rename_i entering
    refine guards_answer (Guarded.enterEjecting (Guarded.refl s).modSeq.turnBackVisit ?_)
    simp [turnBackVisit_deck, entering]
  all_goals exact guards_refuse

theorem guards_deckRelease : Guards s (execDeckRelease d s) := by
  unfold execDeckRelease
  split
  · rename_i ticketing
    exact guards_answer ((Guarded.refl s).enterDeparting (by simp [ticketing]))
  · exact guards_refuse

/-! ### Visits, tares, accounts and classes -/

theorem guards_visitOverstay {n : Option SetArg} : Guards s (execVisitOverstay n s) :=
  guards_writeSetting fun _ => ((Guarded.refl s).modVisits id).overstayTest

theorem guards_visitQuery {n : Int} : Guards s (execVisitQuery n s) := by
  unfold execVisitQuery
  split
  · exact guards_refuse
  · split
    exacts [guards_refuse, guards_query]

theorem guards_visitFindQuery {g : Option Tag} : Guards s (execVisitFindQuery g s) := by
  unfold execVisitFindQuery
  split
  · exact guards_refuse
  · split
    exacts [guards_refuse, guards_query]

theorem guards_visitNextQuery {n : Option Int} : Guards s (execVisitNextQuery n s) := by
  unfold execVisitNextQuery
  split
  · exact guards_refuse
  · split
    exacts [guards_query, guards_query]

theorem guards_tareSet {p : Option (Tag × Int)} : Guards s (execTareSet p s) := by
  unfold execTareSet
  split
  · exact guards_refuse
  · split
    exacts [guards_refuse, guards_answer (Guarded.refl s).storeTare]

theorem guards_tareClear {g : Option Tag} : Guards s (execTareClear g s) := by
  unfold execTareClear
  split
  · exact guards_refuse
  · split
    · exact guards_refuse
    · exact guards_answer (guarded_tables fun ⟨h1, h2, rest⟩ => ⟨h1, by simpa using h2, rest⟩)

theorem guards_tareFindQuery {g : Option Tag} : Guards s (execTareFindQuery g s) := by
  unfold execTareFindQuery
  split
  · exact guards_refuse
  · split
    exacts [guards_refuse, guards_query]

theorem guards_tareIndexQuery {i : Int} : Guards s (execTareIndexQuery i s) := by
  unfold execTareIndexQuery
  split
  · exact guards_refuse
  · split
    exacts [guards_query, guards_query]

theorem guards_tareExpiry {n : Option SetArg} : Guards s (execTareExpiry n s) :=
  guards_writeSetting fun _ => guarded_tables id

theorem guards_accountAdd {n : Int} {p : Option (Int × List Int)} :
    Guards s (execAccountAdd n p s) := by
  unfold execAccountAdd
  split
  · split
    · exact guards_refuse
    · split
      · rename_i room
        refine guards_answer (guarded_tables ?_)
        rintro ⟨h1, h2, -, rest⟩
        refine ⟨h1, h2, ?_, rest⟩
        rw [List.length_append, List.length_singleton]
        exact room
      · exact guards_refuse
  · exact guards_refuse

theorem guards_accountDelete {n : Int} : Guards s (execAccountDelete n s) := by
  unfold execAccountDelete
  split
  · exact guards_refuse
  · split
    · exact guards_refuse
    · split
      · exact guards_refuse
      · exact guards_answer (guarded_tables fun ⟨h1, h2, h3, rest⟩ => ⟨h1, h2, (List.length_filter_le _ _).trans h3, rest⟩)

theorem guards_accountWrite {α : Type} {n : Int} {p : Option α} {k : Account → α → Result State}
    (hk : ∀ a v, Guards s (k a v)) : Guards s (accountWrite n p s k) := by
  unfold accountWrite
  split
  · split
    · exact guards_refuse
    · split
      exacts [guards_refuse, hk _ _]
  · exact guards_refuse

theorem guards_accountCredit {n : Int} {p : Option Int} : Guards s (execAccountCredit n p s) := by
  refine guards_accountWrite fun a v => ?_
  dsimp only
  split
  exacts [guards_answer (Guarded.refl s).modAccount, guards_answer (Guarded.refl s).modAccount]

theorem guards_accountStatus {n : Int} {w : Option StatusWord} :
    Guards s (execAccountStatus n w s) := by
  refine guards_accountWrite fun a v => ?_
  split
  · split
    exacts [guards_query, guards_answer (Guarded.refl s).modAccount]
  exacts [guards_answer (Guarded.refl s).modAccount, guards_answer (Guarded.refl s).modAccount]

theorem guards_accountQuery {n : Int} : Guards s (execAccountQuery n s) := by
  unfold execAccountQuery
  split
  · exact guards_refuse
  · split
    exacts [guards_refuse, guards_query]

theorem guards_accountNextQuery {n : Option Int} : Guards s (execAccountNextQuery n s) := by
  unfold execAccountNextQuery
  split
  · exact guards_refuse
  · split
    exacts [guards_query, guards_query]

theorem guards_classWrite {α : Type} {c : Int} {p : Option α} {f : WasteClass → α → WasteClass} :
    Guards s (classWrite c p f s) := by
  unfold classWrite
  split
  · exact guards_answer (guarded_tables fun ⟨h1, h2, h3, h4, h5, rest⟩ => ⟨h1, h2, h3, h4, by simpa using h5, rest⟩)
  · exact guards_refuse

theorem guards_classQuery {c : Int} : Guards s (execClassQuery c s) := by
  unfold execClassQuery
  split
  exacts [guards_refuse, guards_query]

/-! ### Journal and clock -/

theorem guards_journalLow {n : Option SetArg} : Guards s (execJournalLow n s) :=
  guards_writeSetting fun _ => (Guarded.refl s).modJournal.levelReports

theorem guards_journalPurgeEnable : Guards s (execJournalPurgeEnable s) :=
  yields_next (Guarded.refl s).answered.modJournal

theorem guards_journalPageQuery {p : Option Int} : Guards s (execJournalPageQuery p s) := by
  unfold execJournalPageQuery
  split
  exacts [guards_refuse, guards_query]

theorem guards_journalRead {q : Option Int} : Guards s (execJournalRead q s) := by
  unfold execJournalRead
  split
  · exact guards_refuse
  · split
    exacts [guards_refuse, guards_answer (Guarded.refl s).modJournal]

theorem guards_journalNextQuery : Guards s (execJournalNextQuery s) := by
  unfold execJournalNextQuery
  split
  exacts [guards_query, guards_answer (Guarded.refl s).modJournal]

theorem guards_clockSet {p : Option ClockArgs} : Guards s (execClockSet p s) := by
  unfold execClockSet
  split
  · exact guards_refuse
  · split
    · exact guards_refuse
    · split
      · exact guards_refuse
      · split
        exacts [guards_refuse, guards_answer (Guarded.refl s).journalRequest]

/-! ### Layouts and tickets -/

theorem guarded_setLayout {i : Nat} {l : List Text} : Guarded s (s.setLayout i l) :=
  guarded_tables fun ⟨h1, h2, h3, h4, h5, h6, rest⟩ =>
      ⟨h1, h2, h3, h4, h5, by simpa [State.setLayout] using h6, rest⟩

theorem guards_layoutLine {n : Int} {k : Option Int} {text : Text} :
    Guards s (execLayoutLine n k text s) := by
  unfold execLayoutLine
  split
  · split
    · exact guards_refuse
    · split
      · exact guards_refuse
      · split
        exacts [guards_refuse, guards_answer guarded_setLayout]
  · exact guards_refuse

theorem guards_layoutClear {n : Int} : Guards s (execLayoutClear n s) := by
  unfold execLayoutClear
  split
  · exact guards_refuse
  · split
    exacts [guards_refuse, guards_answer guarded_setLayout]

theorem guards_layoutLineQuery {n : Int} {k : Option Int} : Guards s (execLayoutLineQuery n k s) := by
  unfold execLayoutLineQuery
  split
  · split
    exacts [guards_query, guards_query]
  · exact guards_refuse

theorem guards_ticketReprint {q : Option Int} : Guards s (execTicketReprint d q s) := by
  unfold execTicketReprint
  split
  · exact guards_refuse
  · split
    · split
      · rename_i room
        exact guards_answer ((Guarded.refl s).joinQueue room)
      · exact guards_refuse
    · exact guards_refuse

/-! ### Link and part -/

theorem guards_linkBaud {b : Option SetArg} : Guards s (execLinkBaud b s) := by
  unfold execLinkBaud
  split
  exacts [guards_refuse, guards_answer (Guarded.refl s).modLink]

theorem guards_linkSilence {v : Option SilenceArg} : Guards s (execLinkSilence v s) := by
  unfold execLinkSilence
  split
  exacts [guards_refuse, guards_answer (Guarded.refl s).modLink]

theorem guards_partStart : Guards s (execPartStart s) := by
  unfold execPartStart
  split
  · exact guards_query
  · split
    exacts [guards_answer (Guarded.refl s).setRun.wakeAll, guards_query]

theorem guards_partStop : Guards s (execPartStop s) := by
  unfold execPartStop
  split
  · exact guards_query
  · split
    exacts [guards_answer (Guarded.refl s).setRun.lowerBoth.lowerBoth, guards_refuse]

/-! ### Outcomes, reports and faults -/

theorem guards_outcomeQuery : Guards s (execOutcomeQuery s) := by
  unfold execOutcomeQuery
  split
  exacts [guards_query, guards_query]

/-- An outcome queue no longer than before. -/
theorem guarded_outcomes {o : Outcomes} (h : o.queue.length ≤ s.outcomes.queue.length) :
    Guarded s { s with outcomes := o } := by
  refine ⟨⟨⟨rfl, rfl, rfl, id, id, ?_⟩, rfl, fun _ => rfl, fun _ => rfl⟩,
    raised_of_same_driver fun _ => rfl⟩
  rintro ⟨decks, link, room⟩
  exact ⟨decks, link, (Nat.add_le_add_right h _).trans room⟩

theorem guards_outcomeTake {q : Option Int} : Guards s (execOutcomeTake q s) := by
  unfold execOutcomeTake
  split
  · exact guards_refuse
  · split
    · exact guards_refuse
    · rename_i queue
      split
      · refine guards_answer (guarded_outcomes ?_)
        rw [queue]
        exact Nat.le_succ _
      · exact guards_refuse

theorem guards_outcomeHigh {n : Option SetArg} : Guards s (execOutcomeHigh n s) := by
  unfold execOutcomeHigh
  split
  · exact guards_refuse
  · rename_i v
    exact guards_answer (guarded_outcomes (o := { s.outcomes with high := v.value 8 64 32 }) le_rfl)

theorem guards_outcomeAttn {n : Option SetArg} : Guards s (execOutcomeAttn n s) := by
  unfold execOutcomeAttn
  split
  · exact guards_refuse
  · rename_i v
    exact guards_answer (guarded_outcomes (o := { s.outcomes with attn := v.value 1 64 1 }) le_rfl)

theorem guards_reportQuery : Guards s (execReportQuery s) := by
  unfold execReportQuery
  split
  exacts [guards_query, guards_query]

theorem guards_reportTake {n : Option Int} : Guards s (execReportTake n s) := by
  unfold execReportTake
  split
  · exact guards_refuse
  · split
    · exact guards_refuse
    · rename_i queue
      split
      · refine guards_answer ((Guarded.refl s).calm (calm_modReports (fun hq => ?_) rfl) fun _ => rfl)
        rw [queue] at hq
        exact (Nat.le_succ _).trans hq
      · exact guards_refuse

theorem guards_reportMode {p : Option (ReportGroup × ReportMode)} : Guards s (execReportMode p s) :=
  guards_writeWord fun v => (Guarded.refl s).calm
    (calm_modReports (fun hq => by rcases v with ⟨_ | _ | _ | _, m⟩ <;> exact hq)
      (by rcases v with ⟨_ | _ | _ | _, m⟩ <;> rfl)) fun _ => rfl

theorem guards_reportModeQuery {g : Option ReportGroup} : Guards s (execReportModeQuery g s) := by
  unfold execReportModeQuery
  split
  exacts [guards_refuse, guards_query]

theorem Guarded.markRead {t : State} (h : Guarded s t) {f : FaultSource} : Guarded s (markRead t f) := by
  refine h.setFault fun kept => ?_
  unfold FaultEntry.shown
  split
  · rename_i raised
    have active : (t.faults.get f).state ≠ .clear := by simpa [FaultEntry.raised] using raised
    have shaped := kept f
    rw [if_neg active] at shaped
    exact .of_count active shaped.1 shaped.2
  · exact kept f

theorem guards_faultQuery : Guards s (execFaultQuery s) := by
  unfold execFaultQuery
  dsimp only
  split
  · exact guards_query
  · exact guards_answer ((Guarded.refl s).foldl (fun _ _ h => h.markRead) _)

theorem guards_faultSourceQuery {f : Option FaultSource} : Guards s (execFaultSourceQuery f s) := by
  unfold execFaultSourceQuery
  split
  exacts [guards_refuse, guards_answer (Guarded.refl s).markRead]

theorem guarded_entryCleared {f g : FaultSource} :
    Guarded s (entryCleared f (s.setFault g .clear)) := by
  have cleared : Guarded s (s.setFault g .clear) := (Guarded.refl s).setFault fun _ => .clear
  unfold entryCleared
  split
  · rename_i e
    refine guarded_withDown ?_
    refine cleared.driver (calm_recoveryLower e _)
      (raised_of_first (t := s.setFault g .clear) (fun _ => rfl) (recoveryLower_driverOnly e _) ?_)
    intro down
    rw [recoveryLower_of_not_fault (by rw [down]; decide), down]
    rfl
  · exact cleared.printerFaultExit
  all_goals exact cleared

theorem guards_faultClear {f : Option FaultSource} : Guards s (execFaultClear f s) := by
  unfold execFaultClear
  split
  · exact guards_refuse
  · dsimp only
    split
    · exact guards_refuse
    · exact guards_query
    · split
      exacts [guards_answer guarded_entryCleared, guards_refuse]

end Sys2Proof.Machine
end

section
/-! PROOFS. The commands that do change the metrology block, a parameter, a zero, the store or the
places of the outcome queue: each keeps the invariants of a safe run, and raises barriers only as R72
permits. -/

namespace Sys2Proof.Machine

-- One declaration after another: at once they ask for more threads than the check's limits allow.
set_option Elab.async false

variable {s t u : State} {d : Deck} {e : EndId}

/-! ### What every command keeps -/

/-- A journal whose mark of what is exported stands below its next sequence, as `JournalKept` asks of its store. -/
def Journal.Sound (j : Journal) : Prop :=
  j.pages.length = 64 ∧ j.exported < j.nextSeq
    ∧ ∀ p ∈ j.pages, p.used.length ≤ 256
        ∧ (p.state = .current → p.used.length < 256)
        ∧ ∀ r ∈ recordsOf p.used, r.seq < j.nextSeq

theorem journalKept_iff (s : State) : JournalKept s ↔ s.journal.Sound := Iff.rfl

theorem Journal.Sound.congr {j k : Journal} (h : j.Sound) (pages : k.pages = j.pages)
    (next : k.nextSeq = j.nextSeq) (exported : k.exported = j.exported) : k.Sound := by
  unfold Journal.Sound at *
  rw [pages, next, exported]
  exact h

/-- What every command keeps of the state it starts in: a locked block its parameters, the lock, the
count, the zeros' range, the journal, the tables, the fault entries and the outcome queue. -/
structure Sound (s t : State) : Prop where
  frozen : s.metro.lock = true → s.metro.switchOn = false →
    ∀ d, (t.deck d).params = (s.deck d).params
  lock : s.metro.lock = true → t.metro.lock = true
  count : s.metro.count ≤ 65535 → s.metro.count ≤ t.metro.count ∧ t.metro.count ≤ 65535
  zero : ZeroKept s → ZeroKept t
  journal : JournalKept s → JournalKept t
  nextSeq : s.journal.nextSeq ≤ t.journal.nextSeq
  tables : TablesKept s → TablesKept t
  faults : FaultsKept s → FaultsKept t
  outcomes : OutcomesKept s → OutcomesKept t

/-- `Sound`, with the barriers raised as R72 permits. -/
structure Safe (s t : State) : Prop extends Sound s t where
  raised : Raised s t

theorem Kept.sound (k : Kept s t)
    (frozen : s.metro.lock = true → s.metro.switchOn = false →
      ∀ d, (t.deck d).params = (s.deck d).params)
    (lock : s.metro.lock = true → t.metro.lock = true)
    (count : s.metro.count ≤ 65535 → s.metro.count ≤ t.metro.count ∧ t.metro.count ≤ 65535)
    (zero : ZeroKept s → ZeroKept t) : Sound s t where
  frozen := frozen
  lock := lock
  count := count
  zero := zero
  journal h := Journal.Sound.congr h k.pages k.nextSeq k.exported
  nextSeq := k.nextSeq.ge
  tables := k.tables
  faults := k.faults
  outcomes := k.outcomes

theorem zeroKept_of_same (h : ZeroKept s) (params : ∀ d, (t.deck d).params = (s.deck d).params)
    (zero : ∀ d, (t.deck d).wcu.zero = (s.deck d).wcu.zero) : ZeroKept t := by
  intro d
  rw [params, zero]
  exact h d

theorem Calm.sound (k : Calm s t) : Sound s t :=
  k.toKept.sound (fun _ _ => k.params) (fun h => by rwa [k.metro])
    (fun h => by rw [k.metro]; exact ⟨le_rfl, h⟩) fun h => zeroKept_of_same h k.params k.zero

/-- A calm operation after a sound one. -/
theorem Sound.calm (h : Sound s t) (k : Calm t u) : Sound s u where
  frozen hl hs d := (k.params d).trans (h.frozen hl hs d)
  lock hl := by rw [k.metro]; exact h.lock hl
  count hc := by rw [k.metro]; exact h.count hc
  zero := k.sound.zero ∘ h.zero
  journal := k.sound.journal ∘ h.journal
  nextSeq := h.nextSeq.trans k.sound.nextSeq
  tables := k.tables ∘ h.tables
  faults := k.faults ∘ h.faults
  outcomes := k.outcomes ∘ h.outcomes

/-- A sound operation after a calm one. -/
theorem Calm.sound_trans (k : Calm s t) (h : Sound t u) : Sound s u where
  frozen hl hs d := (h.frozen (by rwa [k.metro]) (by rwa [k.metro]) d).trans (k.params d)
  lock hl := h.lock (by rwa [k.metro])
  count hc := by rw [← k.metro] at hc ⊢; exact h.count hc
  zero := h.zero ∘ k.sound.zero
  journal := h.journal ∘ k.sound.journal
  nextSeq := k.sound.nextSeq.trans h.nextSeq
  tables := h.tables ∘ k.tables
  faults := h.faults ∘ k.faults
  outcomes := h.outcomes ∘ k.outcomes

theorem Guarded.safe (h : Guarded s t) : Safe s t := ⟨h.toCalm.sound, h.raised⟩

theorem Sound.safe (h : Sound s t) (ends : t.ends = s.ends) : Safe s t :=
  ⟨h, raised_of_same_driver fun e => by rw [State.driver, State.driver, ends]⟩

/-- A guarded operation after a sound one that leaves the ends as they are. -/
theorem Sound.guarded (h : Sound s t) (ends : t.ends = s.ends) (k : Guarded t u) : Safe s u := by
  refine ⟨h.calm k.toCalm, fun e down up => k.raised e ?_ up⟩
  rw [State.driver, ends]
  exact down

theorem Safe.answered (h : Safe s t) {r : Reply} : Safe s (t.answered r) :=
  ⟨h.toSound.calm (calm_answered r), h.raised.congr fun _ => rfl⟩

/-- Every next state is safe. -/
abbrev Keeps (s : State) (r : Result State) : Prop := Yields (Safe s) r

theorem Yields.mono {P Q : State → Prop} {r : Result State} (h : Yields P r) (hpq : ∀ t, P t → Q t) :
    Yields Q r := fun t ht => hpq t (h t ht)

theorem keeps_of_guards {r : Result State} (h : Guards s r) : Keeps s r :=
  Yields.mono h fun _ => Guarded.safe

theorem keeps_answer {r : Reply} (h : Safe s t) : Keeps s (answer r t) := yields_answer h.answered

theorem keeps_refuse {c : ErCode} : Keeps s (refuse c s) := keeps_of_guards guards_refuse

theorem keeps_same : Keeps s (.next s) := keeps_of_guards guards_same

theorem Safe.refl (s : State) : Safe s s := (Guarded.refl s).safe

/-! ### The zero (R20, R21, R23) -/

theorem kilograms_zero (k : Nat) : kilograms 0 k = 0 := by
  simp [kilograms, rna, Config.spanUnit]

/-- A zero at Z0 is in range whatever the parameters. -/
theorem zeroInRange_z0 (p : Params) : zeroInRange p p.z0 = true := by
  simp [zeroInRange, kilograms_zero]

theorem zeroKept_modDeck {f : DeckUnit → DeckUnit} (h : ZeroKept s)
    (hd : zeroInRange (s.deck d).params (s.deck d).wcu.zero = true →
      zeroInRange (f (s.deck d)).params (f (s.deck d)).wcu.zero = true) : ZeroKept (s.modDeck d f) :=
  fun x => modDeck_each (Q := fun u v => zeroInRange u.params u.wcu.zero = true →
    zeroInRange v.params v.wcu.zero = true) hd (fun _ => id) x (h x)

/-- A zero put within its range. -/
theorem sound_modWcu_zero {f : Wcu → Wcu}
    (hz : zeroInRange (s.deck d).params (f (s.deck d).wcu).zero = true) : Sound s (s.modWcu d f) :=
  (kept_modDeck id (.of_eq rfl rfl)).sound
    (fun _ _ => modDeck_each (Q := fun u v => v.params = u.params) rfl fun _ => rfl) id
    (fun h => ⟨le_rfl, h⟩) fun h => zeroKept_modDeck h fun _ => hz

theorem sound_zeroTrack (s : State) : Sound s (zeroTrack d s) := by
  unfold zeroTrack
  split
  · exact (Calm.refl s).sound
  · split
    · rename_i tracked
      refine sound_modWcu_zero ?_
      exact (Bool.and_eq_true_iff.mp tracked).2
    · exact (Calm.refl s).sound

@[simp] theorem zeroTrack_ends (d : Deck) (s : State) : (zeroTrack d s).ends = s.ends := by
  unfold zeroTrack
  split
  · rfl
  · split <;> rfl

@[simp] theorem signal_ends (f : FaultSource) (g : Signal) (s : State) :
    (signal f g s).ends = s.ends := by
  obtain ⟨v, r, h⟩ := signal_frame s f g
  rw [h]

@[simp] theorem channelStep_ends (d : Deck) (ch : Chan) (f : Channel → Channel × Signal) (s : State) :
    (channelStep d ch f s).ends = s.ends := signal_ends _ _ _

@[simp] theorem slotChannel_ends (d : Deck) (s : State) (ch : Chan) :
    (slotChannel d s ch).ends = s.ends := by
  unfold slotChannel
  dsimp only
  rw [channelStep_ends]
  split
  · simp
  · exact (channelStep_ends _ _ _ _).trans (channelStep_ends _ _ _ _)

@[simp] theorem slotChannels_ends (d : Deck) (s : State) : (slotChannels d s).ends = s.ends := by
  simp [slotChannels, Chan.all]

theorem Guarded.slotChannel (h : Guarded s t) {ch : Chan} : Guarded s (slotChannel d t ch) := by
  unfold Machine.slotChannel
  dsimp only
  refine Guarded.channelStep ?_
  split
  exacts [h.channelStep.channelStep, h.channelStep.channelStep.restartWindows]

theorem guarded_slotChannels : Guarded s (slotChannels d s) :=
  (Guarded.refl s).foldl (fun _ _ h => h.slotChannel) Chan.all

theorem Guarded.notClearTest (h : Guarded s t) : Guarded s (notClearTest d t) := by
  unfold Machine.notClearTest
  dsimp only
  split
  · exact h
  · split
    · exact h.modDeck
    · split
      exacts [h.modDeck.offer, h]

theorem Guarded.evaluateSet (h : Guarded s t) : Guarded s (evaluateSet d t) := by
  unfold Machine.evaluateSet
  split
  · exact h
  · have seen (p : Published) : Guarded s (t.modCapture d fun c => c.seeMotion p.stable) :=
      h.modCapture (by unfold Capture.seeMotion; split <;> [rfl; split <;> rfl])
    dsimp only
    split
    · split
      exacts [(seen _).modCapture, (seen _).modCapture]
    · exact seen _

theorem keeps_slotEnd : Keeps s (execSlotEnd d s) := by
  have aged : Guarded s (slotChannels d s) := guarded_slotChannels
  have published : Guarded s ((slotChannels d s).modDeck d fun u =>
      { u.clearDelivered with wcu := u.publish }) := aged.modDeck
  unfold execSlotEnd
  dsimp only
  split
  · refine yields_next ?_
    have tracked := published.toCalm.sound_trans (sound_zeroTrack (d := d) _)
    refine tracked.guarded ?_ (Guarded.refl _).notClearTest.evaluateSet
    rw [zeroTrack_ends]
    exact slotChannels_ends d s
  · exact yields_next aged.safe

theorem keeps_deckZero : Keeps s (execDeckZero d s) := by
  unfold execDeckZero
  split
  · exact keeps_refuse
  · split
    · exact keeps_refuse
    · split
      · exact keeps_of_guards guards_query
      · split
        · rename_i inRange
          exact keeps_answer ((sound_modWcu_zero (f := fun w => { w.unsettle with zero := _ })
            inRange).safe rfl)
        · exact keeps_of_guards guards_query

/-! ### The calibration commands (R46 to R51) -/

/-- What a calibration command has been given when its own work begins (R46). -/
def CalOpen (s : State) : Prop := s.metro.switchOn = true ∨ s.metro.lock = false

theorem keeps_calAccess {k : Result State} (h : CalOpen s → Keeps s k) : Keeps s (calAccess s k) := by
  unfold calAccess
  split
  · rename_i on
    exact h (.inl on)
  · split
    · exact keeps_refuse
    · rename_i unlocked
      split
      · exact keeps_refuse
      · exact h (.inr (by simpa using unlocked))

/-- `t` comes of `s` by writes of the parameters and windows of deck `d`. -/
structure Calibrated (d : Deck) (s t : State) : Prop where
  kept : Kept s t
  lock : t.metro.lock = s.metro.lock
  count : t.metro.count = s.metro.count
  ends : t.ends = s.ends
  others : ∀ x, x ≠ d → t.deck x = s.deck x

theorem Calibrated.safe (h : Calibrated d s t) (opened : CalOpen s)
    (zero : zeroInRange (s.deck d).params (s.deck d).wcu.zero = true →
      zeroInRange (t.deck d).params (t.deck d).wcu.zero = true) : Safe s t := by
  refine (h.kept.sound (fun locked off => ?_) (fun hl => by rwa [h.lock])
    (fun hc => by rw [h.count]; exact ⟨le_rfl, hc⟩) fun hz x => ?_).safe h.ends
  · rcases opened with on | unlocked
    · simp [on] at off
    · simp [unlocked] at locked
  · by_cases hx : x = d
    · subst hx
      exact zero (hz x)
    · rw [h.others x hx]
      exact hz x

theorem Calibrated.putParam {n : ParamName} {f : Params → Params} : Calibrated d s (putParam d n f s) := by
  have written : Kept s (s.modParams d f) := kept_modDeck id (.of_eq rfl rfl)
  have others : ∀ x, x ≠ d → (s.modParams d f).deck x = s.deck x :=
    fun x hx => State.modParams_deck_of_ne s f hx
  unfold Machine.putParam
  dsimp only
  split
  · exact ⟨written.trans (kept_modMetro _), rfl, rfl, rfl, others⟩
  · exact ⟨written, rfl, rfl, rfl, others⟩

theorem putParam_deck (n : ParamName) (f : Params → Params) :
    (putParam d n f s).deck d = { s.deck d with params := f (s.deck d).params } := by
  unfold putParam
  dsimp only
  split
  · exact State.modParams_deck s d f
  · exact State.modParams_deck s d f

/-- A further write of the deck's windows and zero. -/
theorem Calibrated.modDeck (h : Calibrated d s t) {f : DeckUnit → DeckUnit}
    (hq : (f (t.deck d)).printer = (t.deck d).printer := by rfl)
    (hs : (f (t.deck d)).seq = (t.deck d).seq := by rfl)
    (hc : (f (t.deck d)).capture.state = (t.deck d).capture.state := by rfl) :
    Calibrated d s (t.modDeck d f) where
  kept := h.kept.trans (kept_modDeck (fun hl => by rwa [hq]) (.of_eq hs hc))
  lock := h.lock
  count := h.count
  ends := h.ends
  others x hx := (State.modDeck_deck_of_ne t f hx).trans (h.others x hx)

theorem Calibrated.modWcu (h : Calibrated d s t) {f : Wcu → Wcu} : Calibrated d s (t.modWcu d f) :=
  h.modDeck

theorem Calibrated.modCapture (h : Calibrated d s t) {f : Capture → Capture}
    (hc : (f (t.deck d).capture).state = (t.deck d).capture.state) :
    Calibrated d s (t.modCapture d f) := h.modDeck rfl rfl hc

theorem Calibrated.zeroToCal (h : Calibrated d s t) : Calibrated d s (zeroToCal d t) := h.modDeck

theorem Calibrated.emptyStability (h : Calibrated d s t) : Calibrated d s (emptyStability d t) :=
  h.modWcu

theorem Calibrated.restartWindows (h : Calibrated d s t) : Calibrated d s (restartWindows d t) :=
  h.modWcu.modCapture (by unfold Capture.noset; split <;> rfl)

/-- After Z has been set equal to Z0 the zero is in range. -/
theorem zeroToCal_inRange (t : State) :
    zeroInRange ((zeroToCal d t).deck d).params ((zeroToCal d t).deck d).wcu.zero = true := by
  rw [zeroToCal, State.modDeck_deck]
  exact zeroInRange_z0 _

theorem restartWindows_params_zero (t : State) :
    ((restartWindows d t).deck d).params = (t.deck d).params
      ∧ ((restartWindows d t).deck d).wcu.zero = (t.deck d).wcu.zero := by
  simp [restartWindows, Wcu.restart]

theorem keeps_calMax {kg : Option Int} : Keeps s (execCalMax d kg s) := by
  refine keeps_calAccess fun opened => ?_
  split
  · exact keeps_refuse
  · refine keeps_answer ?_
    split
    · exact .refl s
    · exact Calibrated.putParam.zeroToCal.safe opened fun _ => zeroToCal_inRange _

theorem keeps_calInterval {n : Option Int} : Keeps s (execCalInterval d n s) := by
  refine keeps_calAccess fun opened => ?_
  split
  · exact keeps_refuse
  · refine keeps_answer ?_
    split
    · exact .refl s
    · refine Calibrated.putParam.safe opened fun inRange => ?_
      rw [putParam_deck]
      exact inRange

/-- Windows restarted over a zero set equal to Z0. -/
theorem Calibrated.safe_restarted (h : Calibrated d s t) (opened : CalOpen s) :
    Safe s (Machine.restartWindows d (Machine.zeroToCal d t)) := by
  obtain ⟨params, zero⟩ := restartWindows_params_zero (d := d) (Machine.zeroToCal d t)
  refine h.zeroToCal.restartWindows.safe opened fun _ => ?_
  rw [params, zero]
  exact zeroToCal_inRange t

theorem keeps_calTrim {ng : Option (Int × Int)} : Keeps s (execCalTrim d ng s) := by
  refine keeps_calAccess fun opened => ?_
  split
  · refine keeps_answer ?_
    split
    · exact .refl s
    · exact Calibrated.putParam.safe_restarted opened
  · exact keeps_refuse

theorem keeps_calCells {ns : Option (List Int)} : Keeps s (execCalCells d ns s) := by
  refine keeps_calAccess fun opened => ?_
  split
  · exact keeps_refuse
  · refine keeps_answer ?_
    split
    · exact .refl s
    · exact Calibrated.putParam.safe_restarted opened

/-- The stability window emptied over a zero set equal to Z0. -/
theorem Calibrated.safe_emptied (h : Calibrated d s t) (opened : CalOpen s) :
    Safe s (Machine.emptyStability d (Machine.zeroToCal d t)) := by
  refine h.zeroToCal.emptyStability.safe opened fun _ => ?_
  rw [Machine.emptyStability, State.modWcu_deck]
  exact zeroToCal_inRange t

theorem safe_putZ0 {z : Int} (opened : CalOpen s) : Safe s (putZ0 d z s) := by
  unfold putZ0
  split
  exacts [.refl s, Calibrated.putParam.safe_emptied opened]

theorem safe_putSpan {k : Nat} (opened : CalOpen s) : Safe s (putSpan d k s) := by
  unfold putSpan
  split
  exacts [.refl s, Calibrated.putParam.safe_emptied opened]

theorem keeps_calZero : Keeps s (execCalZero d s) := by
  refine keeps_calAccess fun opened => ?_
  split
  · exact keeps_refuse
  · split
    exacts [keeps_of_guards guards_query, keeps_answer (safe_putZ0 opened)]

theorem keeps_calSpan {m : Option Int} : Keeps s (execCalSpan d m s) := by
  refine keeps_calAccess fun opened => ?_
  split
  · exact keeps_refuse
  · split
    · exact keeps_refuse
    · split
      · exact keeps_of_guards guards_query
      · split
        · exact keeps_of_guards guards_query
        · split
          exacts [keeps_of_guards guards_query, keeps_answer (safe_putSpan opened)]

theorem keeps_calK {k : Option Int} : Keeps s (execCalK d k s) := by
  refine keeps_calAccess fun opened => ?_
  split
  exacts [keeps_refuse, keeps_answer (safe_putSpan opened)]

theorem keeps_calZ0 {z : Option Int} : Keeps s (execCalZ0 d z s) := by
  refine keeps_calAccess fun opened => ?_
  split
  · exact keeps_refuse
  · split
    exacts [keeps_answer (safe_putZ0 opened), keeps_refuse]

/-! ### The switch, the CALIB records and the lock (R44, R52 to R56) -/

/-- `t` comes of `s` with only the metrology block changed beyond what a calm operation may. -/
structure Metered (s t : State) : Prop where
  kept : Kept s t
  params : ∀ d, (t.deck d).params = (s.deck d).params
  zero : ∀ d, (t.deck d).wcu.zero = (s.deck d).wcu.zero
  ends : t.ends = s.ends

theorem Metered.safe (h : Metered s t) (lock : s.metro.lock = true → t.metro.lock = true)
    (count : s.metro.count ≤ 65535 → s.metro.count ≤ t.metro.count ∧ t.metro.count ≤ 65535) :
    Safe s t :=
  (h.kept.sound (fun _ _ => h.params) lock count
    fun hz => zeroKept_of_same hz h.params h.zero).safe h.ends

theorem Metered.refl (s : State) : Metered s s := ⟨.refl s, fun _ => rfl, fun _ => rfl, rfl⟩

theorem Metered.calm (h : Metered s t) (k : Calm t u) (ends : u.ends = t.ends) : Metered s u :=
  ⟨h.kept.trans k.toKept, fun d => (k.params d).trans (h.params d),
    fun d => (k.zero d).trans (h.zero d), ends.trans h.ends⟩

theorem Metered.modMetro (h : Metered s t) {f : Metro → Metro} : Metered s (t.modMetro f) :=
  ⟨h.kept.trans (kept_modMetro f), h.params, h.zero, h.ends⟩

theorem Metered.offer (h : Metered s t) {k : ReportKind} {subj : Subject} {ps : List String} :
    Metered s (offer k subj ps t) := h.calm (calm_offer k subj ps) (by simp)

theorem Metered.formCalib (h : Metered s t) {c : CalibBody} : Metered s (formCalib c t) := by
  unfold Machine.formCalib
  split
  · exact h.modMetro.calm (calm_journalRequest _ _ (by decide) (by intro d h; cases h)) rfl
  · exact h.modMetro
  · exact h.modMetro

theorem formCalib_metro (c : CalibBody) (s : State) :
    (formCalib c s).metro.lock = s.metro.lock ∧ (formCalib c s).metro.count = s.metro.count := by
  unfold formCalib
  split <;> exact ⟨rfl, rfl⟩

theorem Metered.restartBoth (h : Metered s t) : Metered s (restartBoth t) :=
  h.calm (Guarded.refl t).restartBoth.toCalm rfl

theorem safe_switchOnEvent : Safe s (switchOnEvent s) :=
  (Metered.refl s).modMetro.offer.safe (by simp [State.modMetro]) (by simp [State.modMetro])

theorem safe_switchOffEvent : Safe s (switchOffEvent s) := by
  have off : Metered s (restartBoth (s.modMetro fun m => { m with switchOn := false })) :=
    (Metered.refl s).modMetro.restartBoth
  have lock : (restartBoth (s.modMetro fun m => { m with switchOn := false })).metro.lock
      = s.metro.lock := rfl
  have count : (restartBoth (s.modMetro fun m => { m with switchOn := false })).metro.count
      = s.metro.count := rfl
  unfold switchOffEvent
  dsimp only
  split
  · refine off.modMetro.formCalib.offer.safe ?_ ?_
    · rw [offer_metro, (formCalib_metro _ _).1]
      exact id
    · rw [offer_metro, (formCalib_metro _ _).2]
      dsimp only [State.modMetro]
      omega
  · refine off.offer.safe ?_ ?_
    · rw [offer_metro, lock]
      exact id
    · rw [offer_metro, count]
      exact fun h => ⟨le_rfl, h⟩

theorem keeps_calSwitchOn : Keeps s (execCalSwitchOn s) := by
  unfold execCalSwitchOn
  split
  exacts [keeps_same, yields_next safe_switchOnEvent]

theorem keeps_calSwitchOff : Keeps s (execCalSwitchOff s) := by
  unfold execCalSwitchOff
  split
  exacts [keeps_same, yields_next safe_switchOffEvent]

/-- The mark that the comparison is due bears on nothing a safe command keeps. -/
theorem Safe.of_compared {b : Bool} (h : Safe (s.modMetro fun m => { m with compareDue := b }) t) :
    Safe s t :=
  ⟨⟨h.frozen, h.lock, h.count, h.zero, h.journal, h.nextSeq, h.tables, h.faults, h.outcomes⟩, h.raised⟩

theorem keeps_calPowerUpCompare {on : Bool} : Keeps s (execCalPowerUpCompare on s) := by
  unfold execCalPowerUpCompare
  split
  · refine yields_next (Safe.of_compared (b := false) ?_)
    split
    exacts [.refl _, safe_switchOnEvent, (Guarded.refl _).offer.safe, safe_switchOffEvent]
  · exact keeps_same

theorem keeps_metroLock : Keeps s (execMetroLock s) := by
  unfold execMetroLock
  split
  · exact keeps_refuse
  · split
    · exact keeps_refuse
    · split
      · exact keeps_refuse
      · split
        · exact keeps_refuse
        · refine keeps_answer ((Metered.refl s).modMetro.formCalib.safe (fun _ => ?_) ?_)
          · exact (formCalib_metro _ _).1
          · rw [(formCalib_metro _ _).2]
            exact fun h => ⟨le_rfl, h⟩

end Sys2Proof.Machine
end

section
/-! PROOFS. The commands that reserve or give up a place of the outcome queue, and the captures and
settlements that an append completes (chapters 2, 6 and 7). -/

namespace Sys2Proof.Machine

-- One declaration after another: at once they ask for more threads than the check's limits allow.
set_option Elab.async false

variable {s t u : State} {d : Deck} {e : EndId}

/-! ### Places held (R115, R132) -/

/-- The places of the outcome queue that stand ready for a requester's settlements. -/
def State.placesOf (s : State) : Requester → Nat
  | .settle d => (s.deck d).seq.places
  | .link => countOf s.link.closing.isSome
  | .capture _ | .metrology | .clock => 0

theorem load_le_placesOf (h : OutcomesKept s) {r : Requester} (hr : r = .link ∨ ∃ d, r = .settle d) :
    s.journal.load r ≤ s.placesOf r := by
  rcases hr with rfl | ⟨d, rfl⟩
  · exact h.2.1
  · exact (h.1 d).1

/-- Where no requester gains more requests than places, and the queue keeps its room, `OutcomesKept`
stays. -/
theorem outcomesKept_of_places (h : OutcomesKept s)
    (load : ∀ r, t.journal.load r + s.placesOf r ≤ s.journal.load r + t.placesOf r)
    (sound : ∀ d, (t.deck d).SettleSound)
    (room : t.outcomes.queue.length + t.reservations ≤ 64) : OutcomesKept t := by
  refine ⟨fun d => ⟨?_, sound d⟩, ?_, room⟩
  · have before := load_le_placesOf h (.inr ⟨d, rfl⟩)
    have gained := load (.settle d)
    change t.journal.load (.settle d) ≤ t.placesOf (.settle d)
    omega
  · have before := load_le_placesOf h (.inl rfl)
    have gained := load .link
    change t.journal.load .link ≤ t.placesOf .link
    omega

theorem journalRequest_load (r q : Requester) (x : Option Deck) (b : Body) (s : State) :
    (journalRequest r x b s).journal.load q = s.journal.load q + countOf (r == q) :=
  Journal.load_append _ _ _

theorem countOf_beq (r q : Requester) : countOf (r == q) = if r = q then 1 else 0 := by
  unfold countOf
  by_cases h : r = q <;> simp [h]

theorem modSeq_placesOf (d : Deck) (f : Sequencer → Sequencer) (s : State) (r : Requester) :
    (s.modSeq d f).placesOf r = if .settle d = r then (f (s.deck d).seq).places else s.placesOf r := by
  cases r with
  | settle x =>
    by_cases hx : x = d
    · subst hx
      simp [State.placesOf]
    · rw [if_neg (by simpa using Ne.symm hx), State.placesOf, State.modSeq_deck_of_ne s f hx]
      rfl
  | _ => rfl

theorem modSeq_reservations (d : Deck) (f : Sequencer → Sequencer) (s : State) :
    (s.modSeq d f).reservations + (s.deck d).seq.places
      = s.reservations + (f (s.deck d).seq).places := by
  cases d
  · change (f s.decks.a.seq).places + s.decks.b.seq.places + countOf s.link.closing.isSome
      + s.decks.a.seq.places = s.reservations + (f s.decks.a.seq).places
    unfold State.reservations
    omega
  · change s.decks.a.seq.places + (f s.decks.b.seq).places + countOf s.link.closing.isSome
      + s.decks.b.seq.places = s.reservations + (f s.decks.b.seq).places
    unfold State.reservations
    omega

theorem modSeq_sound (h : OutcomesKept s) {f : Sequencer → Sequencer}
    (hd : DeckUnit.SettleSound { s.deck d with seq := f (s.deck d).seq }) (x : Deck) :
    ((s.modSeq d f).deck x).SettleSound :=
  modDeck_each (Q := fun u v => u.SettleSound → v.SettleSound) (f := fun u => { u with seq := f u.seq })
    (fun _ => hd) (fun _ => id) x (h.1 x).2

/-- What R115 asks of a deck that takes a place. -/
theorem mayReserve_iff : s.mayReserve d = true ↔
    (s.deck d).seq.state = .settling ∧ (s.deck d).seq.reservation = false
      ∧ (s.deck d).seq.orphanSettle = false ∧ s.outcomes.queue.length + s.reservations < 64 := by
  simp only [State.mayReserve, Bool.and_eq_true, beq_iff_eq, Bool.not_eq_true', State.outcomeRoom,
    and_assoc, Config.outcomeCapacity]
  exact and_congr_right' <| and_congr_right' <| and_congr_right' decide_eq_true_iff

section Reserve
variable (may : s.mayReserve d = true)
include may

theorem places_before_reserve : (s.deck d).seq.places = 0 := by
  obtain ⟨-, unreserved, orphanless, -⟩ := mayReserve_iff.mp may
  simp [Sequencer.places, unreserved, orphanless, countOf]

theorem places_after_reserve : Sequencer.places { (s.deck d).seq with reservation := true } = 1 := by
  obtain ⟨-, -, orphanless, -⟩ := mayReserve_iff.mp may
  simp [Sequencer.places, orphanless, countOf]

/-- R115: a deck in SETTLING without a place takes one. -/
theorem outcomesKept_reservation (h : OutcomesKept s) :
    OutcomesKept (s.modSeq d fun q => { q with reservation := true }) := by
  obtain ⟨settling, -, orphanless, room⟩ := mayReserve_iff.mp may
  refine outcomesKept_of_places h (fun r => ?_) (modSeq_sound h ?_) ?_
  · rw [modSeq_placesOf]
    split
    · rename_i hr
      subst hr
      change _ + (s.deck d).seq.places ≤ _
      rw [places_before_reserve may]
      exact Nat.le_add_right _ _
    · exact le_rfl
  · exact ⟨fun _ => settling, fun ho => by simp [orphanless] at ho, (h.1 d).2.2.2⟩
  · have total := modSeq_reservations d (fun q => { q with reservation := true }) s
    rw [places_before_reserve may, places_after_reserve may] at total
    change s.outcomes.queue.length + _ ≤ 64
    omega

/-- R115: the SETTLE append is asked for with its place reserved. -/
theorem guarded_reserve {c : Settlement} : Guarded s (journalRequest (.settle d) (some d) (.settle c)
    (raisePending c (s.modSeq d fun q => { q with reservation := true }))) := by
  have reserved : Guarded s (raisePending c (s.modSeq d fun q => { q with reservation := true })) :=
    ((Guarded.refl s).calm (calm_modSeq (outcomesKept_reservation may)) fun _ => rfl).modAccount
  refine ⟨⟨⟨rfl, rfl, rfl, reserved.tables, reserved.faults, fun h => ?_⟩, rfl, reserved.params,
    reserved.zero⟩, reserved.raised⟩
  obtain ⟨decks, -, room⟩ := reserved.outcomes h
  refine outcomesKept_of_places h (fun r => ?_) (fun x => (decks x).2) room
  change _ ≤ _ + (s.modSeq d fun q => { q with reservation := true }).placesOf r
  rw [journalRequest_load, modSeq_placesOf, places_after_reserve may, countOf_beq]
  split
  · rename_i hr
    subst hr
    change _ + (s.deck d).seq.places ≤ _
    rw [places_before_reserve may]
    exact le_rfl
  · exact le_rfl

end Reserve

theorem guards_settleReserve : Guards s (execSettleReserve d s) := by
  unfold execSettleReserve
  split
  · rename_i may
    split
    exacts [yields_next (guarded_reserve may), guards_same]
  · exact guards_same

/-- R132: VISIT CLOSE takes the link's place with its request. -/
theorem guarded_closing {k : Nat} {b : Body} {v : Visit → Visit} (free : s.link.closing = none)
    (idle : s.journal.has .link = false) (room : s.outcomeRoom = true) :
    Guarded s (journalRequest .link none b
      ((s.modVisit k v).modLink fun l => { l with closing := some k })) := by
  have moved : Guarded s (s.modVisit k v) := (Guarded.refl s).modVisit
  refine ⟨⟨⟨rfl, rfl, rfl, moved.tables, id, fun h => ?_⟩, rfl, fun _ => rfl, fun _ => rfl⟩,
    moved.raised⟩
  have none : s.journal.load .link = 0 := by
    simp only [Journal.has, Bool.or_eq_false_iff] at idle
    obtain ⟨pending, inProgress⟩ := idle
    have waiting : s.journal.pending.countP (·.requester == .link) = 0 := by
      rw [List.countP_eq_zero]
      intro x hx
      exact fun hq => by simpa [hq] using List.any_eq_false.mp pending x hx
    unfold Journal.load
    rw [waiting]
    split at inProgress <;> simp_all [countOf]
  have total : s.outcomes.queue.length + s.reservations < 64 := of_decide_eq_true room
  refine ⟨fun x => ⟨?_, (h.1 x).2⟩, ?_, ?_⟩
  · rw [journalRequest_load]
    exact (h.1 x).1
  · rw [journalRequest_load]
    change s.journal.load .link + 1 ≤ 1
    rw [none]
  · change s.outcomes.queue.length
      + ((s.deck .a).seq.places + (s.deck .b).seq.places + countOf true) ≤ 64
    have reservations : s.reservations = (s.deck .a).seq.places + (s.deck .b).seq.places
        + countOf s.link.closing.isSome := rfl
    rw [reservations, free] at total
    simp only [Option.isSome_none, countOf] at total ⊢
    simp only [if_true, Bool.false_eq_true, if_false] at total ⊢
    omega

theorem guards_visitClose {n : Option Int} : Guards s (execVisitClose n s) := by
  unfold execVisitClose
  split
  · exact guards_refuse
  · split
    · exact guards_refuse
    · split
      · exact guards_refuse
      · split
        · exact guards_refuse
        · split
          · exact guards_refuse
          · rename_i free
            obtain ⟨unclosed, idle⟩ := Bool.or_eq_false_iff.mp (Bool.eq_false_of_not_eq_true free)
            split
            · exact guards_answer (Guarded.refl s).removeVisit
            · split
              · exact guards_refuse
              · split
                · exact guards_refuse
                · split
                  · exact guards_refuse
                  · rename_i room
                    split
                    · exact guards_refuse
                    · exact guards_answer (guarded_closing (by simpa using unclosed) idle
                        (by simpa using room))

end Sys2Proof.Machine
end

section
/-! PROOFS. The commands that write the journal's store, and the owners' parts at the completion of an
append (chapter 8). -/

namespace Sys2Proof.Machine

-- One declaration after another: at once they ask for more threads than the check's limits allow.
set_option Elab.async false

variable {s t u : State} {d : Deck} {j : Journal} {n : Nat}

/-! ### The pages of a sound store (R147 to R149) -/

/-- A page of at most 256 used slots, fewer while it is CURRENT, its records below `n`. -/
def Page.SoundBelow (n : Nat) (p : Page) : Prop :=
  p.used.length ≤ 256 ∧ (p.state = .current → p.used.length < 256) ∧ ∀ r ∈ recordsOf p.used, r.seq < n

theorem Page.soundBelow_empty (st : PageState) : Page.SoundBelow n { state := st, used := [] } := by
  simp [Page.SoundBelow, recordsOf]

theorem Page.SoundBelow.of_not_current {p : Page} (h : p.state ≠ .current) (size : p.used.length ≤ 256)
    (below : ∀ r ∈ recordsOf p.used, r.seq < n) : p.SoundBelow n :=
  ⟨size, fun current => absurd current h, below⟩

/-- A store of 64 sound pages. -/
def Journal.StoreBelow (j : Journal) (n : Nat) : Prop :=
  j.pages.length = 64 ∧ ∀ p ∈ j.pages, p.SoundBelow n

theorem Journal.sound_iff : j.Sound ↔ j.StoreBelow j.nextSeq ∧ j.exported < j.nextSeq := by
  constructor
  · rintro ⟨length, mark, pages⟩
    exact ⟨⟨length, pages⟩, mark⟩
  · rintro ⟨⟨length, pages⟩, mark⟩
    exact ⟨length, mark, pages⟩

theorem Journal.StoreBelow.mono {m : Nat} (h : j.StoreBelow n) (hm : n ≤ m) : j.StoreBelow m :=
  ⟨h.1, fun p hp => have ⟨size, room, below⟩ := h.2 p hp
    ⟨size, room, fun r hr => (below r hr).trans_le hm⟩⟩

theorem Journal.StoreBelow.page (h : j.StoreBelow n) (i : Nat) : (j.page i).SoundBelow n := by
  by_cases hi : i < j.pages.length
  · rw [Journal.page, List.getD_eq_getElem _ _ hi]
    exact h.2 _ (List.getElem_mem hi)
  · rw [Journal.page, List.getD_eq_default _ _ (Nat.le_of_not_lt hi)]
    exact Page.soundBelow_empty _

theorem Journal.StoreBelow.setPage {p : Page} {i : Nat} (h : j.StoreBelow n) (hp : p.SoundBelow n) :
    (j.setPage i p).StoreBelow n := by
  refine ⟨(List.length_set ..).trans h.1, fun q hq => ?_⟩
  obtain hq | rfl := List.mem_or_eq_of_mem_set hq
  exacts [h.2 q hq, hp]

theorem recordsOf_append_singleton (us : List Slot) (sl : Slot) :
    recordsOf (us ++ [sl]) = recordsOf us ++ recordsOf [sl] := List.filterMap_append ..

/-- A slot used in the CURRENT page leaves the store sound. -/
theorem Journal.StoreBelow.useSlot {i : Nat} {sl : Slot} (h : j.StoreBelow n) (hi : j.current? = some i)
    (hs : ∀ r ∈ recordsOf [sl], r.seq < n) : (j.useSlot i sl).StoreBelow n := by
  obtain ⟨-, room, below⟩ := h.page i
  have short : (j.page i).used.length < 256 := room (firstAfter_spec j hi).1
  have records : ∀ r ∈ recordsOf ((j.page i).used ++ [sl]), r.seq < n := by
    intro r hr
    rw [recordsOf_append_singleton, List.mem_append] at hr
    exact hr.elim (below r) (hs r)
  have size : ((j.page i).used ++ [sl]).length ≤ 256 := by simpa using short
  unfold Journal.useSlot
  dsimp only
  split
  · rename_i room
    exact h.setPage ⟨size, fun _ => room, records⟩
  · have filled := h.setPage (i := i) (p := { state := .filled, used := (j.page i).used ++ [sl] })
      (.of_not_current (by simp) size records)
    split
    exacts [filled.setPage (Page.soundBelow_empty _), filled]

/-- Using a slot touches the pages and the place of the newest only. -/
theorem useSlot_rest (i : Nat) (sl : Slot) :
    ∃ ps k, j.useSlot i sl = { j with pages := ps, newest := k } := by
  unfold Journal.useSlot
  dsimp only
  split
  · exact ⟨_, j.newest, rfl⟩
  · split
    exacts [⟨_, _, rfl⟩, ⟨_, _, rfl⟩]

/-- Pages made ERASING, with their slots kept, are as sound as before. -/
theorem Journal.StoreBelow.purge {now : YardTime} {is : List Nat} {m k : Nat} (h : j.StoreBelow n) :
    (Journal.purge now is m k j).2.1.StoreBelow n := by
  induction is generalizing m k j with
  | nil => cases m <;> exact h
  | cons i rest ih =>
    cases m with
    | zero => exact h
    | succ m =>
      unfold Journal.purge
      dsimp only
      split
      · exact h
      · obtain ⟨size, -, below⟩ := h.page i
        exact ih (h.setPage (.of_not_current (by simp) size below))

/-- A purge touches the pages only. -/
theorem purge_rest {now : YardTime} {is : List Nat} {m k : Nat} :
    ∃ ps, (Journal.purge now is m k j).2.1 = { j with pages := ps } := by
  induction is generalizing m k j with
  | nil => cases m <;> exact ⟨j.pages, rfl⟩
  | cons i rest ih =>
    cases m with
    | zero => exact ⟨j.pages, rfl⟩
    | succ m =>
      unfold Journal.purge
      dsimp only
      split
      · exact ⟨j.pages, rfl⟩
      · obtain ⟨ps, h⟩ := ih (m := m) (k := k + 1) (j := j.setPage i { j.page i with state := .erasing })
        exact ⟨ps, h⟩

/-! ### Changes of the store alone -/

/-- A journal whose store stays sound, whose sequence does not fall and whose settlements are no more. -/
theorem sound_modJournal {f : Journal → Journal} (sound : s.journal.Sound → (f s.journal).Sound)
    (next : s.journal.nextSeq ≤ (f s.journal).nextSeq)
    (load : ∀ r, (f s.journal).load r ≤ s.journal.load r) : Sound s (s.modJournal f) where
  frozen _ _ _ := rfl
  lock := id
  count h := ⟨le_rfl, h⟩
  zero := id
  journal := sound
  nextSeq := next
  tables := id
  faults := id
  outcomes h := h.of_steps (fun _ => .of_eq rfl rfl) (fun r _ => load r) rfl rfl

theorem Sound.safely (h : Sound s t) (ends : t.ends = s.ends) {r : Result State}
    (k : Guards t r) : Keeps s r := Yields.mono k fun _ hu => h.guarded ends hu

/-- The request in progress goes back among the pending ones (R155). -/
theorem load_returned {a : Append} {x : Request} (ha : j.inProgress = some a)
    (hx : x.requester = a.request.requester) (r : Requester) :
    Journal.load { j with inProgress := none, pending := j.pending ++ [x] } r = j.load r := by
  simp only [Journal.load, List.countP_append, List.countP_singleton, countOf, ha, hx]
  omega

theorem keeps_writeFailure : Keeps s (execWriteFailure s) := by
  unfold execWriteFailure
  split
  · rename_i a i ha hi
    obtain ⟨ps, k, used⟩ := useSlot_rest (j := s.journal) i .void
    have voided : Sound s (s.modJournal fun j =>
        { j.useSlot i .void with
          inProgress := none
          pending := j.pending ++ [{ a.request with attempt := 2 }] }) := by
      refine sound_modJournal (fun h => ?_) ?_ fun r => ?_
      · obtain ⟨store, mark⟩ := Journal.sound_iff.mp h
        refine Journal.sound_iff.mpr ?_
        have kept := store.useSlot hi (sl := .void) (by simp [recordsOf])
        rw [used] at kept ⊢
        exact ⟨kept, mark⟩
      · rw [used]
      · rw [used]
        exact (load_returned (x := { a.request with attempt := 2 }) ha rfl r).le
    dsimp only
    split
    · exact voided.safely rfl (yields_next (Guarded.refl _).levelReports)
    · exact voided.safely rfl (yields_next (Guarded.refl _).journalFault.levelReports)
  · exact keeps_same

/-- The journal after the erase of its head page `i` (R148, R162). -/
def Journal.headErased (i : Nat) (j : Journal) : Journal :=
  let j0 := { j with erase := .none, eraseFailed := false }
  if j.hasCurrent then j0.setPage i { state := .erased, used := [] }
  else { j0.setPage i { state := .current, used := [] } with newest := i }

theorem sound_headErased (i : Nat) : Sound s (s.modJournal (Journal.headErased i)) := by
  have emptied (st : PageState) (h : s.journal.Sound) : (s.journal.setPage i ⟨st, []⟩).Sound := by
    obtain ⟨store, mark⟩ := Journal.sound_iff.mp h
    exact Journal.sound_iff.mpr ⟨store.setPage (Page.soundBelow_empty st), mark⟩
  refine sound_modJournal (fun h => ?_) ?_ fun r => ?_ <;> unfold Journal.headErased <;> dsimp only <;>
    split
  exacts [emptied _ h, emptied _ h, le_rfl, le_rfl, le_rfl, le_rfl]

theorem keeps_eraseComplete : Keeps s (execEraseComplete s) := by
  unfold execEraseComplete
  split
  · exact (sound_headErased _).safely rfl (yields_next (Guarded.refl _).levelReports.offer)
  · exact keeps_same

/-- What a scan that read the store leaves (R164). -/
theorem scanned_spec (j : Journal) : ∃ ps k m p, j.scanned = { j with
      pages := ps, newest := k, cutSlot := false, scanDone := true, fault := false, lastGranted := .link
      nextSeq := m, readPointer := p }
    ∧ j.nextSeq ≤ m ∧ (j.StoreBelow j.nextSeq → j.scanned.StoreBelow m) := by
  have fixed (j1 : Journal) (next : Nat) (hj : next ≤ j1.nextSeq) (h : j1.StoreBelow next) :
      j1.StoreBelow (if j1.nextSeq ≤
        (j1.pages.flatMap fun p => recordsOf p.used).foldl (fun m r => max m r.seq) 0
        then (j1.pages.flatMap fun p => recordsOf p.used).foldl (fun m r => max m r.seq) 0 + 1
        else j1.nextSeq) := h.mono (by split <;> omega)
  unfold Journal.scanned
  dsimp only
  split
  · rename_i i cut hi
    obtain ⟨ps, k, used⟩ := useSlot_rest (j := j) i .void
    refine ⟨_, _, _, _, by rw [used], by dsimp only; split <;> omega, fun h => ?_⟩
    have kept := h.useSlot hi (sl := .void) (by simp [recordsOf])
    rw [used] at kept ⊢
    exact fixed { j with pages := ps, newest := k } j.nextSeq le_rfl kept
  · exact ⟨_, _, _, _, rfl, by split <;> omega, fixed j j.nextSeq le_rfl⟩

theorem keeps_journalScanComplete {ok : Bool} : Keeps s (execJournalScanComplete ok s) := by
  have scanned : Sound s (s.modJournal Journal.scanned) := by
    obtain ⟨ps, k, m, p, eq, next, store⟩ := scanned_spec s.journal
    refine sound_modJournal (fun h => ?_) (by rw [eq]; exact next) fun r => by rw [eq]; exact le_rfl
    obtain ⟨below, mark⟩ := Journal.sound_iff.mp h
    replace store := store below
    rw [eq] at store ⊢
    exact Journal.sound_iff.mpr ⟨store, mark.trans_le next⟩
  unfold execJournalScanComplete
  split
  · exact keeps_same
  · split
    · refine scanned.safely rfl (yields_next ?_)
      have again : Guarded (s.modJournal Journal.scanned)
        (requestCalibAgain (s.modJournal Journal.scanned)) := (Guarded.refl _).requestCalibAgain
      split <;> split
      exacts [again.offer.offer, again.offer, again.offer, again]
    · exact keeps_of_guards (yields_next
        (Guarded.requestCalibAgain (Guarded.journalFault (Guarded.refl s).modJournal)))

theorem numIn_bounds {lo hi : Nat} {p : Option Int} {v : Nat} (h : numIn lo hi p = some v) :
    lo ≤ v ∧ v ≤ hi := by
  cases p with
  | none => cases h
  | some x =>
    simp only [numIn, Option.bind_some, inRange, Option.ite_none_right_eq_some] at h
    obtain ⟨⟨low, high⟩, eq⟩ := h
    cases eq
    omega

theorem keeps_journalExported {q : Option Int} : Keeps s (execJournalExported q s) := by
  unfold execJournalExported
  split
  · exact keeps_refuse
  · rename_i v hv
    refine keeps_answer ((sound_modJournal (fun h => ?_) le_rfl fun _ => le_rfl).safe rfl)
    obtain ⟨below, mark⟩ := Journal.sound_iff.mp h
    refine Journal.sound_iff.mpr ⟨below, ?_⟩
    have high : v ≤ s.journal.nextSeq - 1 := (numIn_bounds hv).2
    change v < s.journal.nextSeq
    omega

theorem keeps_journalPurge {k : Option Int} : Keeps s (execJournalPurge k s) := by
  unfold execJournalPurge
  split
  · exact keeps_refuse
  · split
    · exact keeps_refuse
    · split
      · exact keeps_refuse
      · split
        · exact keeps_refuse
        · rename_i m _ _ _
          have purged : Sound s (s.modJournal fun _ =>
              (Journal.purge s.clock.now s.journal.filledPages m 0 s.journal).2.1) := by
            obtain ⟨ps, eq⟩ := purge_rest (now := s.clock.now) (is := s.journal.filledPages) (m := m)
              (k := 0) (j := s.journal)
            refine sound_modJournal (fun h => ?_) (by rw [eq]) fun r => by rw [eq]; exact le_rfl
            obtain ⟨below, mark⟩ := Journal.sound_iff.mp h
            have store := below.purge (now := s.clock.now) (is := s.journal.filledPages) (m := m) (k := 0)
            rw [eq] at store ⊢
            exact Journal.sound_iff.mpr ⟨store, mark⟩
          dsimp only
          refine purged.safely rfl (guards_answer ?_)
          split
          exacts [(Guarded.refl _).offer, .refl _, .refl _]

end Sys2Proof.Machine
end

section
/-! PROOFS. The completion of an append (R154): the store takes the record, and the requester's owner
does its part. A settlement gives up the place it held as its record joins the outcome queue (R116). -/

namespace Sys2Proof.Machine

-- One declaration after another: at once they ask for more threads than the check's limits allow.
set_option Elab.async false

variable {s t u : State} {d : Deck} {e : EndId}

/-! ### The record is written (R148, R149) -/

theorem load_written {j : Journal} {a : Append} {i : Nat} {r : Record} (ha : j.inProgress = some a)
    (q : Requester) : (j.write i r).load q + countOf (a.request.requester == q) = j.load q := by
  obtain ⟨ps, k, used⟩ := useSlot_rest (j := j) i (.written r)
  unfold Journal.write
  rw [used]
  simp only [Journal.load, ha]
  rfl

theorem sound_write {a : Append} {i : Nat} (ha : s.journal.inProgress = some a)
    (hi : s.journal.current? = some i) {r : Record} (hr : r.seq = s.journal.nextSeq) :
    Sound s (s.modJournal fun j => j.write i r) := by
  obtain ⟨ps, k, used⟩ := useSlot_rest (j := s.journal) i (.written r)
  refine sound_modJournal (fun h => ?_) ?_ fun q => ?_
  · obtain ⟨store, mark⟩ := Journal.sound_iff.mp h
    have kept := (store.mono (Nat.le_succ _)).useSlot hi (sl := .written r)
      (by simp [recordsOf, hr])
    unfold Journal.write
    rw [used] at kept ⊢
    exact Journal.sound_iff.mpr ⟨kept, mark.trans (Nat.lt_succ_self _)⟩
  · exact Nat.le_succ _
  · have written := load_written (i := i) (r := r) ha q
    omega

/-! ### Captures (R34, R37) -/

theorem stageReport_deck (d x : Deck) (q : Nat) (v : Int) (k n : Nat) (s : State) :
    (stageReport d q v k n s).deck x = s.deck x := by
  unfold stageReport
  exact offer_deck ..

theorem Guarded.stageDone (h : Guarded s t) {q k n : Nat} {v : Int} :
    Guarded s (stageDone d q v k n t) := by
  have reported : Guarded s (stageReport d q v k n t) := h.offer
  unfold Machine.stageDone
  dsimp only
  split
  · exact reported.modCapture
  · split
    · rename_i writing
      refine Guarded.modCapture_awake reported.modCapture ?_
      rw [State.modCapture_deck, stageReport_deck]
      simp [writing]
    · exact reported.modCapture.journalRequest
    · exact reported

/-- A committed weighing is handed over with the capture logic at rest, so that SETTLING may begin. -/
theorem Guarded.handOver (h : Guarded s t) {w : Committed} (rest : (t.deck d).capture.state = .idle) :
    Guarded s (handOver d w t) := by
  have weighed : Guarded s (t.modSeq d fun q => { q with weighing := some w }) := h.modSeq
  unfold Machine.handOver
  dsimp only
  split
  · rename_i committing
    have moved : ((t.modSeq d fun q => { q with weighing := some w }).deck d).seq.state ≠ .settling := by
      simp [committing]
    have left (f : Visit → Visit) (k : Nat) : Guarded s (Machine.enterDeparting d
        ((t.modSeq d fun q => { q with weighing := some w }).modVisit k f)) :=
      weighed.modVisit.enterDeparting moved
    have settling : Guarded s ((t.modSeq d fun q => { q with weighing := some w }).modSeq d
        fun q => { q with state := .settling }) := by
      refine weighed.modDeck rfl rfl id fun ⟨reserved, orphan, _⟩ => ⟨⟨fun _ => rfl, orphan, fun _ => ?_⟩, rfl⟩
      rw [State.modSeq_deck]
      exact rest
    split
    · exact left ..
    · split
      · split
        exacts [settling, left ..]
      · exact left ..
    · exact settling
    · exact h
    · exact h
  · exact h

theorem Guarded.weighDone (h : Guarded s t) {q c n : Nat} {v : Int} {r : Role} {st : Bool} :
    Guarded s (weighDone d q c v r n st t) := by
  have reported : Guarded s (Machine.offer .captured (.deck d) [roleWord r, num v, nat q, nat n, yn st] t) :=
    h.offer
  unfold Machine.weighDone
  dsimp only
  split
  · exact reported.modCapture
  · split
    · refine Guarded.handOver (reported.modCapture_free fun _ => rfl) ?_
      rw [State.modCapture_deck]
      rfl
    · exact reported

/-! ### Settlements (R116, R133) -/

theorem storeTare_deck (g : Tag) (kg : Nat) (src : TareSource) (n : Nat) (s : State) (x : Deck) :
    (storeTare g kg src n s).2.2.deck x = s.deck x := by
  unfold storeTare
  dsimp only
  split
  exacts [rfl, offer_deck ..]

theorem debitAccount_deck (c : Settlement) (s : State) (x : Deck) :
    (debitAccount c s).deck x = s.deck x := by
  unfold debitAccount
  split
  · rfl
  · dsimp only
    split
    exacts [offer_deck .., rfl]

theorem updateTare_deck (c : Settlement) (s : State) (x : Deck) :
    (updateTare c s).deck x = s.deck x := by
  unfold updateTare
  split
  exacts [rfl, storeTare_deck ..]

theorem settleVisit_deck (c : Settlement) (s : State) (x : Deck) :
    (settleVisit c s).deck x = s.deck x := by
  unfold settleVisit
  split <;> rfl

theorem settlementJob_seq (d x : Deck) (j : Job) (s : State) :
    ((settlementJob d j s).2.deck x).seq = (s.deck x).seq := by
  unfold settlementJob
  split
  · unfold joinQueue
    by_cases hx : x = d
    · subst hx
      rw [State.modPrinter_deck]
    · rw [State.modPrinter_deck_of_ne _ _ hx]
  · rw [offer_deck]

theorem Guarded.debitAccount (h : Guarded s t) {c : Settlement} : Guarded s (debitAccount c t) := by
  unfold Machine.debitAccount
  split
  · exact h
  · dsimp only
    split
    exacts [h.modAccount.offer, h.modAccount]

theorem Guarded.updateTare (h : Guarded s t) {c : Settlement} : Guarded s (updateTare c t) := by
  unfold Machine.updateTare
  split
  exacts [h, h.storeTare]

theorem Guarded.settleVisit (h : Guarded s t) {c : Settlement} : Guarded s (settleVisit c t) := by
  unfold Machine.settleVisit
  split
  exacts [h.modVisit, h.removeVisit, h.removeVisit]

/-- Without a reservation the sequencer may leave SETTLING for TICKETING. -/
theorem Guarded.enterTicketing (h : Guarded s t) (free : (t.deck d).seq.reservation = false) :
    Guarded s (enterTicketing d t) := by
  refine Guarded.testRelease (h.modDeck rfl rfl id ?_)
  rintro ⟨-, orphan, -⟩
  exact ⟨⟨fun hres => by simp [free] at hres, orphan, fun hst => by cases hst⟩, rfl⟩

/-- The place that a settlement of a deck gives up (R116, R123). -/
def Sequencer.givePlace (q : Sequencer) : Sequencer :=
  if q.orphanSettle then { q with orphanSettle := false } else { q with reservation := false }

theorem givePlace_places {q : Sequencer} (h : q.orphanSettle = true → q.reservation = false) :
    q.givePlace.places = 0 := by
  unfold Sequencer.givePlace
  split
  · rename_i orphan
    simp [Sequencer.places, h orphan, countOf]
  · rename_i none
    simp [Sequencer.places, Bool.eq_false_of_not_eq_true none, countOf]

theorem places_le_one {q : Sequencer} (h : q.orphanSettle = true → q.reservation = false) :
    q.places ≤ 1 := by
  unfold Sequencer.places countOf
  split <;> split <;> simp_all

theorem givePlace_sound {u : DeckUnit} (h : u.SettleSound) :
    DeckUnit.SettleSound { u with seq := u.seq.givePlace } := by
  obtain ⟨reserved, orphan, rest⟩ := h
  unfold Sequencer.givePlace
  split
  · exact ⟨reserved, fun ho => by simp at ho, rest⟩
  · exact ⟨fun hr => by simp at hr, fun _ => rfl, rest⟩

/-- A sound operation followed by one that leaves all but the sequencers, the tables and the places of
the outcome queue as they are. -/
theorem Sound.places (h : Sound s t) (metro : u.metro = t.metro)
    (params : ∀ d, (u.deck d).params = (t.deck d).params)
    (zero : ∀ d, (u.deck d).wcu.zero = (t.deck d).wcu.zero) (journal : u.journal = t.journal)
    (faults : u.faults = t.faults) (tables : TablesKept t → TablesKept u)
    (outcomes : OutcomesKept s → OutcomesKept t → OutcomesKept u) : Sound s u where
  frozen hl hs d := (params d).trans (h.frozen hl hs d)
  lock hl := by rw [metro]; exact h.lock hl
  count hc := by rw [metro]; exact h.count hc
  zero hz := zeroKept_of_same (h.zero hz) params zero
  journal hj := by rw [journalKept_iff, journal]; exact h.journal hj
  nextSeq := by rw [journal]; exact h.nextSeq
  tables := tables ∘ h.tables
  faults hf f := by rw [faults]; exact h.faults hf f
  outcomes hk := outcomes hk (h.outcomes hk)

/-- R116: the deck's place becomes the record's. -/
theorem Sound.settlePlace (h : Sound s t) {r : Record}
    (owed : OutcomesKept s → t.journal.load (.settle d) + 1 ≤ (t.deck d).seq.places) :
    Sound s (placeOutcome r (t.modSeq d Sequencer.givePlace)) := by
  have moved {Q : DeckUnit → DeckUnit → Prop} (hd : ∀ u : DeckUnit, Q u { u with seq := u.seq.givePlace })
      (hr : ∀ u, Q u u) (x : Deck) : Q (t.deck x) ((t.modSeq d Sequencer.givePlace).deck x) :=
    modDeck_each (f := fun u => { u with seq := u.seq.givePlace }) (hd _) hr x
  refine h.places rfl (moved (Q := fun u v => v.params = u.params) (fun _ => rfl) fun _ => rfl)
    (moved (Q := fun u v => v.wcu.zero = u.wcu.zero) (fun _ => rfl) fun _ => rfl) rfl rfl
    (tablesKept_modDeck (f := fun u => { u with seq := u.seq.givePlace }) id) fun hs ht => ?_
  obtain ⟨decks, link, room⟩ := ht
  have orphan := (decks d).2.2.1
  have places := givePlace_places orphan
  have single := places_le_one orphan
  have held := owed hs
  have total := modSeq_reservations d Sequencer.givePlace t
  refine ⟨fun x => ⟨?_, moved (Q := fun u v => u.SettleSound → v.SettleSound)
    (fun _ => givePlace_sound) (fun _ => id) x (decks x).2⟩, link, ?_⟩
  · change t.journal.load (.settle x) ≤ ((t.modSeq d Sequencer.givePlace).deck x).seq.places
    by_cases hx : x = d
    · subst hx
      rw [State.modSeq_deck]
      omega
    · rw [State.modSeq_deck_of_ne _ _ hx]
      exact (decks x).1
  · change (t.outcomes.queue ++ [r]).length + (t.modSeq d Sequencer.givePlace).reservations ≤ 64
    rw [List.length_append, List.length_singleton]
    omega

/-- R133: the link's place becomes the record's. -/
theorem Sound.closingPlace (h : Sound s t) {r : Record}
    (owed : OutcomesKept s → t.journal.load .link + 1 ≤ countOf t.link.closing.isSome) :
    Sound s (placeOutcome r (t.modLink fun l => { l with closing := none })) := by
  refine h.places rfl (fun _ => rfl) (fun _ => rfl) rfl rfl id fun hs ht => ?_
  obtain ⟨decks, -, room⟩ := ht
  have held := owed hs
  have single : countOf t.link.closing.isSome ≤ 1 := by unfold countOf; split <;> omega
  have total : t.reservations
      = t.decks.a.seq.places + t.decks.b.seq.places + countOf t.link.closing.isSome := rfl
  refine ⟨decks, ?_, ?_⟩
  · change t.journal.load .link ≤ 0
    omega
  · change (t.outcomes.queue ++ [r]).length
      + (t.decks.a.seq.places + t.decks.b.seq.places + 0) ≤ 64
    rw [List.length_append, List.length_singleton]
    omega

theorem Sound.settleDone (h : Sound s t) (ends : t.ends = s.ends) {r : Record} {c : Settlement}
    (owed : OutcomesKept s → t.journal.load (.settle d) + 1 ≤ (t.deck d).seq.places) :
    Safe s (settleDone d r c t) := by
  have given : (t.modSeq d fun q => if (t.deck d).seq.orphanSettle then { q with orphanSettle := false }
      else { q with reservation := false }) = t.modSeq d Sequencer.givePlace := by
    cases d <;> rfl
  have placed := h.settlePlace (r := r) owed
  unfold Machine.settleDone
  dsimp only
  rw [given]
  generalize hu : placeOutcome r (t.modSeq d Sequencer.givePlace) = u at placed ⊢
  refine placed.guarded (by rw [← hu]; exact ends) ?_
  have settled : Guarded u (Machine.offer .settled (.deck d) (settledParams r.seq c)
      (settleVisit c (updateTare c (debitAccount c u)))) :=
    (Guarded.refl u).debitAccount.updateTare.settleVisit.offer
  split
  · exact settled.settlementJob
  · rename_i none
    refine settled.settlementJob.modSeq.enterTicketing ?_
    rw [State.modSeq_deck]
    dsimp only
    rw [settlementJob_seq, offer_deck, settleVisit_deck, updateTare_deck, debitAccount_deck, ← hu]
    change ((t.modSeq d Sequencer.givePlace).deck d).seq.reservation = false
    rw [State.modSeq_deck]
    simp only [Sequencer.givePlace, if_neg none]

theorem Sound.abandonedDone (h : Sound s t) (ends : t.ends = s.ends) {r : Record} {c : Settlement}
    (owed : OutcomesKept s → t.journal.load .link + 1 ≤ countOf t.link.closing.isSome) :
    Safe s (abandonedDone r c t) :=
  (h.closingPlace owed).guarded ends (Guarded.refl _).settleVisit.offer

/-! ### The completion -/

theorem Sound.modMetro (h : Sound s t) {f : Metro → Metro} (lock : (f t.metro).lock = t.metro.lock)
    (count : (f t.metro).count = t.metro.count) : Sound s (t.modMetro f) where
  frozen := h.frozen
  lock hl := lock.trans (h.lock hl)
  count hc := by rw [State.modMetro_metro, count]; exact h.count hc
  zero := h.zero
  journal := h.journal
  nextSeq := h.nextSeq
  tables := h.tables
  faults := h.faults
  outcomes := h.outcomes

theorem Sound.calibWritten (h : Sound s t) (ends : t.ends = s.ends) : Safe s (calibWritten t) := by
  have moved := h.modMetro (f := fun m => { m with inProgress := m.waiting, waiting := none }) rfl rfl
  unfold Machine.calibWritten
  dsimp only
  split
  · exact moved.guarded ends (Guarded.refl _).journalRequest
  · exact moved.safe ends

/-- What the requester's owner does is safe, its request no longer counted. -/
theorem Sound.ownerDone (h : Sound s t) (ends : t.ends = s.ends) {rq : Requester} {r : Record}
    (owed : OutcomesKept s → rq = .link ∨ (∃ d, rq = .settle d) →
      t.journal.load rq + 1 ≤ t.placesOf rq) : Safe s (ownerDone rq r t) := by
  unfold Machine.ownerDone
  split
  · exact h.guarded ends (Guarded.refl t).stageDone
  · exact h.guarded ends (Guarded.refl t).weighDone
  · exact h.settleDone ends fun hs => owed hs (.inr ⟨_, rfl⟩)
  · exact h.abandonedDone ends fun hs => owed hs (.inl rfl)
  · exact h.calibWritten ends
  · exact h.guarded ends (Guarded.refl t).changeClock.overstayTest
  · exact h.safe ends

theorem keeps_appendComplete : Keeps s (execAppendComplete s) := by
  unfold execAppendComplete
  split
  · rename_i a i ha hi
    dsimp only
    generalize hr : (⟨s.journal.nextSeq, a.stamp, a.request.body⟩ : Record) = r
    have written : Sound s (s.modJournal fun j => j.write i r) := sound_write ha hi (by rw [← hr])
    obtain ⟨q, frame⟩ := levelReports_frame s.journal (s.modJournal fun j => j.write i r)
    have reported := written.calm (Guarded.refl _).levelReports.toCalm (u := levelReports s.journal _)
    refine yields_next (reported.ownerDone (by rw [frame]; rfl) fun hs hrq => ?_)
    have served := load_written (i := i) (r := r) ha a.request.requester
    have room := load_le_placesOf hs hrq
    have same : (levelReports s.journal (s.modJournal fun j => j.write i r)).placesOf a.request.requester
        = s.placesOf a.request.requester := by rw [frame]; rfl
    rw [same, frame]
    change (s.journal.write i r).load a.request.requester + 1 ≤ _
    simp only [beq_self_eq_true, countOf, if_true] at served
    omega
  · exact keeps_same

end Sys2Proof.Machine
end

section
/-! PROOFS. The three resets (section 10.7), the lines of the link, and what every command keeps. -/

namespace Sys2Proof.Machine

-- One declaration after another: at once they ask for more threads than the check's limits allow.
set_option Elab.async false

variable {s t u : State} {d : Deck} {e : EndId}

/-! ### DECK x RESET (R123, R201, R211) -/

/-- A sequencer at rest again keeps its place where it had one only for an orphaned settlement. -/
theorem SettleStep.toIdle {u : DeckUnit} (h : u.SettleSound → u.seq.reservation = false) :
    SettleStep u { u with seq := u.seq.toIdle } := by
  intro sound
  refine ⟨⟨fun hr => (by cases hr), fun _ => rfl, fun hs => (by cases hs)⟩, ?_⟩
  rw [Sequencer.places, Sequencer.places, h sound]
  rfl

theorem Guarded.toIdle (h : Guarded s t)
    (free : (t.deck d).SettleSound → (t.deck d).seq.reservation = false) :
    Guarded s (t.modSeq d Sequencer.toIdle) := h.modDeck rfl rfl id (.toIdle free)

theorem no_reservation_outside_settling {u : DeckUnit} (h : u.seq.state ≠ .settling) (sound : u.SettleSound) :
    u.seq.reservation = false := by
  by_contra reserved
  exact h (sound.1 (by simpa using reserved))

/-- A SETTLE already requested keeps its place as an orphaned one (R123). -/
theorem Guarded.orphanPlace (h : Guarded s t) (reserved : (t.deck d).seq.reservation = true) :
    Guarded s (t.modSeq d fun q => { q.toIdle with orphanSettle := true }) := by
  refine h.modDeck rfl rfl id fun ⟨_, orphan, _⟩ =>
    ⟨⟨fun hr => (by cases hr), fun _ => rfl, fun hs => (by cases hs)⟩, ?_⟩
  have unorphaned : (t.deck d).seq.orphanSettle = false := by
    by_contra ho
    simp [orphan (by simpa using ho)] at reserved
  simp [Sequencer.places, reserved, unorphaned, countOf, Sequencer.toIdle, Sequencer.cleared]

theorem guarded_resetTransaction : Guarded s (resetTransaction d s) := by
  have released : Guarded s (releaseHolder d (s.deck d).seq.visit s) := (Guarded.refl s).releaseHolder
  have turned : Guarded s (releaseHolder d (s.deck d).seq.visit (turnBackVisit (s.deck d).seq s)) :=
    (Guarded.refl s).turnBackVisit.releaseHolder
  have kept : (releaseHolder d (s.deck d).seq.visit (turnBackVisit (s.deck d).seq s)).deck d = s.deck d :=
    turnBackVisit_deck ..
  unfold resetTransaction
  dsimp only
  split
  · rename_i idle
    exact (Guarded.refl s).toIdle (no_reservation_outside_settling (by simp [idle]))
  · split
    · rename_i reserved
      exact (Guarded.refl s).orphanPlace reserved
    · rename_i unreserved
      exact turned.toIdle (by rw [kept]; exact fun _ => by simpa using unreserved)
  all_goals
    rename_i state
    first
    | exact turned.toIdle (no_reservation_outside_settling (by rw [kept]; simp [state]))
    | exact released.toIdle (no_reservation_outside_settling (by
        change (s.deck d).seq.state ≠ _
        simp [state]))

theorem Guarded.resetUnit (h : Guarded s t) : Guarded s (t.modDeck d DeckUnit.reset) :=
  h.modDeck rfl rfl id fun ⟨reserved, orphan, _⟩ => ⟨⟨reserved, orphan, fun _ => rfl⟩, rfl⟩

theorem Guarded.emptyDeckFaults (h : Guarded s t) : Guarded s (emptyDeckFaults d t) :=
  h.foldl (fun _ _ k => k.setFault fun _ => .clear) _

theorem resetTransaction_driver (x : EndId) : (resetTransaction d s).driver x = s.driver x := by
  have turned : ∀ q, (turnBackVisit q s).ends = s.ends := by
    intro q
    unfold turnBackVisit
    split <;> rfl
  have same : (resetTransaction d s).ends = s.ends := by
    unfold resetTransaction
    dsimp only
    split
    · rfl
    · split
      exacts [rfl, turned _]
    all_goals first | exact turned _ | rfl
  rw [State.driver, same]
  rfl

theorem setFaults_driver (fs : List FaultSource) (x : EndId) (s : State) :
    (fs.foldl (fun s f => s.setFault f .clear) s).driver x = s.driver x := by
  induction fs generalizing s with
  | nil => rfl
  | cons f fs ih => rw [List.foldl_cons, ih]; rfl

/-- A driver reset on its way from the state the command found keeps R72: one that was DOWN stays DOWN. -/
theorem Guarded.resetDriver (h : Guarded s t) (same : t.driver e = s.driver e) :
    Guarded s (resetDriver e t) := by
  refine h.driver (calm_resetDriver e t) (h.raised.driver (resetDriver_driverOnly e t) (fun hd hu => ?_)
    fun _ _ hd => resetDriver_down hd)
  rw [resetDriver_down (by rw [same]; exact hd)] at hu
  cases hu

theorem Guarded.loopSignal (h : Guarded s t) : Guarded s (loopSignal t e) := by
  unfold Machine.loopSignal
  split
  exacts [h.condArises, h]

theorem guarded_deckResetState : Guarded s (deckResetState d s) := by
  unfold deckResetState
  dsimp only
  generalize hu : offer .deckReset (.deck d) []
    (emptyDeckFaults d ((resetTransaction d s).modDeck d DeckUnit.reset)) = u
  have emptied : Guarded s u := by
    rw [← hu]
    exact guarded_resetTransaction.resetUnit.emptyDeckFaults.offer
  have driver (x : EndId) : u.driver x = s.driver x := by
    rw [← hu, offer_driver, emptyDeckFaults, setFaults_driver]
    exact resetTransaction_driver x
  have first : Guarded s (Machine.resetDriver (d.endAt .one) u) := emptied.resetDriver (driver _)
  have second := first.resetDriver (e := d.endAt .two) (by
    rw [(resetDriver_driverOnly _ _).driver_of_ne (by cases d <;> decide)]
    exact driver _)
  exact second.loopSignal.loopSignal.resetPrinter.resetEnd.resetEnd.completeClose.wakeTest.wakeTest

theorem guards_deckReset : Guards s (execDeckReset d s) := guards_answer guarded_deckResetState

/-! ### Power-on and RESET ALL (R200) -/

/-- A deck's unit after power-on rests, and holds no place. -/
theorem restarted_settleSound (u : DeckUnit) (l : DeckReadings) : (u.restarted l).SettleSound :=
  ⟨fun hr => (by cases hr), fun ho => (by cases ho), fun hs => (by cases hs)⟩

theorem restartBlocks_deck (r : Readings) (s : State) (d : Deck) :
    (restartBlocks r s).deck d = (s.deck d).restarted (r.decks.get d) := by
  cases d <;> simp [restartBlocks, State.deck, PerDeck.get]

theorem faultTable_empty_get (f : FaultSource) : FaultTable.empty.get f = .clear := by
  cases f with
  | cell d c => cases d <;> cases c <;> rfl
  | bar e => cases e <;> rfl
  | loop e => cases e <;> rfl
  | rdr e => cases e <;> rfl
  | prn d => cases d <;> rfl
  | journal => rfl
  | clock => rfl

/-- Power-on keeps what is battery-backed, and drops every place of the outcome queue. -/
theorem sound_restartBlocks (r : Readings) (s : State) : Sound s (restartBlocks r s) where
  frozen _ _ d := by rw [restartBlocks_deck]; rfl
  lock h := by simpa [restartBlocks] using h
  count h := by simpa [restartBlocks] using h
  zero h d := by rw [restartBlocks_deck]; exact h d
  journal h := by
    refine Journal.Sound.congr h ?_ ?_ ?_ <;> simp [restartBlocks, Journal.discard]
  nextSeq := by simp [restartBlocks, Journal.discard]
  tables h := by
    obtain ⟨visits, tares, accounts, tags, classes, layouts, -, -, rest⟩ := h
    have opened : TablesKept
        { s with faults := .empty, reports := { s.reports with queue := [], lost := 0 } } :=
      ⟨visits, tares, accounts, tags, classes, layouts, Nat.zero_le _, Nat.zero_le _, rest⟩
    obtain ⟨visits, tares, accounts, tags, classes, layouts, queue, lost, -⟩ :=
      tablesKept_offer .powerUp .none [] opened
    refine ⟨?_, tares, ?_, tags, classes, layouts, queue, lost, Nat.zero_le _, Nat.zero_le _,
      Nat.zero_le _⟩
    · refine (List.length_map ..).trans_le ((List.length_filter_le ..).trans visits)
    · exact (List.length_map ..).trans_le accounts
  faults _ f := by
    have cleared : (restartBlocks r s).faults = .empty := by simp [restartBlocks]
    rw [cleared, faultTable_empty_get]
    exact FaultEntry.Shaped.clear
  outcomes h := by
    obtain ⟨-, -, room⟩ := h
    have queue : (restartBlocks r s).outcomes = s.outcomes := by simp [restartBlocks]
    have load (q : Requester) : (restartBlocks r s).journal.load q = 0 := rfl
    refine ⟨fun d => ⟨?_, ?_⟩, ?_, ?_⟩
    · rw [load]
      exact Nat.zero_le _
    · rw [restartBlocks_deck]
      exact restarted_settleSound _ _
    · rw [load]
      exact Nat.zero_le _
    · rw [queue]
      change s.outcomes.queue.length + 0 ≤ 64
      omega

theorem calm_foldl {α : Type} {f : State → α → State} (hf : ∀ u a, Calm u (f u a)) (as : List α)
    (s : State) : Calm s (as.foldl f s) := by
  induction as generalizing s with
  | nil => exact .refl s
  | cons a as ih => exact (hf s a).trans (ih _)

theorem Guarded.paperSignal (h : Guarded s t) : Guarded s (paperSignal t d) := by
  unfold Machine.paperSignal
  split
  exacts [h.printerFaultEntry, h]

theorem Guarded.signalPresent (h : Guarded s t) : Guarded s (signalPresent t) := by
  have signalled := (h.foldl (f := Machine.loopSignal) (fun _ _ k => k.loopSignal) EndId.all).foldl
    (f := Machine.paperSignal) (fun _ _ k => k.paperSignal) Deck.all
  unfold Machine.signalPresent
  dsimp only
  split
  exacts [signalled.condArises, signalled]

theorem Guarded.autostart (h : Guarded s t) : Guarded s (autostart t) := by
  unfold Machine.autostart
  split
  exacts [h.setRun.wakeAll, h]

/-- R199: RESET ALL keeps all but where the barriers stand. -/
theorem sound_resetAll (r : Readings) (s : State) : Sound s (resetAll r s) := by
  have drivers := calm_foldl (fun u e => calm_startDriver e u) EndId.all (restartBlocks r s)
  refine ((sound_restartBlocks r s).calm drivers).calm (Guarded.toCalm ?_)
  exact ((Guarded.refl _).signalPresent.foldl (f := fun s d => completeClose d s)
    (fun _ _ k => k.completeClose) Deck.all).autostart

theorem yields_powerOn (p : PowerUp) : Yields (Sound s) (execPowerOn p s) := by
  have powered : Calm s { s with clock := s.clock.powered p.clock p.batteryLow } :=
    calm_of_eq rfl rfl rfl rfl rfl rfl id
  exact yields_next (powered.sound_trans (sound_resetAll p.lines _))

end Sys2Proof.Machine
end

section
/-! PROOFS. What every command keeps, and so every step: the statements of the whole machine that are
invariants of a run. -/

namespace Sys2Proof.Machine

-- One declaration after another: at once they ask for more threads than the check's limits allow.
set_option Elab.async false

variable {s t : State} {d : Deck} {e : EndId}

/-! ### The commands that write one setting -/

theorem guards_deckTrack {on : Option Bool} : Guards s (execDeckTrack d on s) :=
  guards_laneWrite (guards_writeWord fun _ => (Guarded.refl s).modWcu)

theorem guards_deckStaged {yes : Option Bool} : Guards s (execDeckStaged d yes s) :=
  guards_laneWrite (guards_writeWord fun _ => (Guarded.refl s).modCapture)

theorem guards_deckPolarity {p : Option (DeckLine × Polarity)} :
    Guards s (execDeckPolarity d p s) :=
  guards_laneWrite (guards_writeWord fun _ => (Guarded.refl s).modDeck)

theorem guards_deckInbound {dir : Option Direction} : Guards s (execDeckInbound d dir s) :=
  guards_laneWrite (guards_writeWord fun _ => (Guarded.refl s).modSettings)

theorem guards_partPolarity {p : Option (PartLine × Polarity)} : Guards s (execPartPolarity p s) :=
  guards_laneWrite (guards_writeWord fun _ => guarded_tables id)

theorem guards_partAutostart {yes : Option Bool} : Guards s (execPartAutostart yes s) :=
  guards_laneWrite (guards_writeWord fun _ => guarded_tables id)

theorem guards_journalPrefer {p : Option Prefer} : Guards s (execJournalPrefer p s) :=
  guards_laneWrite (guards_writeWord fun _ => (Guarded.refl s).modJournal)

theorem guards_barrierPulse {ms : Option SetArg} : Guards s (execBarrierPulse e ms s) :=
  guards_laneWrite (guards_writeSetting fun _ => (Guarded.refl s).modDriver)

theorem guards_barrierTravel {sec : Option SetArg} : Guards s (execBarrierTravel e sec s) :=
  guards_writeSetting fun _ => (Guarded.refl s).modDriver

theorem guards_endIdtime {sec : Option SetArg} : Guards s (execEndIdtime e sec s) :=
  guards_writeSetting fun _ => (Guarded.refl s).modMachine

theorem guards_endDecide {sec : Option SetArg} : Guards s (execEndDecide e sec s) :=
  guards_writeSetting fun _ => (Guarded.refl s).modMachine

theorem guards_endCleartime {sec : Option SetArg} : Guards s (execEndCleartime e sec s) :=
  guards_writeSetting fun _ => (Guarded.refl s).modMachine

theorem guards_deckStreak {n : Option SetArg} : Guards s (execDeckStreak d n s) :=
  guards_writeSetting fun _ => (Guarded.refl s).modSettings

theorem guards_deckTailgate {sec : Option SetArg} : Guards s (execDeckTailgate d sec s) :=
  guards_writeSetting fun _ => (Guarded.refl s).modSettings

theorem guards_deckTimeout {sec : Option SetArg} : Guards s (execDeckTimeout d sec s) :=
  guards_writeSetting fun _ => (Guarded.refl s).modSettings

theorem guards_deckTaketime {sec : Option SetArg} : Guards s (execDeckTaketime d sec s) :=
  guards_writeSetting fun _ => (Guarded.refl s).modSettings

theorem guards_ticketUncollected {sec : Option SetArg} : Guards s (execTicketUncollected d sec s) :=
  guards_writeSetting fun _ => (Guarded.refl s).modPrinter

theorem guards_journalRetain {days : Option SetArg} : Guards s (execJournalRetain days s) :=
  guards_writeSetting fun _ => (Guarded.refl s).modJournal

theorem guards_deckExit {r : Option Release} : Guards s (execDeckExit d r s) :=
  guards_writeWord fun _ => (Guarded.refl s).modSettings

theorem guards_linkParity {p : Option Parity} : Guards s (execLinkParity p s) :=
  guards_writeWord fun _ => (Guarded.refl s).modLink

theorem guards_partReset : Guards s (execPartReset s) := guards_answer (Guarded.refl s).modLink

theorem guards_accountLimit {n : Int} {amount : Option Int} :
    Guards s (execAccountLimit n amount s) :=
  guards_accountWrite fun _ _ => guards_answer (Guarded.refl s).modAccount

theorem guards_accountClasses {n : Int} {cs : Option (List Int)} :
    Guards s (execAccountClasses n cs s) :=
  guards_accountWrite fun _ _ => guards_answer (Guarded.refl s).modAccount

theorem guards_className {c : Int} {t : Text} : Guards s (execClassName c t s) := guards_classWrite

theorem guards_classRates {c : Int} {p : Option (Int × Int)} : Guards s (execClassRates c p s) := by
  unfold execClassRates
  exact guards_classWrite

theorem guards_classMinimum {c : Int} {amount : Option Int} :
    Guards s (execClassMinimum c amount s) := guards_classWrite

theorem guards_classLayout {c : Int} {n : Option Int} : Guards s (execClassLayout c n s) :=
  guards_classWrite

theorem guards_classStages {c : Int} {n : Option Int} : Guards s (execClassStages c n s) :=
  guards_classWrite

theorem guards_classOnepass {c : Int} {yes : Option Bool} : Guards s (execClassOnepass c yes s) :=
  guards_classWrite

theorem guards_classTareupdate {c : Int} {yes : Option Bool} :
    Guards s (execClassTareupdate c yes s) := guards_classWrite

theorem guards_takenInactive : Guards s (execTakenInactive d s) :=
  yields_next (Guarded.refl s).modDeckLines

theorem guards_readerGoodRun : Guards s (execReaderGoodRun e s) :=
  yields_next (Guarded.refl s).readerConditionEnds

theorem guards_safetyOccupied : Guards s (execSafetyOccupied e s) :=
  yields_next guarded_safetyChange

theorem guards_safetyClear : Guards s (execSafetyClear e s) := yields_next guarded_safetyChange

theorem guards_loopfaultActive : Guards s (execLoopfaultActive e s) :=
  yields_next guarded_loopfaultOn

/-! ### The lines of the link (R185 to R187) -/

/-- The command of a line is safe: what a line does not hold changes nothing. -/
theorem keeps_carryOut (i : Instr) : Keeps s (carryOut i s) := by
  cases i with
  | partScan _ => exact keeps_of_guards guards_partScan
  | partScanQuery | deckFilterQuery _ | deckStabilityQuery _ | deckTrackQuery _
  | deckWeightQuery _ | deckCellsQuery _ | deckStagedQuery _ | deckBeamsQuery _ | metroQuery
  | calParamQuery _ | barrierModeQuery _ | barrierPulseQuery _ | barrierTravelQuery _
  | barrierQuery _ | tagPolicyQuery | endIdtimeQuery _ | endDecideQuery _ | endCleartimeQuery _
  | endQuery _ | deckInboundQuery _ | deckModeQuery _ | deckStreakQuery _ | deckTailgateQuery _
  | deckTimeoutQuery _ | deckTaketimeQuery _ | deckExitQuery _ | deckQuery _ | visitOverstayQuery
  | tareCountQuery | tareExpiryQuery | visitCountQuery | accountCountQuery | journalPreferQuery
  | journalLowQuery | journalExportedQuery | journalRetainQuery | journalQuery | clockQuery
  | ticketUncollectedQuery _ | ticketQuery _ | linkBaudQuery | linkParityQuery | linkSilenceQuery
  | partAutostartQuery | partIdQuery | linkQuery | outcomeCountQuery | outcomeHighQuery
  | outcomeAttnQuery | reportCountQuery => exact keeps_of_guards guards_query
  | deckFilter _ _ => exact keeps_of_guards guards_deckFilter
  | deckStability _ _ => exact keeps_of_guards guards_deckStability
  | deckTrack _ _ => exact keeps_of_guards guards_deckTrack
  | deckZero _ => exact keeps_deckZero
  | deckReset _ => exact keeps_of_guards guards_deckReset
  | deckStaged _ _ => exact keeps_of_guards guards_deckStaged
  | deckCaptureQuery _ => exact keeps_of_guards guards_deckCaptureQuery
  | calMax _ _ => exact keeps_calMax
  | calInterval _ _ => exact keeps_calInterval
  | calTrim _ _ => exact keeps_calTrim
  | calCells _ _ => exact keeps_calCells
  | calZero _ => exact keeps_calZero
  | calSpan _ _ => exact keeps_calSpan
  | calK _ _ => exact keeps_calK
  | calZ0 _ _ => exact keeps_calZ0
  | metroLock => exact keeps_metroLock
  | endPolarity _ _ => exact keeps_of_guards guards_endPolarity
  | endPolarityQuery _ _ => exact keeps_of_guards guards_endPolarityQuery
  | deckPolarity _ _ => exact keeps_of_guards guards_deckPolarity
  | deckPolarityQuery _ _ => exact keeps_of_guards guards_deckPolarityQuery
  | partPolarity _ => exact keeps_of_guards guards_partPolarity
  | partPolarityQuery _ => exact keeps_of_guards guards_partPolarityQuery
  | barrierMode _ _ => exact keeps_of_guards guards_barrierMode
  | barrierPulse _ _ => exact keeps_of_guards guards_barrierPulse
  | barrierTravel _ _ => exact keeps_of_guards guards_barrierTravel
  | barrierRaise _ => exact keeps_of_guards guards_barrierRaise
  | barrierLower _ => exact keeps_of_guards guards_barrierLower
  | endPresent _ _ => exact keeps_of_guards guards_endPresent
  | endAdmit _ _ => exact keeps_of_guards guards_endAdmit
  | endRefuse _ => exact keeps_of_guards guards_endRefuse
  | tagSet _ _ => exact keeps_of_guards guards_tagSet
  | tagClear _ => exact keeps_of_guards guards_tagClear
  | tagQuery _ => exact keeps_of_guards guards_tagQuery
  | tagPolicy _ => exact keeps_of_guards guards_tagPolicy
  | tagMatchQuery _ => exact keeps_of_guards guards_tagMatchQuery
  | endIdtime _ _ => exact keeps_of_guards guards_endIdtime
  | endDecide _ _ => exact keeps_of_guards guards_endDecide
  | endCleartime _ _ => exact keeps_of_guards guards_endCleartime
  | deckInbound _ _ => exact keeps_of_guards guards_deckInbound
  | deckOpen _ _ => exact keeps_of_guards guards_deckOpen
  | deckClose _ => exact keeps_of_guards guards_deckClose
  | deckCancel _ => exact keeps_of_guards guards_deckCancel
  | deckRelease _ => exact keeps_of_guards guards_deckRelease
  | deckStreak _ _ => exact keeps_of_guards guards_deckStreak
  | deckTailgate _ _ => exact keeps_of_guards guards_deckTailgate
  | deckTimeout _ _ => exact keeps_of_guards guards_deckTimeout
  | deckTaketime _ _ => exact keeps_of_guards guards_deckTaketime
  | deckExit _ _ => exact keeps_of_guards guards_deckExit
  | visitOverstay _ => exact keeps_of_guards guards_visitOverstay
  | tareSet _ => exact keeps_of_guards guards_tareSet
  | tareClear _ => exact keeps_of_guards guards_tareClear
  | tareFindQuery _ => exact keeps_of_guards guards_tareFindQuery
  | tareIndexQuery _ => exact keeps_of_guards guards_tareIndexQuery
  | tareExpiry _ => exact keeps_of_guards guards_tareExpiry
  | visitClose _ => exact keeps_of_guards guards_visitClose
  | visitQuery _ => exact keeps_of_guards guards_visitQuery
  | visitFindQuery _ => exact keeps_of_guards guards_visitFindQuery
  | visitNextQuery _ => exact keeps_of_guards guards_visitNextQuery
  | accountAdd _ _ => exact keeps_of_guards guards_accountAdd
  | accountDelete _ => exact keeps_of_guards guards_accountDelete
  | accountCredit _ _ => exact keeps_of_guards guards_accountCredit
  | accountLimit _ _ => exact keeps_of_guards guards_accountLimit
  | accountClasses _ _ => exact keeps_of_guards guards_accountClasses
  | accountStatus _ _ => exact keeps_of_guards guards_accountStatus
  | accountQuery _ => exact keeps_of_guards guards_accountQuery
  | accountNextQuery _ => exact keeps_of_guards guards_accountNextQuery
  | className _ _ => exact keeps_of_guards guards_className
  | classRates _ _ => exact keeps_of_guards guards_classRates
  | classMinimum _ _ => exact keeps_of_guards guards_classMinimum
  | classLayout _ _ => exact keeps_of_guards guards_classLayout
  | classStages _ _ => exact keeps_of_guards guards_classStages
  | classOnepass _ _ => exact keeps_of_guards guards_classOnepass
  | classTareupdate _ _ => exact keeps_of_guards guards_classTareupdate
  | classQuery _ => exact keeps_of_guards guards_classQuery
  | journalPrefer _ => exact keeps_of_guards guards_journalPrefer
  | journalLow _ => exact keeps_of_guards guards_journalLow
  | journalExported _ => exact keeps_journalExported
  | journalRetain _ => exact keeps_of_guards guards_journalRetain
  | journalPurgeEnable => exact keeps_of_guards guards_journalPurgeEnable
  | journalPurge _ => exact keeps_journalPurge
  | journalPageQuery _ => exact keeps_of_guards guards_journalPageQuery
  | journalRead _ => exact keeps_of_guards guards_journalRead
  | journalNextQuery => exact keeps_of_guards guards_journalNextQuery
  | clockSet _ => exact keeps_of_guards guards_clockSet
  | layoutLine _ _ _ => exact keeps_of_guards guards_layoutLine
  | layoutClear _ => exact keeps_of_guards guards_layoutClear
  | layoutLineQuery _ _ => exact keeps_of_guards guards_layoutLineQuery
  | ticketUncollected _ _ => exact keeps_of_guards guards_ticketUncollected
  | ticketReprint _ _ => exact keeps_of_guards guards_ticketReprint
  | linkBaud _ => exact keeps_of_guards guards_linkBaud
  | linkParity _ => exact keeps_of_guards guards_linkParity
  | linkSilence _ => exact keeps_of_guards guards_linkSilence
  | partStart => exact keeps_of_guards guards_partStart
  | partStop => exact keeps_of_guards guards_partStop
  | partAutostart _ => exact keeps_of_guards guards_partAutostart
  | partReset => exact keeps_of_guards guards_partReset
  | outcomeQuery => exact keeps_of_guards guards_outcomeQuery
  | outcomeTake _ => exact keeps_of_guards guards_outcomeTake
  | outcomeHigh _ => exact keeps_of_guards guards_outcomeHigh
  | outcomeAttn _ => exact keeps_of_guards guards_outcomeAttn
  | reportQuery => exact keeps_of_guards guards_reportQuery
  | reportTake _ => exact keeps_of_guards guards_reportTake
  | reportMode _ => exact keeps_of_guards guards_reportMode
  | reportModeQuery _ => exact keeps_of_guards guards_reportModeQuery
  | faultQuery => exact keeps_of_guards guards_faultQuery
  | faultSourceQuery _ => exact keeps_of_guards guards_faultSourceQuery
  | faultClear _ => exact keeps_of_guards guards_faultClear
  | _ => exact keeps_same

/-- A safe command after a calm operation that leaves the ends alone. -/
theorem Guarded.keeps (h : Guarded s t) (ends : t.ends = s.ends) {r : Result State} (k : Keeps t r) :
    Keeps s r := Yields.mono k fun u hu => by
  refine ⟨h.toCalm.sound_trans hu.toSound, fun e down up => hu.raised e ?_ up⟩
  rw [State.driver, ends]
  exact down

theorem keeps_take (l : Line) : Keeps s (take l s) := by
  unfold take
  split
  · split
    exacts [keeps_carryOut _, keeps_refuse]
  · exact keeps_refuse
  · exact keeps_refuse

theorem guarded_refuseOne : Guarded s (s.modLink Link.refuseOne) :=
  (Guarded.refl s).modLink rfl fun _ => Nat.min_le_left ..

theorem keeps_offerLine (l : Line) : Keeps s (offerLine l s) := by
  unfold offerLine
  split
  · split
    exacts [keeps_take l, keeps_of_guards (yields_next guarded_refuseOne)]
  · split
    exacts [keeps_of_guards (yields_next (Guarded.refl s).modLink),
      keeps_of_guards (yields_next guarded_refuseOne)]
  · exact keeps_of_guards (yields_next guarded_refuseOne)

theorem attach_ends (s : State) : (attach s).ends = s.ends := by
  unfold attach
  dsimp only
  split
  exacts [rfl, offer_ends ..]

theorem keeps_lineComplete (cs : List LineChar) : Keeps s (execLineComplete cs s) := by
  have emptied : Guarded s (s.modLink fun l => { l with rx := .fresh }) := (Guarded.refl s).modLink
  unfold execLineComplete
  dsimp only
  split
  · exact keeps_of_guards (yields_next emptied)
  · split
    · exact emptied.attach.keeps (attach_ends _) (keeps_offerLine _)
    · exact emptied.keeps rfl (keeps_offerLine _)

theorem keeps_nextLine : Keeps s (nextLine s) := by
  unfold nextLine
  split
  · exact (Guarded.refl s).modLink.keeps rfl (keeps_take _)
  · split
    · exact keeps_same
    · exact keeps_of_guards (guards_answer ((Guarded.refl s).modLink rfl (by dsimp only; omega)))

/-- The reply sent, when no RESET ALL was asked for. -/
theorem keeps_replySent (r : Readings) (unasked : s.link.resetAsked = false) :
    Keeps s (execReplySent r s) := by
  unfold execReplySent
  split
  · exact keeps_same
  · rw [if_neg (by simp [unasked])]
    refine Guarded.keeps ((Guarded.refl s).modLink ?_ fun h => ?_) rfl keeps_nextLine
    · unfold Link.settingsTakeEffect
      split <;> rfl
    · unfold Link.settingsTakeEffect
      split <;> exact h

/-! ### Every command -/

/-- Every command but power-on and the reply that brings RESET ALL is safe. -/
theorem keeps_exec (i : Instr) (on : ∀ p, i ≠ .powerOn p)
    (reset : s.link.resetAsked = true → ∀ r, i ≠ .replySent r) : Keeps s (exec i s) := by
  have line := keeps_carryOut (s := s) i
  cases i with
  | powerOn p => exact absurd rfl (on p)
  | replySent r =>
    exact keeps_replySent r (Bool.eq_false_of_not_eq_true fun asked => reset asked r rfl)
  | lineComplete cs => exact keeps_lineComplete cs
  | conversionResult _ _ _ => exact keeps_of_guards guards_conversionResult
  | slotEnd _ => exact keeps_slotEnd
  | captureGrant _ => exact keeps_of_guards guards_captureGrant
  | lampFlashToggle _ => exact keeps_of_guards guards_lampFlashToggle
  | calSwitchOn => exact keeps_calSwitchOn
  | calSwitchOff => exact keeps_calSwitchOff
  | calPowerUpCompare _ => exact keeps_calPowerUpCompare
  | approachOccupied _ => exact keeps_of_guards guards_approachOccupied
  | approachClear _ => exact keeps_of_guards guards_approachClear
  | safetyOccupied _ => exact keeps_of_guards guards_safetyOccupied
  | safetyClear _ => exact keeps_of_guards guards_safetyClear
  | loopfaultActive _ => exact keeps_of_guards guards_loopfaultActive
  | loopfaultInactive _ => exact keeps_of_guards guards_loopfaultInactive
  | feedbackChange _ _ _ => exact keeps_of_guards guards_feedbackChange
  | beamChange _ _ _ => exact keeps_of_guards guards_beamChange
  | travelTimerExpiry _ => exact keeps_of_guards guards_travelTimerExpiry
  | pulseTimerExpiry _ => exact keeps_of_guards guards_pulseTimerExpiry
  | pendingRaise _ => exact keeps_of_guards guards_pendingRaise
  | pendingLower _ => exact keeps_of_guards guards_pendingLower
  | readReceived _ _ => exact keeps_of_guards guards_readReceived
  | readerErrorRun _ => exact keeps_of_guards guards_readerErrorRun
  | readerGoodRun _ => exact keeps_of_guards guards_readerGoodRun
  | holdRetest _ => exact keeps_of_guards guards_holdRetest
  | identificationTimerExpiry _ => exact keeps_of_guards guards_identificationTimerExpiry
  | decisionTimerExpiry _ => exact keeps_of_guards guards_decisionTimerExpiry
  | clearTimerExpiry _ => exact keeps_of_guards guards_clearTimerExpiry
  | arbiterOffer _ => exact keeps_of_guards guards_arbiterOffer
  | passageComplete _ => exact keeps_of_guards guards_passageComplete
  | closeComplete _ => exact keeps_of_guards guards_closeComplete
  | tailgateTimerExpiry _ => exact keeps_of_guards guards_tailgateTimerExpiry
  | weighingTimerExpiry _ => exact keeps_of_guards guards_weighingTimerExpiry
  | takeTimerExpiry _ => exact keeps_of_guards guards_takeTimerExpiry
  | settleReserve _ => exact keeps_of_guards guards_settleReserve
  | appendComplete => exact keeps_appendComplete
  | writeFailure => exact keeps_writeFailure
  | journalGrant => exact keeps_of_guards guards_journalGrant
  | eraseStart => exact keeps_of_guards guards_eraseStart
  | eraseComplete => exact keeps_eraseComplete
  | eraseFailure => exact keeps_of_guards guards_eraseFailure
  | journalScanComplete _ => exact keeps_journalScanComplete
  | clockSecond => exact keeps_of_guards guards_clockSecond
  | batteryMonitorChange _ => exact keeps_of_guards guards_batteryMonitorChange
  | printerJobStart _ => exact keeps_of_guards guards_printerJobStart
  | printerCharacterSent _ => exact keeps_of_guards guards_printerCharacterSent
  | printerLastCharacterSent _ => exact keeps_of_guards guards_printerLastCharacterSent
  | printerEndTimerExpiry _ => exact keeps_of_guards guards_printerEndTimerExpiry
  | busyChange _ _ => exact keeps_of_guards guards_busyChange
  | paperChange _ _ => exact keeps_of_guards guards_paperChange
  | takeEvent _ => exact keeps_of_guards guards_takeEvent
  | takenInactive _ => exact keeps_of_guards guards_takenInactive
  | uncollectedTimerExpiry _ => exact keeps_of_guards guards_uncollectedTimerExpiry
  | stuckTimerExpiry _ => exact keeps_of_guards guards_stuckTimerExpiry
  | silenceTimerExpiry => exact keeps_of_guards guards_silenceTimerExpiry
  | _ => exact line

/-- Every command is sound. -/
theorem sound_exec (i : Instr) : Yields (Sound s) (exec i s) := by
  by_cases safe : (∀ p, i ≠ .powerOn p) ∧ (s.link.resetAsked = true → ∀ r, i ≠ .replySent r)
  · exact Yields.mono (keeps_exec i safe.1 safe.2) fun _ => Safe.toSound
  · cases i with
    | powerOn p => exact yields_powerOn p
    | replySent r =>
      have asked : s.link.resetAsked = true := by
        by_contra unasked
        exact safe ⟨fun p h => (by cases h), fun h => absurd h unasked⟩
      change Yields (Sound s) (execReplySent r s)
      unfold execReplySent
      split
      · exact yields_next (Calm.refl s).sound
      · rw [if_pos asked]
        exact yields_next (sound_resetAll r s)
    | _ => exact absurd ⟨fun p h => (by cases h), fun _ r h => (by cases h)⟩ safe

/-- A step keeps what `Sound` says, as the queue of commands bears on none of it. -/
theorem sound_step (h : step s = .next t) : Sound s t := by
  unfold step at h
  split at h
  · cases h
    exact (Calm.refl s).sound
  · rename_i i rest _
    have taken : Calm s { s with pending := rest } := calm_of_eq rfl rfl rfl rfl rfl rfl id
    exact taken.sound_trans (sound_exec i t h)

/-! ### The statements -/

/-- Settles O14: every command is sound. -/
theorem lockHoldsAndCountNeverFalls : Obligations.LockHoldsAndCountNeverFalls :=
  ⟨fun i _ t lock off h => (sound_exec i t h).frozen lock off,
    fun i _ t h => ⟨(sound_exec i t h).lock, (sound_exec i t h).count⟩⟩

/-- Settles O17: every command but those two raises barriers only as R72 permits. -/
theorem raiseLeavesOtherBarrierDown : Obligations.RaiseLeavesOtherBarrierDown := by
  intro i s t e on reset h down up
  refine (keeps_exec i on reset t h).raised e down ?_
  rcases up with up | up <;> rw [up] <;> rfl

/-- Settles O43. -/
theorem journalKeptByEveryStep : Obligations.JournalKeptByEveryStep :=
  fun _ _ kept h => ⟨(sound_step h).journal kept, (sound_step h).nextSeq⟩

/-- Settles O57. -/
theorem outcomesKeptByEveryStep : Obligations.OutcomesKeptByEveryStep :=
  fun _ _ kept h => (sound_step h).outcomes kept

/-- Settles O58. -/
theorem zeroKeptByEveryStep : Obligations.ZeroKeptByEveryStep :=
  fun _ _ kept h => (sound_step h).zero kept

/-- Settles O59. -/
theorem tablesAndFaultsKeptByEveryStep : Obligations.TablesAndFaultsKeptByEveryStep :=
  fun _ _ h => ⟨(sound_step h).tables, (sound_step h).faults⟩

end Sys2Proof.Machine
end

section
/-! PROOFS. Settings and roundings (R189, R191, 00_scope.md), and the chapter's lane settings and
queries. -/

namespace Sys2Proof.Machine

-- One declaration after another: at once they ask for more threads than the check's limits allow.
set_option Elab.async false

variable {s t : State} {d : Deck}

/-! ### Lines judged by the part mode (R190, R194) -/

theorem laneWrite_of_run {k : Result State} (h : s.part.run = true) : laneWrite s k = refuse .state s := by
  rw [laneWrite, if_pos h]

theorem laneWrite_of_setup {k : Result State} (h : s.part.run = false) : laneWrite s k = k := by
  rw [laneWrite, h]
  rfl

/-! ### Numeric and stepped settings (R189, R191) -/

theorem clampInt_spec {lo hi : Int} (h : lo ≤ hi) (n : Int) :
    lo ≤ clampInt lo hi n ∧ clampInt lo hi n ≤ hi ∧ (n < lo → clampInt lo hi n = lo)
      ∧ (lo ≤ n → n ≤ hi → clampInt lo hi n = n) ∧ (hi < n → clampInt lo hi n = hi) := by
  unfold clampInt
  split_ifs <;> omega

/-- Rounding down among rising values keeps the greatest that is not above `n`, from `b` on. -/
theorem foldl_roundDown {n : Int} (l : List Nat) (b : Nat) (rising : l.Pairwise (· < ·))
    (above : ∀ v ∈ l, b ≤ v) (hb : (b : Int) ≤ n) :
    let r := l.foldl (fun (best v : Nat) => if (v : Int) ≤ n then v else best) b
    (r = b ∨ r ∈ l) ∧ (r : Int) ≤ n ∧ b ≤ r ∧ ∀ v ∈ l, (v : Int) ≤ n → v ≤ r := by
  induction l generalizing b with
  | nil => exact ⟨.inl rfl, hb, le_rfl, fun v hv => by cases hv⟩
  | cons v l ih =>
    obtain ⟨first, rising⟩ := List.pairwise_cons.mp rising
    have hbv : b ≤ v := above v (by simp)
    by_cases hv : (v : Int) ≤ n
    · obtain ⟨mem, below, from_v, greatest⟩ := ih v rising (fun w hw => (first w hw).le) hv
      simp only [List.foldl_cons, if_pos hv]
      refine ⟨.inr ?_, below, hbv.trans from_v, fun w hw hwn => ?_⟩
      · exact mem.elim (fun h => by rw [h]; simp) (List.mem_cons_of_mem v)
      · exact (List.mem_cons.mp hw).elim (fun h => h ▸ from_v) fun h => greatest w h hwn
    · obtain ⟨mem, below, from_b, greatest⟩ := ih b rising (fun w hw => above w (by simp [hw])) hb
      simp only [List.foldl_cons, if_neg hv]
      refine ⟨mem.imp_right (List.mem_cons_of_mem v), below, from_b, fun w hw hwn => ?_⟩
      exact (List.mem_cons.mp hw).elim (fun h => absurd (h ▸ hwn) hv) fun h => greatest w h hwn

/-- Below every legal value the start stays. -/
theorem foldl_roundDown_of_lt {n : Int} (l : List Nat) (b : Nat) (above : ∀ v ∈ l, n < (v : Int)) :
    l.foldl (fun (best v : Nat) => if (v : Int) ≤ n then v else best) b = b := by
  induction l with
  | nil => rfl
  | cons v l ih =>
    have hv : ¬ (v : Int) ≤ n := not_le.mpr (above v (by simp))
    rw [List.foldl_cons, if_neg hv]
    exact ih fun w hw => above w (by simp [hw])

section Stepped
variable {legal : List Nat} {lo : Nat} {n : Int}

theorem roundDown_of_le (rising : legal.Pairwise (· < ·)) (mem : lo ∈ legal) (least : ∀ v ∈ legal, lo ≤ v)
    (h : (lo : Int) ≤ n) : roundDown legal lo n ∈ legal ∧ (roundDown legal lo n : Int) ≤ n
      ∧ ∀ v ∈ legal, (v : Int) ≤ n → v ≤ roundDown legal lo n := by
  obtain ⟨kept, below, -, greatest⟩ := foldl_roundDown legal lo rising least h
  exact ⟨kept.elim (fun h => by rw [roundDown, h]; exact mem) id, below, greatest⟩

theorem roundDown_of_lt (least : ∀ v ∈ legal, lo ≤ v) (h : n < lo) : roundDown legal lo n = lo :=
  foldl_roundDown_of_lt legal lo fun v hv => h.trans_le (by exact_mod_cast least v hv)

end Stepped

/-! ### Roundings (00_scope.md) -/

/-- What the rounded division says of its quotient, scaled back. -/
theorem rounded_bounds (n : Int) {d : Nat} (h : 0 < d) :
    2 * ((2 * n + d) / (2 * d) * d) ≤ 2 * n + d ∧ 2 * n < 2 * ((2 * n + d) / (2 * d) * d) + d := by
  have split := Int.mul_ediv_add_emod (2 * n + d) (2 * d)
  have rest := Int.emod_nonneg (2 * n + d) (show (2 * (d : Int)) ≠ 0 by omega)
  have small := Int.emod_lt_of_pos (2 * n + d) (show (0 : Int) < 2 * d by omega)
  have scaled : 2 * (d : Int) * ((2 * n + d) / (2 * d)) = 2 * ((2 * n + d) / (2 * d) * d) := by ring
  omega

theorem rna_nearest (n : Int) {d : Nat} (h : 0 < d) :
    (2 * (rna n d * d - n)).natAbs ≤ d
      ∧ ((2 * (rna n d * d - n)).natAbs = d → n.natAbs < (rna n d * d).natAbs) := by
  unfold rna
  split
  · have bounds := rounded_bounds n h
    omega
  · have bounds := rounded_bounds (-n) h
    rw [neg_mul]
    omega

theorem rnu_nearest (n : Nat) {d : Nat} (h : 0 < d) :
    2 * (rnu n d * d) ≤ 2 * n + d ∧ 2 * n < 2 * (rnu n d * d) + d := by
  have bounds := rounded_bounds n h
  unfold rnu
  exact_mod_cast bounds

/-- Settles O7. -/
theorem settingsClampAndRoundingsTakeNearest : Obligations.SettingsClampAndRoundingsTakeNearest := by
  refine ⟨fun lo hi dflt n hlh => ?_, fun n d hd => rna_nearest n hd, fun n d hd => rnu_nearest n hd⟩
  obtain ⟨low, high, under, inside, above⟩ :=
    clampInt_spec (show (lo : Int) ≤ hi by exact_mod_cast hlh) n
  have value : (((SetArg.num n).value lo hi dflt : Nat) : Int) = clampInt lo hi n :=
    Int.toNat_of_nonneg (le_trans (by omega) low)
  refine ⟨⟨rfl, rfl, rfl, rfl, rfl, rfl⟩, by omega, by omega, fun h => ?_, fun h k => ?_, fun h => ?_, ?_, ?_⟩
  · have := under h
    omega
  · rw [value, inside h k]
  · have := above h
    omega
  · simp [SetArg.clamped]
  · intro legal rising mem least
    refine ⟨?_, fun h => (roundDown_of_le rising mem least h).2, roundDown_of_lt least, ?_⟩
    · rcases lt_or_ge n lo with h | h
      · rw [SetArg.stepped, roundDown_of_lt least h]
        exact mem
      · exact (roundDown_of_le rising mem least h).1
    · simp [SetArg.steppedDiffers, SetArg.stepped]

/-! ### The lane settings and queries of chapter 1 -/

theorem channelGroup_eq (n : Nat) (c : Channel) : channelGroup n c =
    [nat n, yn c.inForce, toString c.count, toString c.age]
      ++ (if c.inForce = false then ["OFF"] else if 4 ≤ c.age then ["ABSENT"]
          else if c.saturated then ["SAT"]
          else if c.condition then ["RECOV", toString c.goodRun] else ["GOOD"]) := by
  unfold channelGroup Channel.word Channel.absent
  cases c.inForce <;> split_ifs <;> simp_all [num, nat]

theorem restartWindows_eq (d : Deck) (s : State) : restartWindows d s =
    s.modDeck d fun u => { u with
      wcu := { u.wcu with filterWin := [], stabWin := [], latest := none }
      capture :=
        if u.capture.state = .waiting ∧ u.capture.orphan = false ∧ u.capture.grantDue = none
            ∧ u.capture.blocking ≠ some .next then
          { u.capture with blocking := some .noset }
        else u.capture } := by
  cases d <;> rfl

/-- Settles O2: the queries are answered from the state; the writes are judged by the part mode, then by
their parameter, and write the value of R191. -/
theorem weighingSettingsAndQueries : Obligations.WeighingSettingsAndQueries := by
  refine ⟨fun d s => ⟨rfl, rfl, rfl, rfl, ?cells⟩, fun d s => ⟨fun run r n mb on => ?run, fun setup => ?setup⟩,
    fun d s => ?restart⟩
  case cells =>
    have shown : exec (.deckCellsQuery d) s = execDeckCellsQuery d s := rfl
    unfold Answers
    simp only [shown, execDeckCellsQuery, Chan.all, List.flatMap_cons, List.flatMap_nil, channelGroup_eq,
      List.append_nil, answer, List.append_assoc]
    rfl
  case run =>
    exact ⟨laneWrite_of_run run, laneWrite_of_run run, laneWrite_of_run run, laneWrite_of_run run⟩
  case setup =>
    exact ⟨fun v => laneWrite_of_setup setup, fun v => laneWrite_of_setup setup,
      fun m b => laneWrite_of_setup setup, fun on => laneWrite_of_setup setup, laneWrite_of_setup setup,
      laneWrite_of_setup setup, laneWrite_of_setup setup, laneWrite_of_setup setup⟩
  case restart =>
    exact ⟨restartWindows_eq d s, by rw [restartBoth, restartWindows_eq, restartWindows_eq]; rfl, rfl⟩

/-! ### The operator zero (R23) -/

theorem DeckUnit.settled_of_no_weight {u : DeckUnit} (h : u.wcu.latest = none) : u.settled = none := by
  rw [DeckUnit.settled, h]

theorem DeckUnit.settled_of_weight {u : DeckUnit} {p : Published} (h : u.wcu.latest = some p) :
    u.settled = if p.invalid = true ∨ p.stable = false then none else some p := by
  rw [DeckUnit.settled, h]
  dsimp only
  cases p.invalid <;> cases p.stable <;> rfl

theorem zeroInRange_iff (p : Params) (a : Int) :
    zeroInRange p a = true ↔ 50 * (rna ((a - p.z0) * p.span) 16777216).natAbs ≤ p.max :=
  decide_eq_true_iff

/-- Two updates that agree on the deck's unit agree. -/
theorem State.modDeck_congr {f g : DeckUnit → DeckUnit} (h : f (s.deck d) = g (s.deck d)) :
    s.modDeck d f = s.modDeck d g := by
  unfold State.modDeck
  exact congrArg (fun u => { s with decks := s.decks.set d u }) h

/-- R23: the new zero, the window emptied and STABLE clear at once. -/
theorem answer_zeroed {p : Published} (latest : (s.deck d).wcu.latest = some p) :
    answer (.ok [num ((s.modWcu d fun w => { w.unsettle with zero := p.a }).deck d).zeroOffset])
      (s.modWcu d fun w => { w.unsettle with zero := p.a })
    = .next ((s.modWcu d fun w => { w with
        zero := p.a, stabWin := [], latest := some { p with stable := false } }).answered
          (.ok [toString (rna ((p.a - (s.deck d).params.z0) * (s.deck d).params.span) 16777216)])) := by
  have emptied : (s.modWcu d fun w => { w.unsettle with zero := p.a })
      = s.modWcu d fun w => { w with zero := p.a, stabWin := [], latest := some { p with stable := false } } :=
    State.modDeck_congr (by simp [Wcu.unsettle, latest])
  rw [emptied, State.modWcu_deck]
  rfl

/-- Settles O3. -/
theorem operatorZeroIsJudgedInOrder : Obligations.OperatorZeroIsJudgedInOrder := by
  intro d s u offset
  have judged : exec (.deckZero d) s = execDeckZero d s := rfl
  unfold Refused Answers AnswersWith
  rw [judged]
  unfold execDeckZero
  split
  · rfl
  · split
    · rfl
    · cases latest : u.wcu.latest with
      | none =>
        rw [DeckUnit.settled_of_no_weight latest]
        rfl
      | some p =>
        rw [DeckUnit.settled_of_weight latest]
        dsimp only
        by_cases unsettled : p.invalid = true ∨ p.stable = false
        · rw [if_pos unsettled, if_pos unsettled]
          rfl
        · rw [if_neg unsettled, if_neg unsettled]
          have range := zeroInRange_iff u.params p.a
          by_cases inRange : zeroInRange u.params p.a = true
          · rw [if_pos (range.mp inRange)]
            dsimp only
            rw [if_pos inRange]
            exact answer_zeroed latest
          · rw [if_neg (mt range.mpr inRange)]
            dsimp only
            rw [if_neg inRange]
            rfl

end Sys2Proof.Machine
end

section
/-! PROOFS. The channels of a deck: what a conversion result does (R3, R8). -/

namespace Sys2Proof.Machine

-- One declaration after another: at once they ask for more threads than the check's limits allow.
set_option Elab.async false

variable {s t : State} {d : Deck} {ch : Chan} {c : Channel}

/-! ### Putting a channel -/

@[simp] theorem setChannel_get (c : Channel) : ((s.setChannel d ch c).deck d).channels.get ch = c := by
  rw [State.setChannel, State.modDeck_deck]
  exact PerChan.get_set _ _ _

theorem setChannel_setChannel (c c' : Channel) :
    (s.setChannel d ch c).setChannel d ch c' = s.setChannel d ch c' := by
  cases d <;> cases ch <;> rfl

theorem setChannel_self (h : (s.deck d).channels.get ch = c) : s.setChannel d ch c = s := by
  subst h
  cases d <;> cases ch <;> rfl

theorem offer_modDeck (k : ReportKind) (subj : Subject) (ps : List String) (f : DeckUnit → DeckUnit) :
    (offer k subj ps s).modDeck d f = offer k subj ps (s.modDeck d f) := by
  unfold offer State.modDeck
  dsimp only
  split <;> rfl

theorem condArises_modDeck (src : FaultSource) (f : DeckUnit → DeckUnit) :
    (condArises src s).modDeck d f = condArises src (s.modDeck d f) := by
  have same : (s.modDeck d f).faults = s.faults := rfl
  unfold condArises
  rw [same]
  dsimp only
  split
  · rw [offer_modDeck]
    rfl
  · rfl
  · rfl

theorem condEnds_modDeck (src : FaultSource) (f : DeckUnit → DeckUnit) :
    (condEnds src s).modDeck d f = condEnds src (s.modDeck d f) := by
  have same : (s.modDeck d f).faults = s.faults := rfl
  unfold condEnds
  rw [same]
  dsimp only
  split
  · rw [offer_modDeck]
    rfl
  · rfl
  · rfl

/-- A signal leaves the decks alone, before or after. -/
theorem signal_modDeck (src : FaultSource) (g : Signal) (f : DeckUnit → DeckUnit) :
    (signal src g s).modDeck d f = signal src g (s.modDeck d f) := by
  cases g
  exacts [rfl, condArises_modDeck src f, condEnds_modDeck src f]

theorem signal_setChannel (src : FaultSource) (g : Signal) (c : Channel) :
    (signal src g s).setChannel d ch c = signal src g (s.setChannel d ch c) := signal_modDeck src g _

theorem signal_deck (src : FaultSource) (g : Signal) (s : State) (d : Deck) :
    (signal src g s).deck d = s.deck d := by
  obtain ⟨v, r, h⟩ := signal_frame s src g
  rw [h]
  rfl

theorem channelStep_quiet {f : Channel → Channel × Signal}
    (h : f ((s.deck d).channels.get ch) = ((s.deck d).channels.get ch, .quiet)) :
    channelStep d ch f s = s := by
  unfold channelStep
  rw [h]
  exact setChannel_self rfl

/-! ### A conversion result (R3) -/

theorem slotResignal_of_not (h : c.resignal = false) : c.slotResignal = (c, .quiet) := by
  cases c
  subst h
  rfl

theorem convert_resignal (b : Bool) (n : Int) :
    { c with resignal := b }.convert n = ({ (c.convert n).1 with resignal := b }, (c.convert n).2) := by
  unfold Channel.convert
  dsimp only
  split_ifs <;> rfl

theorem convert_keeps_resignal (n : Int) : (c.convert n).1.resignal = c.resignal := by
  unfold Channel.convert
  dsimp only
  split_ifs <;> rfl

theorem exec_conversionResult_off (n : Int) (off : ((s.deck d).channels.get ch).inForce = false) :
    exec (.conversionResult d ch n) s = .next s := by
  change execConversionResult d ch n s = _
  rw [execConversionResult, off]
  rfl

/-- A result for a channel with nothing to signal again. -/
theorem exec_conversionResult (n : Int) (on : ((s.deck d).channels.get ch).inForce = true)
    (done : ((s.deck d).channels.get ch).resignal = false) :
    exec (.conversionResult d ch n) s = .next
      (signal (.cell d ch) (((s.deck d).channels.get ch).convert n).2
        (s.setChannel d ch (((s.deck d).channels.get ch).convert n).1)) := by
  change execConversionResult d ch n s = _
  rw [execConversionResult, if_pos on, channelStep_quiet (f := Channel.slotResignal)]
  · rfl
  · refine slotResignal_of_not ?_
    unfold channelStep
    rw [signal_deck, setChannel_get, convert_keeps_resignal]
    exact done

/-- A result for a channel whose condition is to be signalled again (R8). -/
theorem exec_conversionResult_again (n : Int) (on : ((s.deck d).channels.get ch).inForce = true)
    (due : ((s.deck d).channels.get ch).resignal = true) :
    exec (.conversionResult d ch n) s = .next
      (signal (.cell d ch) (if (((s.deck d).channels.get ch).convert n).1.condition then .arises else .quiet)
        (signal (.cell d ch) (((s.deck d).channels.get ch).convert n).2
          (s.setChannel d ch { (((s.deck d).channels.get ch).convert n).1 with resignal := false }))) := by
  change execConversionResult d ch n s = _
  rw [execConversionResult, if_pos on]
  unfold channelStep
  dsimp only
  rw [signal_deck, setChannel_get, signal_setChannel, setChannel_setChannel]
  simp only [Channel.slotResignal, convert_keeps_resignal, due, Bool.true_and]

/-- Settles O4: a conversion is one update of the channel with its signal, and a condition to be
signalled again is signalled after it. -/
theorem conversionResultUpdatesChannel : Obligations.ConversionResultUpdatesChannel := by
  intro d ch n s c run got
  refine ⟨exec_conversionResult_off n, fun on done => ?_, fun on due t ht => ?_⟩
  · have given (c' : Channel) (g : Signal) (h : c.convert n = (c', g)) :
        run c' (signal (.cell d ch) g) := by
      change exec _ s = _
      rw [exec_conversionResult n on done]
      change Host.Outcome.next (signal _ (c.convert n).2 (s.setChannel d ch (c.convert n).1)) = _
      rw [h]
    have big : saturatedCount n = decide (8380000 ≤ n.natAbs) := rfl
    have unsignalled : c.resignal = false := done
    refine ⟨fun small none => ?_, fun small present few => ?_, fun small present last => ?_,
      fun large present => ?_, fun large none => ?_⟩
    · refine given _ .quiet ?_
      simp [Channel.convert, big, small.not_ge, none, unsignalled, got]
    · refine given _ .quiet ?_
      simp [Channel.convert, big, small.not_ge, present, unsignalled, got, few.ne]
    · refine given _ .ends ?_
      simp [Channel.convert, big, small.not_ge, present, unsignalled, got, last]
    · refine given _ .quiet ?_
      simp [Channel.convert, big, large, present, unsignalled, got]
    · refine given _ .arises ?_
      simp [Channel.convert, big, large, none, unsignalled, got]
  · rw [exec_conversionResult n (by simpa using on) (by simp)] at ht
    rw [exec_conversionResult_again n on due]
    simp only [setChannel_get, setChannel_setChannel, convert_resignal] at ht
    cases ht
    rw [signal_deck, setChannel_get]
    congr 1
    split <;> rfl

end Sys2Proof.Machine
end

section
/-! PROOFS. The slot end (R4 to R21, R29, R32, R108): what it does to each channel, the set it publishes,
and what the set's readers make of it. -/

namespace Sys2Proof.Machine

-- One declaration after another: at once they ask for more threads than the check's limits allow.
set_option Elab.async false

variable {s t : State} {d : Deck} {ch : Chan} {c : Channel} {u : DeckUnit} {p : Published}

theorem State.modDeck_modDeck (d : Deck) (f g : DeckUnit → DeckUnit) :
    (s.modDeck d f).modDeck d g = s.modDeck d (g ∘ f) := by
  cases d <;> rfl

/-! ### The windows (R12, R17) -/

theorem windowPush_eq (n : Nat) (win : List Int) (v : Int) :
    windowPush n win v = (win ++ [v]).drop (win.length + 1 - n) := by
  simp [windowPush]

theorem windowPush_nil {n : Nat} (h : 1 ≤ n) (v : Int) : windowPush n [] v = [v] := by
  rw [windowPush_eq]
  simp [Nat.sub_eq_zero_of_le h]

theorem average_eq (win : List Int) : average win = rna win.sum win.length := by
  rw [average, List.sum_eq_foldl]

theorem le_largest (w : Int) (ws : List Int) : ∀ x ∈ w :: ws, x ≤ largest w ws := by
  unfold largest
  induction ws generalizing w with
  | nil => simp
  | cons v ws ih =>
    intro x hx
    rw [List.foldl_cons]
    have first := ih (max w v) (max w v) (by simp)
    rcases List.mem_cons.mp hx with rfl | hx
    · exact (le_max_left _ _).trans first
    · rcases List.mem_cons.mp hx with rfl | hx
      · exact (le_max_right _ _).trans first
      · exact ih _ x (by simp [hx])

theorem largest_mem (w : Int) (ws : List Int) : largest w ws ∈ w :: ws := by
  unfold largest
  induction ws generalizing w with
  | nil => simp
  | cons v ws ih =>
    have found := ih (max w v)
    rw [List.foldl_cons]
    rcases List.mem_cons.mp found with h | h
    · rw [h]
      rcases max_choice w v with m | m <;> rw [m] <;> simp
    · simp [h]

theorem smallest_le (w : Int) (ws : List Int) : ∀ x ∈ w :: ws, smallest w ws ≤ x := by
  unfold smallest
  induction ws generalizing w with
  | nil => simp
  | cons v ws ih =>
    intro x hx
    rw [List.foldl_cons]
    have first := ih (min w v) (min w v) (by simp)
    rcases List.mem_cons.mp hx with rfl | hx
    · exact first.trans (min_le_left _ _)
    · rcases List.mem_cons.mp hx with rfl | hx
      · exact first.trans (min_le_right _ _)
      · exact ih _ x (by simp [hx])

theorem smallest_mem (w : Int) (ws : List Int) : smallest w ws ∈ w :: ws := by
  unfold smallest
  induction ws generalizing w with
  | nil => simp
  | cons v ws ih =>
    have found := ih (min w v)
    rw [List.foldl_cons]
    rcases List.mem_cons.mp found with h | h
    · rw [h]
      rcases min_choice w v with m | m <;> rw [m] <;> simp
    · simp [h]

/-- R17: a full window none of whose weights differ by more than the band. -/
theorem stableFlag_iff (m band e : Nat) (win : List Int) :
    stableFlag m band e win = true ↔ win.length = m ∧ win ≠ []
      ∧ ∀ x ∈ win, ∀ y ∈ win, x - y ≤ ((band * e : Nat) : Int) := by
  cases win with
  | nil => simp [stableFlag]
  | cons w ws =>
    simp only [stableFlag, Bool.and_eq_true, decide_eq_true_iff]
    constructor
    · rintro ⟨full, spread⟩
      refine ⟨full, by simp, fun x hx y hy => ?_⟩
      have high := le_largest w ws x hx
      have low := smallest_le w ws y hy
      omega
    · rintro ⟨full, -, spread⟩
      exact ⟨full, spread _ (largest_mem w ws) _ (smallest_mem w ws)⟩

/-! ### The readers of a published set (R21, R29, R32, R108) -/

/-- A unit after zero tracking on a set. -/
def DeckUnit.tracked (on : Bool) (u : DeckUnit) (p : Published) : DeckUnit :=
  { u with wcu := { u.wcu with zero := if tracks on u p then p.a else u.wcu.zero } }

theorem zeroTrack_eq (h : (s.deck d).wcu.latest = some p) :
    zeroTrack d s = s.modDeck d fun u => u.tracked s.metro.switchOn p := by
  unfold zeroTrack
  rw [h]
  dsimp only
  split
  · rename_i taken
    exact State.modDeck_congr (by simp [DeckUnit.tracked, taken])
  · rename_i left
    have same : (s.deck d).tracked s.metro.switchOn p = s.deck d := by simp [DeckUnit.tracked, left]
    cases d
    · change s = { s with decks := { s.decks with a := (s.deck .a).tracked s.metro.switchOn p } }
      rw [same]
      rfl
    · change s = { s with decks := { s.decks with b := (s.deck .b).tracked s.metro.switchOn p } }
      rw [same]
      rfl

/-- The not-clear test finds a set that is not EMPTY on a deck that should be (R108). -/
def State.notClearFound (s : State) (d : Deck) (p : Published) : Prop :=
  p.empty = false ∧ s.part.run = true ∧ (s.deck d).settings.mode ≠ .closed ∧ (s.deck d).seq.state = .idle

/-- R108: the mark, and the report of a mark newly set. -/
theorem notClearTest_spec (h : (s.deck d).wcu.latest = some p) : ∃ b r,
    notClearTest d s = { s.modDeck d fun u => { u with notClear := b } with reports := r }
      ∧ (b = true ↔ p.empty = false ∧ (s.notClearFound d p ∨ (s.deck d).notClear = true))
      ∧ (s.notClearFound d p → (s.deck d).notClear = false →
          r = (offer .deckNotClear (.deck d) [] s).reports)
      ∧ (¬ (s.notClearFound d p ∧ (s.deck d).notClear = false) → r = s.reports) := by
  have kept : s = s.modDeck d fun u => { u with notClear := (s.deck d).notClear } := by cases d <;> rfl
  unfold notClearTest
  dsimp only
  rw [h]
  dsimp only
  split
  · rename_i empty
    exact ⟨false, s.reports, rfl, by simp [empty], fun found => by simp [found.1] at empty, fun _ => rfl⟩
  · rename_i occupied
    have occupied : p.empty = false := by simpa using occupied
    split
    · rename_i found
      obtain ⟨run, opened, idle, unmarked⟩ := found
      refine ⟨true, (offer .deckNotClear (.deck d) [] s).reports, ?_, ?_, fun _ _ => rfl, fun no => ?_⟩
      · rw [← offer_modDeck]
        obtain ⟨r, hr⟩ := offer_frame s .deckNotClear (.deck d) []
        rw [hr]
        rfl
      · simp [occupied, State.notClearFound, run, opened, idle]
      · exact absurd ⟨⟨occupied, run, opened, idle⟩, unmarked⟩ no
    · rename_i no
      refine ⟨(s.deck d).notClear, s.reports, kept, ?_, fun found unmarked => ?_, fun _ => rfl⟩
      · constructor
        · exact fun marked => ⟨occupied, .inr marked⟩
        · rintro ⟨-, found | marked⟩
          · by_contra unmarked
            exact no ⟨found.2.1, found.2.2.1, found.2.2.2, by simpa using unmarked⟩
          · exact marked
      · exact absurd ⟨found.2.1, found.2.2.1, found.2.2.2, unmarked⟩ no

theorem seeMotion_eq (c : Capture) (b : Bool) : c.seeMotion b =
    if b = false ∧ (c.state = .stageWrite ∨ (c.state = .waiting ∧ 2 ≤ c.stage)) then { c with motion := true }
    else c := by
  cases b <;> simp [Capture.seeMotion]

theorem evaluates_iff (c : Capture) :
    c.evaluates = true ↔ c.state = .waiting ∧ c.orphan = false ∧ c.grantDue = none := by
  simp [Capture.evaluates, and_assoc]

theorem evaluates_seeMotion (c : Capture) (b : Bool) : (c.seeMotion b).evaluates = c.evaluates := by
  rw [seeMotion_eq]
  split <;> rfl

/-- What the capture logic makes of a set judged `word` (R29, R32). -/
def Capture.readSet (c : Capture) (p : Published) (word : Option BlockWord) : Capture :=
  if c.evaluates then
    match word with
    | some w => { c.seeMotion p.stable with blocking := some w }
    | none => { c.seeMotion p.stable with blocking := some .append, grantDue := some p.disp }
  else c.seeMotion p.stable

/-- The word a set is judged by, motion seen included (R29, R32). -/
def State.wordOf (s : State) (d : Deck) (p : Published) : Option BlockWord :=
  blockingOf (s.modCapture d fun c => c.seeMotion p.stable) d p

theorem readSet_eq (c : Capture) (p : Published) (word : Option BlockWord) : c.readSet p word =
    if c.state = .waiting ∧ c.orphan = false ∧ c.grantDue = none then
      match word with
      | some w => { c.seeMotion p.stable with blocking := some w }
      | none => { c.seeMotion p.stable with blocking := some .append, grantDue := some p.disp }
    else c.seeMotion p.stable :=
  if_congr (evaluates_iff c) rfl rfl

theorem evaluateSet_eq (h : (s.deck d).wcu.latest = some p) : evaluateSet d s =
    s.modDeck d fun u => { u with capture := u.capture.readSet p (s.wordOf d p) } := by
  unfold evaluateSet
  rw [h]
  dsimp only
  rw [State.modCapture_deck, evaluates_seeMotion]
  have marked : (s.modCapture d fun c => c.seeMotion p.stable)
      = s.modDeck d fun u => { u with capture := u.capture.seeMotion p.stable } := rfl
  by_cases evaluates : (s.deck d).capture.evaluates = true
  · rw [if_pos evaluates]
    cases word : blockingOf (s.modCapture d fun c => c.seeMotion p.stable) d p with
    | none =>
      dsimp only
      rw [marked, State.modCapture, State.modDeck_modDeck]
      exact State.modDeck_congr (by simp [evaluates, Capture.readSet, State.wordOf, word])
    | some w =>
      dsimp only
      rw [marked, State.modCapture, State.modDeck_modDeck]
      exact State.modDeck_congr (by simp [evaluates, Capture.readSet, State.wordOf, word])
  · rw [if_neg evaluates]
    exact State.modDeck_congr (by simp [evaluates, Capture.readSet])

/-- The grant test reads the metrology block, the faults, the journal and the ends, and of the deck its
parameters, lines and capture logic. -/
theorem blockingOf_congr (metro : t.metro = s.metro) (faults : t.faults = s.faults)
    (journal : t.journal = s.journal) (ends : t.ends = s.ends)
    (params : (t.deck d).params = (s.deck d).params) (lines : (t.deck d).lines = (s.deck d).lines)
    (capture : (t.deck d).capture = (s.deck d).capture) : blockingOf t d p = blockingOf s d p := by
  simp only [blockingOf, grantFailures, State.oos, State.cellCause, State.journalCause, State.bothDown,
    State.barrierDown, State.driver, metro, faults, journal, ends, params, lines, capture]

/-! ### The published set (R7, R10 to R19) -/

/-- The set that a unit publishes. -/
def DeckUnit.published (u : DeckUnit) : Published :=
  let wt := weightOf (average (windowPush u.wcu.filterLen u.wcu.filterWin u.sum)) u.wcu.zero u.params.span
  { sum := u.sum, a := average (windowPush u.wcu.filterLen u.wcu.filterWin u.sum), w := wt
    disp := displayOf u.params.interval wt, invalid := u.setInvalid
    overload := overFlag u.params.max u.params.interval wt, underload := underFlag u.params.interval wt
    occupied := occupiedFlag u.params.interval wt, empty := emptyFlag u.params.interval wt
    stable := stableFlag u.wcu.stabLen u.wcu.band u.params.interval
      (windowPush u.wcu.stabLen u.wcu.stabWin wt) }

theorem publish_eq (u : DeckUnit) : u.publish = { u.wcu with
    latest := some u.published
    filterWin := windowPush u.wcu.filterLen u.wcu.filterWin u.sum
    stabWin := windowPush u.wcu.stabLen u.wcu.stabWin u.published.w } := rfl

/-- R11, over the enabled channels. -/
theorem DeckUnit.sum_eq (u : DeckUnit) (part : Chan → Int) (h : ∀ ch, u.contribution ch = part ch) :
    u.sum = part .c1 + part .c2 + part .c3 + part .c4 := by
  simp [DeckUnit.sum, Chan.all, h]

theorem Chan.exists_iff {P : Chan → Prop} : (∃ ch, P ch) ↔ P .c1 ∨ P .c2 ∨ P .c3 ∨ P .c4 := by
  constructor
  · rintro ⟨ch, h⟩
    cases ch <;> simp [h]
  · rintro (h | h | h | h) <;> exact ⟨_, h⟩

theorem Chan.forall_iff {P : Chan → Prop} : (∀ ch, P ch) ↔ P .c1 ∧ P .c2 ∧ P .c3 ∧ P .c4 := by
  constructor
  · exact fun h => ⟨h _, h _, h _, h _⟩
  · rintro ⟨h1, h2, h3, h4⟩ ch
    cases ch <;> assumption

theorem setInvalid_iff (u : DeckUnit) : u.setInvalid = true ↔ ∃ ch, (u.channels.get ch).inForce = true
    ∧ ((u.channels.get ch).saturated = true ∨ 4 ≤ (u.channels.get ch).age) := by
  rw [Chan.exists_iff]
  simp [DeckUnit.setInvalid, PerChan.toList, PerChan.get, Channel.absent]

theorem setComplete_iff (u : DeckUnit) : u.setComplete = true ↔ ∀ ch, (u.channels.get ch).inForce = true →
    (u.channels.get ch).delivered = true ∨ 4 ≤ (u.channels.get ch).age := by
  have each (c : Channel) : (!c.inForce || c.delivered || c.absent) = true
      ↔ (c.inForce = true → c.delivered = true ∨ 4 ≤ c.age) := by
    cases h : c.inForce <;> simp [Channel.absent]
  rw [Chan.forall_iff, DeckUnit.setComplete, List.all_eq_true]
  simp only [each]
  simp [PerChan.toList, PerChan.get]

/-- A deck's unit with its set published and tracked (R6, R9, R21). -/
def DeckUnit.publishing (on : Bool) (u : DeckUnit) : DeckUnit :=
  ({ u.clearDelivered with wcu := u.publish } : DeckUnit).tracked on u.published

/-- The state in which a published set is read. -/
theorem zeroTrack_published (d : Deck) (s : State) :
    zeroTrack d (s.modDeck d fun u => { u.clearDelivered with wcu := u.publish })
      = s.modDeck d (DeckUnit.publishing s.metro.switchOn) := by
  rw [zeroTrack_eq (p := (s.deck d).published) (by rw [State.modDeck_deck, publish_eq]),
    State.modDeck_modDeck]
  exact State.modDeck_congr rfl

/-- What a completed set leaves (R6, R9, R21, R29, R108): the state, and each part of it. -/
theorem publishSet_spec (d : Deck) (s : State) : ∃ b r,
    publishSet d s = { s.modDeck d fun u =>
        { u.publishing s.metro.switchOn with
          capture := u.capture.readSet u.published (s.wordOf d u.published)
          notClear := b } with reports := r }
      ∧ (b = true ↔ (s.deck d).published.empty = false
          ∧ (s.notClearFound d (s.deck d).published ∨ (s.deck d).notClear = true))
      ∧ (s.notClearFound d (s.deck d).published → (s.deck d).notClear = false →
          r = (offer .deckNotClear (.deck d) [] s).reports)
      ∧ (¬ (s.notClearFound d (s.deck d).published ∧ (s.deck d).notClear = false) →
          r = s.reports) := by
  generalize hq : (s.deck d).published = q
  generalize hu : s.modDeck d (DeckUnit.publishing s.metro.switchOn) = u
  have unit : u.deck d = (s.deck d).publishing s.metro.switchOn := by rw [← hu, State.modDeck_deck]
  have latest : (u.deck d).wcu.latest = some q := by rw [unit, ← hq]; rfl
  have found : u.notClearFound d q ↔ s.notClearFound d q := by
    unfold State.notClearFound
    rw [unit, ← hu]
    rfl
  obtain ⟨b, r, tested, mark, placed, quiet⟩ := notClearTest_spec latest
  rw [found] at mark placed quiet
  have marked : (u.deck d).notClear = (s.deck d).notClear := by rw [unit]; rfl
  rw [marked] at mark placed quiet
  have offered : (offer .deckNotClear (.deck d) [] u).reports = (offer .deckNotClear (.deck d) [] s).reports := by
    rw [← hu, ← offer_modDeck, State.modDeck_reports]
  have reports : u.reports = s.reports := by rw [← hu, State.modDeck_reports]
  rw [offered] at placed
  rw [reports] at quiet
  refine ⟨b, r, ?_, mark, placed, quiet⟩
  unfold publishSet
  dsimp only
  rw [zeroTrack_published, hu, tested]
  have latest' : (State.deck { u.modDeck d fun u => { u with notClear := b } with reports := r } d).wcu.latest
      = some q := by
    change ((u.modDeck d fun u => { u with notClear := b }).deck d).wcu.latest = _
    rw [State.modDeck_deck]
    exact latest
  have word : State.wordOf { u.modDeck d fun u => { u with notClear := b } with reports := r } d q
      = s.wordOf d q := by
    rw [← hu]
    cases d <;> exact blockingOf_congr rfl rfl rfl rfl rfl rfl rfl
  rw [evaluateSet_eq latest', word, ← hu, ← hq]
  cases d <;> rfl

theorem frame_of_modDeck_reports {f : DeckUnit → DeckUnit} {r : Reports}
    (h : t = { s.modDeck d f with reports := r }) :
    t = { s with decks := t.decks, reports := t.reports } ∧ (∀ d', d' ≠ d → t.deck d' = s.deck d')
      ∧ t.deck d = f (s.deck d) ∧ t.reports = r := by
  subst h
  exact ⟨rfl, fun d' hd => State.modDeck_deck_of_ne s f hd, State.modDeck_deck s d f, rfl⟩

/-! ### A slot end on a healthy deck -/

/-- A channel delivered in its slot, enabled as it is set, with nothing to signal again. -/
def Channel.healthy (c : Channel) (enabled : Bool) : Prop :=
  c.inForce = enabled ∧ c.inSlot = c.inForce ∧ c.delivered = c.inForce ∧ c.age = 0 ∧ c.resignal = false

theorem slotAge_healthy {en : Bool} (h : c.healthy en) : c.slotAge = ({ c with inSlot := false }, .quiet) := by
  obtain ⟨-, slot, -⟩ := h
  unfold Channel.slotAge
  by_cases on : c.inForce = true
  · simp [slot, on]
  · cases c
    simp_all

theorem slotChannel_healthy (h : ((s.deck d).channels.get ch).healthy ((s.deck d).params.cells.get ch)) :
    slotChannel d s ch = s.setChannel d ch { (s.deck d).channels.get ch with inSlot := false } := by
  obtain ⟨enabled, -, -, -, signalled⟩ := id h
  have aged : channelStep d ch Channel.slotAge s
      = s.setChannel d ch { (s.deck d).channels.get ch with inSlot := false } := by
    unfold channelStep
    rw [slotAge_healthy h]
    rfl
  unfold slotChannel
  dsimp only
  rw [aged, if_pos enabled, channelStep_quiet (f := fun c => c.slotEnable _), channelStep_quiet]
  · rw [setChannel_get]
    exact slotResignal_of_not signalled
  · rw [setChannel_get]
    simp [Channel.slotEnable, enabled]

/-- The channels after a slot end on a healthy deck. -/
def DeckUnit.slotted (u : DeckUnit) : DeckUnit :=
  { u with channels := ⟨{ u.channels.c1 with inSlot := false }, { u.channels.c2 with inSlot := false },
      { u.channels.c3 with inSlot := false }, { u.channels.c4 with inSlot := false }⟩ }

theorem slotChannels_healthy
    (h : ∀ ch, ((s.deck d).channels.get ch).healthy ((s.deck d).params.cells.get ch)) :
    slotChannels d s = s.modDeck d DeckUnit.slotted := by
  have h1 := h .c1
  have h2 := h .c2
  have h3 := h .c3
  have h4 := h .c4
  unfold slotChannels Chan.all
  simp only [List.foldl_cons, List.foldl_nil]
  cases d
  all_goals
    rw [slotChannel_healthy h1, slotChannel_healthy (ch := .c2), slotChannel_healthy (ch := .c3),
      slotChannel_healthy (ch := .c4)]
    exacts [rfl, h4, h3, h2]

theorem contribution_slotted (u : DeckUnit) (ch : Chan) :
    u.slotted.contribution ch = u.contribution ch := by
  cases ch <;> rfl

/-- On a healthy deck the set completes, and is INVALID by its saturated channels alone (R7). -/
theorem healthy_complete (h : ∀ ch, (u.channels.get ch).healthy (u.params.cells.get ch)) :
    u.slotted.setComplete = true := by
  rw [setComplete_iff]
  intro ch on
  obtain ⟨-, -, delivered, -⟩ := h ch
  have same : (u.slotted.channels.get ch) = { u.channels.get ch with inSlot := false } := by cases ch <;> rfl
  rw [same] at on ⊢
  exact .inl (delivered.trans on)

theorem healthy_invalid_iff (h : ∀ ch, (u.channels.get ch).healthy (u.params.cells.get ch)) :
    u.slotted.setInvalid = true ↔ ∃ ch, u.params.cells.get ch = true ∧ (u.channels.get ch).saturated = true := by
  rw [setInvalid_iff]
  refine exists_congr fun ch => ?_
  obtain ⟨enabled, -, -, young, -⟩ := h ch
  have same : (u.slotted.channels.get ch) = { u.channels.get ch with inSlot := false } := by cases ch <;> rfl
  rw [same]
  dsimp only
  rw [enabled, young]
  simp

theorem tracks_iff (on : Bool) (u : DeckUnit) (p : Published) : tracks on u p = true ↔
    u.wcu.track = true ∧ p.invalid = false ∧ p.stable = true ∧ u.seq.state = .idle ∧ on = false
      ∧ 2 * p.w.natAbs ≤ u.params.interval
      ∧ 50 * (rna ((p.a - u.params.z0) * u.params.span) 16777216).natAbs ≤ u.params.max := by
  simp only [tracks, Bool.and_eq_true, Bool.not_eq_true', beq_iff_eq, decide_eq_true_iff, zeroInRange_iff,
    and_assoc]

/-- Settles O5: on a healthy deck the channels only lose their slot marks, the set completes, and each
reader of it does its part. -/
theorem slotEndPublishesSet : Obligations.SlotEndPublishesSet := by
  intro d s u p w healthy parts sum win a wt stab spread
  have slotted := slotChannels_healthy (s := s) (d := d) healthy
  obtain ⟨b, r, published, mark, placed, quiet⟩ := publishSet_spec d (s.modDeck d DeckUnit.slotted)
  generalize hq : ((s.modDeck d DeckUnit.slotted).deck d).published = q at mark placed quiet
  rw [State.modDeck_deck] at hq
  have run : exec (.slotEnd d) s = .next (publishSet d (s.modDeck d DeckUnit.slotted)) := by
    change execSlotEnd d s = _
    unfold execSlotEnd
    dsimp only
    rw [slotted, State.modDeck_deck, if_pos (healthy_complete healthy)]
  have total : u.slotted.sum = sum := by
    refine DeckUnit.sum_eq _ parts fun ch => ?_
    rw [contribution_slotted]
    obtain ⟨enabled, -⟩ := healthy ch
    unfold DeckUnit.contribution
    dsimp only
    rw [enabled]
    rfl
  have window : windowPush w.filterLen w.filterWin u.slotted.sum = win := by
    rw [total, windowPush_eq]
  have filtered : average (windowPush w.filterLen w.filterWin u.slotted.sum) = a := by
    rw [window, average_eq]
  have weight : weightOf (average (windowPush w.filterLen w.filterWin u.slotted.sum)) w.zero p.span = wt := by
    rw [filtered]
    rfl
  have qsum : q.sum = sum := by rw [← hq]; exact total
  have qa : q.a = a := by rw [← hq]; exact filtered
  have qw : q.w = wt := by rw [← hq]; exact weight
  have stabs : windowPush w.stabLen w.stabWin q.w = stab := by rw [qw, windowPush_eq]
  refine ⟨_, q, run, ?_⟩
  generalize ht : publishSet d (s.modDeck d DeckUnit.slotted) = t
  obtain ⟨state, others, unit, reports⟩ := frame_of_modDeck_reports (ht.symm.trans published)
  replace state : t = { s with decks := t.decks, reports := t.reports } := state
  replace others : ∀ d', d' ≠ d → t.deck d' = s.deck d' := fun d' hd =>
    (others d' hd).trans (State.modDeck_deck_of_ne _ _ hd)
  rw [State.modDeck_deck, hq] at unit
  have wcu : (t.deck d).wcu = { w with
      latest := some q, filterWin := win, stabWin := stab
      zero := if tracks s.metro.switchOn u q then a else w.zero } := by
    rw [unit, ← qa, ← window, ← stabs, ← hq]
    rfl
  have stable : q.stable = stableFlag w.stabLen w.band p.interval stab := by
    rw [← stabs, ← hq]
    rfl
  have found : (s.modDeck d DeckUnit.slotted).notClearFound d q = s.notClearFound d q := by
    cases d <;> rfl
  have marked : ((s.modDeck d DeckUnit.slotted).deck d).notClear = u.notClear := by
    rw [State.modDeck_deck]
    rfl
  rw [found, marked] at mark placed quiet
  refine ⟨by rw [wcu], qsum, qa, qw, ?disp, ?heavy, ?light, ?occupied, ?empty, ?invalid, ?stable, by rw [wcu],
    by rw [wcu], ?zero, state, others, ?unit, ?channels, ?capture, ?mark, ?placed, ?quiet⟩
  case disp =>
    rw [← qw, ← hq]
    rfl
  case heavy | light | occupied | empty =>
    rw [← qw, ← hq]
    exact decide_eq_true_iff
  case invalid =>
    rw [← hq]
    exact healthy_invalid_iff healthy
  case stable =>
    rw [stable]
    exact stableFlag_iff ..
  case zero =>
    rw [wcu]
    have tracked := tracks_iff s.metro.switchOn u q
    rw [qw, qa] at tracked
    exact if_congr tracked rfl rfl
  case unit =>
    have kept : { w with latest := some q, filterWin := win, stabWin := stab, zero := (t.deck d).wcu.zero }
        = (t.deck d).wcu := by rw [wcu]
    rw [kept, unit]
    rfl
  case channels =>
    intro ch
    rw [unit]
    cases ch <;> rfl
  case capture =>
    rw [unit]
    change u.capture.readSet q ((s.modDeck d DeckUnit.slotted).wordOf d q) = _
    have word : (s.modDeck d DeckUnit.slotted).wordOf d q
        = blockingOf { s with decks := s.decks.set d { u with capture := u.capture.seeMotion q.stable } } d q := by
      cases d <;> exact blockingOf_congr rfl rfl rfl rfl rfl rfl rfl
    rw [readSet_eq, word, seeMotion_eq] <;> rfl
  case mark =>
    rw [unit]
    exact mark
  case placed =>
    intro now unmarked
    rw [reports, placed now unmarked, ← offer_modDeck]
    rfl
  case quiet =>
    intro no
    rw [reports, quiet no]
    rfl

end Sys2Proof.Machine
end

section
/-! PROOFS. The channels' part of a slot end in general (R4, R5, R8): each channel on its own, with its
signals, and the windows restarted by a changed setting. -/

namespace Sys2Proof.Machine

-- One declaration after another: at once they ask for more threads than the check's limits allow.
set_option Elab.async false

variable {s t : State} {d : Deck} {ch : Chan} {c : Channel} {u : DeckUnit} {p : Published}

/-! ### One channel -/

/-- A channel after its part of a slot end. -/
def Channel.slotEnded (c : Channel) (enabled : Bool) : Channel :=
  ((c.slotAge.1.slotEnable enabled).1.slotResignal).1

/-- An entry's state after a signal (R209). -/
def EntryState.after (x : EntryState) : Signal → EntryState
  | .quiet => x
  | .arises => .active
  | .ends => if x = .active then .latched else x

theorem signal_entry (f : FaultSource) (g : Signal) (s : State) :
    ((signal f g s).faults.get f).state = (s.faults.get f).state.after g := by
  cases g with
  | quiet => rfl
  | arises =>
    obtain ⟨v, r, h, active, -⟩ := condArises_spec s f
    rw [signal, h]
    change ((s.faults.set f v).get f).state = _
    rw [FaultTable.get_set, active]
    rfl
  | ends =>
    obtain ⟨ends, stays⟩ := condEnds_spec s f
    by_cases active : (s.faults.get f).state = .active
    · obtain ⟨r, h⟩ := ends active
      rw [signal, h]
      change ((s.faults.set f _).get f).state = _
      rw [FaultTable.get_set, active]
      rfl
    · rw [signal, stays active]
      simp [EntryState.after, active]

theorem signal_entry_of_ne {f f' : FaultSource} (h : f' ≠ f) (g : Signal) (s : State) :
    (signal f g s).faults.get f' = s.faults.get f' := by
  obtain ⟨v, r, eq⟩ := signal_frame s f g
  rw [eq]
  exact FaultTable.get_set_of_ne _ _ h

/-- The signals a channel gives at its slot end, in order (R4, R5, R8). -/
def Channel.slotSignals (c : Channel) (enabled : Bool) : List Signal :=
  [c.slotAge.2, (c.slotAge.1.slotEnable enabled).2, ((c.slotAge.1.slotEnable enabled).1.slotResignal).2]

/-- What a slot end does to the deck's unit through one channel. -/
def DeckUnit.slotEndedAt (u : DeckUnit) (ch : Chan) : DeckUnit :=
  let same : Bool := (u.channels.get ch).inForce == u.params.cells.get ch
  { u with
    channels := u.channels.set ch ((u.channels.get ch).slotEnded (u.params.cells.get ch))
    wcu := bif same then u.wcu else u.wcu.restart
    capture := bif same then u.capture else u.capture.noset }

/-- `t` comes of `s` with only decks, reports and fault entries changed. -/
def SlotFrame (s t : State) : Prop := t = { s with decks := t.decks, reports := t.reports, faults := t.faults }

theorem SlotFrame.refl (s : State) : SlotFrame s s := rfl

theorem SlotFrame.trans {v : State} (h : SlotFrame s t) (k : SlotFrame t v) : SlotFrame s v := by
  unfold SlotFrame at *
  rw [k, h]

theorem channelStep_spec (d : Deck) (ch : Chan) (f : Channel → Channel × Signal) (s : State) :
    SlotFrame s (channelStep d ch f s)
      ∧ (channelStep d ch f s).decks = (s.setChannel d ch (f ((s.deck d).channels.get ch)).1).decks
      ∧ (∀ k, k ≠ .cell d ch → (channelStep d ch f s).faults.get k = s.faults.get k)
      ∧ ((channelStep d ch f s).faults.get (.cell d ch)).state
          = (s.faults.get (.cell d ch)).state.after (f ((s.deck d).channels.get ch)).2 := by
  refine ⟨?_, ?_, fun k hk => signal_entry_of_ne hk _ _, signal_entry ..⟩
  · unfold channelStep
    obtain ⟨v, r, eq⟩ := signal_frame (s.setChannel d ch (f ((s.deck d).channels.get ch)).1) (.cell d ch)
      (f ((s.deck d).channels.get ch)).2
    dsimp only
    rw [eq]
    rfl
  · unfold channelStep
    obtain ⟨v, r, eq⟩ := signal_frame (s.setChannel d ch (f ((s.deck d).channels.get ch)).1) (.cell d ch)
      (f ((s.deck d).channels.get ch)).2
    dsimp only
    rw [eq]

theorem channelStep_deck (d : Deck) (ch : Chan) (f : Channel → Channel × Signal) (s : State) :
    (channelStep d ch f s).deck d = { s.deck d with
      channels := (s.deck d).channels.set ch (f ((s.deck d).channels.get ch)).1 } := by
  obtain ⟨-, decks, -⟩ := channelStep_spec d ch f s
  rw [State.deck, decks]
  exact State.modDeck_deck ..

theorem channelStep_deck_of_ne {d' : Deck} (h : d' ≠ d) (ch : Chan) (f : Channel → Channel × Signal)
    (s : State) : (channelStep d ch f s).deck d' = s.deck d' := by
  obtain ⟨-, decks, -⟩ := channelStep_spec d ch f s
  rw [State.deck, decks]
  exact State.modDeck_deck_of_ne _ _ h

theorem PerChan.set_set {α : Type} (q : PerChan α) (k : Chan) (x y : α) :
    (q.set k x).set k y = q.set k y := by
  cases k <;> rfl

/-- The windows restarted where an enabled setting has changed (R5). -/
def restartUnless (d : Deck) (same : Bool) (s : State) : State := if same then s else restartWindows d s

theorem restartUnless_spec (d : Deck) (same : Bool) (s : State) :
    SlotFrame s (restartUnless d same s) ∧ (restartUnless d same s).faults = s.faults
      ∧ (∀ d', d' ≠ d → (restartUnless d same s).deck d' = s.deck d')
      ∧ (restartUnless d same s).deck d = { s.deck d with
          wcu := bif same then (s.deck d).wcu else (s.deck d).wcu.restart
          capture := bif same then (s.deck d).capture else (s.deck d).capture.noset } := by
  unfold restartUnless
  cases same with
  | true => exact ⟨rfl, rfl, fun _ _ => rfl, rfl⟩
  | false =>
    refine ⟨rfl, rfl, fun d' hd => ?_, ?_⟩
    · exact (State.modCapture_deck_of_ne _ _ hd).trans (State.modWcu_deck_of_ne _ _ hd)
    · change (restartWindows d s).deck d = _
      rw [restartWindows, State.modCapture_deck, State.modWcu_deck]
      rfl

theorem slotChannel_eq (d : Deck) (s : State) (ch : Chan) : slotChannel d s ch =
    channelStep d ch Channel.slotResignal (restartUnless d
      (((s.deck d).channels.get ch).inForce == (s.deck d).params.cells.get ch)
      (channelStep d ch (fun c => c.slotEnable ((s.deck d).params.cells.get ch))
        (channelStep d ch Channel.slotAge s))) := by
  unfold slotChannel restartUnless
  simp only [beq_iff_eq]

/-- The slot end of one channel (R4, R5, R8). -/
theorem slotChannel_spec (d : Deck) (ch : Chan) (s : State) :
    SlotFrame s (slotChannel d s ch)
      ∧ (slotChannel d s ch).deck d = (s.deck d).slotEndedAt ch
      ∧ (∀ d', d' ≠ d → (slotChannel d s ch).deck d' = s.deck d')
      ∧ (∀ k, k ≠ .cell d ch → (slotChannel d s ch).faults.get k = s.faults.get k)
      ∧ ((slotChannel d s ch).faults.get (.cell d ch)).state
          = (((s.deck d).channels.get ch).slotSignals ((s.deck d).params.cells.get ch)).foldl
              EntryState.after (s.faults.get (.cell d ch)).state := by
  rw [slotChannel_eq]
  obtain ⟨frame1, -, faults1, entry1⟩ := channelStep_spec d ch Channel.slotAge s
  have deck1 := channelStep_deck d ch Channel.slotAge s
  have other1 := fun d' (h : d' ≠ d) => channelStep_deck_of_ne h ch Channel.slotAge s
  generalize channelStep d ch Channel.slotAge s = s1 at *
  obtain ⟨frame2, -, faults2, entry2⟩ :=
    channelStep_spec d ch (fun c => c.slotEnable ((s.deck d).params.cells.get ch)) s1
  have deck2 := channelStep_deck d ch (fun c => c.slotEnable ((s.deck d).params.cells.get ch)) s1
  have other2 := fun d' (h : d' ≠ d) =>
    channelStep_deck_of_ne h ch (fun c => c.slotEnable ((s.deck d).params.cells.get ch)) s1
  generalize channelStep d ch (fun c => c.slotEnable ((s.deck d).params.cells.get ch)) s1 = s2 at *
  obtain ⟨frame3, faults3, other3, deck3⟩ := restartUnless_spec d
    (((s.deck d).channels.get ch).inForce == (s.deck d).params.cells.get ch) s2
  generalize restartUnless d (((s.deck d).channels.get ch).inForce == (s.deck d).params.cells.get ch) s2
    = s3 at *
  obtain ⟨frame4, -, faults4, entry4⟩ := channelStep_spec d ch Channel.slotResignal s3
  have deck4 := channelStep_deck d ch Channel.slotResignal s3
  have other4 := fun d' (h : d' ≠ d) => channelStep_deck_of_ne h ch Channel.slotResignal s3
  have got1 : (s1.deck d).channels.get ch = ((s.deck d).channels.get ch).slotAge.1 := by
    rw [deck1, PerChan.get_set]
  have got2 : (s2.deck d).channels.get ch
      = (((s.deck d).channels.get ch).slotAge.1.slotEnable ((s.deck d).params.cells.get ch)).1 := by
    rw [deck2, PerChan.get_set, got1]
  have got3 : (s3.deck d).channels.get ch = (s2.deck d).channels.get ch := by rw [deck3]
  refine ⟨((frame1.trans frame2).trans frame3).trans frame4, ?_, fun d' h => ?_, fun k h => ?_, ?_⟩
  · rw [deck4, got3, got2, deck3, deck2, deck1]
    simp only [PerChan.set_set, DeckUnit.slotEndedAt, Channel.slotEnded]
  · rw [other4 d' h, other3 d' h, other2 d' h, other1 d' h]
  · rw [faults4 k h, faults3, faults2 k h, faults1 k h]
  · rw [entry4, faults3, entry2, entry1, got3, got2, got1]
    rfl

/-! ### All four channels -/

/-- What a slot end does to a deck's unit before a set is published. -/
def DeckUnit.slotEnded (u : DeckUnit) : DeckUnit :=
  let same : Bool := Chan.all.all fun ch => (u.channels.get ch).inForce == u.params.cells.get ch
  { u with
    channels := ⟨u.channels.c1.slotEnded (u.params.cells.get .c1), u.channels.c2.slotEnded (u.params.cells.get .c2),
      u.channels.c3.slotEnded (u.params.cells.get .c3), u.channels.c4.slotEnded (u.params.cells.get .c4)⟩
    wcu := bif same then u.wcu else u.wcu.restart
    capture := bif same then u.capture else u.capture.noset }

theorem noset_noset (c : Capture) : c.noset.noset = c.noset := by
  unfold Capture.noset
  split <;> simp_all

theorem slotEndedAt_all (u : DeckUnit) :
    (((u.slotEndedAt .c1).slotEndedAt .c2).slotEndedAt .c3).slotEndedAt .c4 = u.slotEnded := by
  simp only [DeckUnit.slotEndedAt, DeckUnit.slotEnded, PerChan.set, PerChan.get, Chan.all, List.all_cons,
    List.all_nil, Bool.and_true]
  generalize (u.channels.c1.inForce == u.params.cells.c1) = x1
  generalize (u.channels.c2.inForce == u.params.cells.c2) = x2
  generalize (u.channels.c3.inForce == u.params.cells.c3) = x3
  generalize (u.channels.c4.inForce == u.params.cells.c4) = x4
  cases x1 <;> cases x2 <;> cases x3 <;> cases x4 <;> simp [noset_noset, Wcu.restart]

theorem slotEnded_channel (u : DeckUnit) (ch : Chan) :
    u.slotEnded.channels.get ch = (u.channels.get ch).slotEnded (u.params.cells.get ch) := by
  cases ch <;> rfl

/-- The signals of a channel in the whole slot end: the other channels do not touch its entry. -/
theorem slotChannels_spec (d : Deck) (s : State) :
    SlotFrame s (slotChannels d s) ∧ (slotChannels d s).deck d = (s.deck d).slotEnded
      ∧ (∀ d', d' ≠ d → (slotChannels d s).deck d' = s.deck d')
      ∧ ∀ ch, ((slotChannels d s).faults.get (.cell d ch)).state
          = (((s.deck d).channels.get ch).slotSignals ((s.deck d).params.cells.get ch)).foldl
              EntryState.after (s.faults.get (.cell d ch)).state := by
  have ne {x y : Chan} (h : x ≠ y) : FaultSource.cell d x ≠ .cell d y := by simpa using h
  obtain ⟨frame1, deck1, other1, faults1, entry1⟩ := slotChannel_spec d .c1 s
  obtain ⟨frame2, deck2, other2, faults2, entry2⟩ := slotChannel_spec d .c2 (slotChannel d s .c1)
  obtain ⟨frame3, deck3, other3, faults3, entry3⟩ :=
    slotChannel_spec d .c3 (slotChannel d (slotChannel d s .c1) .c2)
  obtain ⟨frame4, deck4, other4, faults4, entry4⟩ :=
    slotChannel_spec d .c4 (slotChannel d (slotChannel d (slotChannel d s .c1) .c2) .c3)
  refine ⟨((frame1.trans frame2).trans frame3).trans frame4, ?_, fun d' h => ?_, fun ch => ?_⟩
  · rw [← slotEndedAt_all, ← deck1, ← deck2, ← deck3, ← deck4]
    rfl
  · exact (other4 d' h).trans ((other3 d' h).trans ((other2 d' h).trans (other1 d' h)))
  · change (((slotChannel d (slotChannel d (slotChannel d (slotChannel d s .c1) .c2) .c3) .c4).faults).get
      (.cell d ch)).state = _
    cases ch with
    | c1 =>
      rw [faults4 _ (ne (by decide)), faults3 _ (ne (by decide)), faults2 _ (ne (by decide)), entry1]
    | c2 =>
      rw [faults4 _ (ne (by decide)), faults3 _ (ne (by decide)), entry2, faults1 _ (ne (by decide)), deck1]
      rfl
    | c3 =>
      rw [faults4 _ (ne (by decide)), entry3, faults2 _ (ne (by decide)), faults1 _ (ne (by decide)), deck2,
        deck1]
      rfl
    | c4 =>
      rw [entry4, faults3 _ (ne (by decide)), faults2 _ (ne (by decide)), faults1 _ (ne (by decide)), deck3,
        deck2, deck1]
      rfl

/-- The whole slot end: the channels age, and a complete set is published (R4 to R9). -/
theorem exec_slotEnd_spec (d : Deck) (s : State) : ∃ t, exec (.slotEnd d) s = .next t ∧ SlotFrame s t
    ∧ (∀ ch, (t.faults.get (.cell d ch)).state
        = (((s.deck d).channels.get ch).slotSignals ((s.deck d).params.cells.get ch)).foldl
            EntryState.after (s.faults.get (.cell d ch)).state)
    ∧ ((s.deck d).slotEnded.setComplete = false → t.deck d = (s.deck d).slotEnded)
    ∧ ((s.deck d).slotEnded.setComplete = true →
        (t.deck d).channels = (s.deck d).slotEnded.clearDelivered.channels
          ∧ ∃ z, (t.deck d).wcu = { (s.deck d).slotEnded.publish with zero := z }) := by
  obtain ⟨frame, deck, -, entry⟩ := slotChannels_spec d s
  have run : exec (.slotEnd d) s = execSlotEnd d s := rfl
  rw [run]
  unfold execSlotEnd
  dsimp only
  rw [deck]
  cases complete : (s.deck d).slotEnded.setComplete with
  | false => exact ⟨_, rfl, frame, entry, fun _ => deck, fun h => (by cases h)⟩
  | true =>
    obtain ⟨b, r, published, -⟩ := publishSet_spec d (slotChannels d s)
    have faults : (publishSet d (slotChannels d s)).faults = (slotChannels d s).faults := by
      rw [published]
      rfl
    obtain ⟨state, -, unit, -⟩ := frame_of_modDeck_reports published
    rw [deck] at unit
    refine ⟨_, rfl, frame.trans ?_, ?_, fun h => (by cases h), fun _ => ?_⟩
    · unfold SlotFrame
      rw [faults]
      exact state
    · rw [faults]
      exact entry
    · rw [unit]
      exact ⟨rfl, _, rfl⟩

/-! ### The channels of a slot end, one by one -/

/-- R4: what ageing leaves, and the age it gives. -/
theorem slotAge_keeps (c : Channel) : c.slotAge.1.count = c.count ∧ c.slotAge.1.saturated = c.saturated
    ∧ c.slotAge.1.inForce = c.inForce ∧ c.slotAge.1.delivered = c.delivered
    ∧ c.slotAge.1.age = (if c.inForce then if c.inSlot then c.age else min 255 (c.age + 1) else c.age) := by
  unfold Channel.slotAge
  dsimp only
  split_ifs <;> simp_all

theorem slotEnded_of_same {en : Bool} (h : c.inForce = en) :
    c.slotEnded en = { c.slotAge.1 with resignal := false } := by
  have kept : c.slotAge.1.inForce = en := (slotAge_keeps c).2.2.1.trans h
  simp [Channel.slotEnded, Channel.slotEnable, Channel.slotResignal, kept]

/-- R5: a changed setting takes effect, whatever the channel was. -/
theorem slotEnded_of_changed {en : Bool} (h : c.inForce ≠ en) : c.slotEnded en =
    { c.slotAge.1 with inForce := en, age := 0, delivered := false, inSlot := false, goodRun := 0
                       condition := false, resignal := false } := by
  have kept : c.slotAge.1.inForce ≠ en := (slotAge_keeps c).2.2.1.symm ▸ h
  simp [Channel.slotEnded, Channel.slotEnable, Channel.slotResignal, kept]

/-- Each channel after the slot end: its own part, and its delivered mark cleared by a completed set. -/
theorem slotEnd_channel {t : State} (ran : exec (.slotEnd d) s = .next t) (ch : Chan) :
    (t.deck d).channels.get ch =
      { ((s.deck d).channels.get ch).slotEnded ((s.deck d).params.cells.get ch) with
        delivered := !(s.deck d).slotEnded.setComplete
          && (((s.deck d).channels.get ch).slotEnded ((s.deck d).params.cells.get ch)).delivered } := by
  obtain ⟨t', run, -, -, waiting, completed⟩ := exec_slotEnd_spec d s
  rw [run] at ran
  cases ran
  cases complete : (s.deck d).slotEnded.setComplete with
  | false => rw [waiting complete, slotEnded_channel]; rfl
  | true =>
    rw [(completed complete).1]
    cases ch <;> rfl

/-- The channel that ages at this slot end (R4). -/
theorem slotAge_aging (on : c.inForce = true) (none : c.inSlot = false) :
    c.slotAge = if c.condition = true then ({ c with age := min 255 (c.age + 1), goodRun := 0 }, .quiet)
      else if c.age = 3 then ({ c with age := 4, goodRun := 0, condition := true }, .arises)
      else ({ c with age := min 255 (c.age + 1) }, .quiet) := by
  have four : min 255 (c.age + 1) = 4 ↔ c.age = 3 := by omega
  unfold Channel.slotAge
  simp only [on, none, four]
  by_cases three : c.age = 3
  · simp [three]
  · simp [three]

theorem slotEndAges_part (ran : exec (.slotEnd d) s = .next t)
    (on : ((s.deck d).channels.get ch).inForce = true) (set : (s.deck d).params.cells.get ch = true)
    (none : ((s.deck d).channels.get ch).inSlot = false)
    (signalled : ((s.deck d).channels.get ch).resignal = false) :
    let c := (s.deck d).channels.get ch
    ((t.deck d).channels.get ch).age = min 255 (c.age + 1)
      ∧ ((t.deck d).channels.get ch).count = c.count
      ∧ (((t.deck d).channels.get ch).condition = true ↔ c.condition = true ∨ c.age = 3)
      ∧ (c.condition = true → ((t.deck d).channels.get ch).goodRun = 0)
      ∧ (c.condition = false → c.age = 3 → (s.faults.get (.cell d ch)).state ≠ .active →
          (t.faults.get (.cell d ch)).state = .active)
      ∧ t = { s with decks := t.decks, reports := t.reports, faults := t.faults } := by
  have channel := slotEnd_channel ran ch
  obtain ⟨t', run, frame, entry, -⟩ := exec_slotEnd_spec d s
  rw [run] at ran
  cases ran
  replace entry := entry ch
  rw [set] at channel entry
  rw [slotEnded_of_same on] at channel
  generalize (s.deck d).channels.get ch = c at *
  have aged := slotAge_aging on none
  refine ⟨?_, ?_, ?_, fun present => ?_, fun absent three _ => ?_, frame⟩
  · rw [channel, aged]
    dsimp only
    split_ifs with present three
    · rfl
    · rw [three]; rfl
    · rfl
  · rw [channel, aged]
    dsimp only
    split_ifs <;> rfl
  · rw [channel, aged]
    dsimp only
    split_ifs with present three
    · simp [present]
    · simp [three]
    · simp [present, three]
  · rw [channel, aged, if_pos present]
  · have arises : c.slotAge = ({ c with age := 4, goodRun := 0, condition := true }, .arises) := by
      rw [aged, if_neg (by simp [absent]), if_pos three]
    rw [entry]
    simp [Channel.slotSignals, arises, Channel.slotEnable, Channel.slotResignal, on, signalled,
      EntryState.after]

/-! ### The deck at a slot end -/

/-- The age a channel has when the completeness of the set is judged (R4). -/
def Channel.agedTo (c : Channel) : Nat := if c.inSlot then c.age else min 255 (c.age + 1)

theorem slotAge_age (on : c.inForce = true) : c.slotAge.1.age = c.agedTo := by
  obtain ⟨-, -, -, -, age⟩ := slotAge_keeps c
  rw [age, if_pos on]
  rfl

/-- A channel whose setting stays is ready as it delivered or became absent (R6). -/
theorem slotEnded_ready_iff {en : Bool} (h : c.inForce = en) :
    ((c.slotEnded en).inForce = true → (c.slotEnded en).delivered = true ∨ 4 ≤ (c.slotEnded en).age)
      ↔ (en = true → c.delivered = true ∨ 4 ≤ c.agedTo) := by
  obtain ⟨-, -, inForce, delivered, -⟩ := slotAge_keeps c
  rw [slotEnded_of_same h]
  dsimp only
  rw [inForce, delivered, h]
  exact imp_congr_right fun on => by rw [slotAge_age (h.trans on)]

theorem contribution_slotEnded (h : (u.channels.get ch).inForce = u.params.cells.get ch) :
    u.slotEnded.contribution ch = if u.params.cells.get ch then
      rna ((u.channels.get ch).count * u.params.trims.get ch) 16384 else 0 := by
  obtain ⟨count, -, inForce, -⟩ := slotAge_keeps (u.channels.get ch)
  unfold DeckUnit.contribution
  rw [slotEnded_channel, slotEnded_of_same h]
  dsimp only
  rw [count, inForce, h]
  rfl

theorem slotEnd_latest {t : State} (ran : exec (.slotEnd d) s = .next t)
    (complete : (s.deck d).slotEnded.setComplete = true) :
    (t.deck d).wcu.latest = some (s.deck d).slotEnded.published
      ∧ (t.deck d).wcu.filterWin = windowPush (s.deck d).slotEnded.wcu.filterLen
          (s.deck d).slotEnded.wcu.filterWin (s.deck d).slotEnded.sum
      ∧ (t.deck d).wcu.stabWin = windowPush (s.deck d).slotEnded.wcu.stabLen
          (s.deck d).slotEnded.wcu.stabWin (s.deck d).slotEnded.published.w := by
  obtain ⟨t', run, -, -, -, completed⟩ := exec_slotEnd_spec d s
  rw [run] at ran
  cases ran
  obtain ⟨-, z, wcu⟩ := completed complete
  rw [wcu, publish_eq]
  exact ⟨rfl, rfl, rfl⟩

section Settled
variable (same : ∀ ch, (u.channels.get ch).inForce = u.params.cells.get ch)
include same

theorem slotEnded_blocks : u.slotEnded.wcu = u.wcu ∧ u.slotEnded.capture = u.capture := by
  have all : (Chan.all.all fun ch => (u.channels.get ch).inForce == u.params.cells.get ch) = true := by
    simp [same]
  simp only [DeckUnit.slotEnded, all]
  exact ⟨rfl, rfl⟩

theorem slotEnded_complete_iff : u.slotEnded.setComplete = true ↔
    ∀ ch, u.params.cells.get ch = true →
      (u.channels.get ch).delivered = true ∨ 4 ≤ (u.channels.get ch).agedTo := by
  rw [setComplete_iff]
  refine forall_congr' fun ch => ?_
  rw [slotEnded_channel]
  exact slotEnded_ready_iff (same ch)

theorem slotEnded_invalid_iff : u.slotEnded.published.invalid = true ↔
    ∃ ch, u.params.cells.get ch = true ∧ ((u.channels.get ch).saturated = true ∨ 4 ≤ (u.channels.get ch).agedTo) := by
  refine (setInvalid_iff u.slotEnded).trans (exists_congr fun ch => ?_)
  obtain ⟨-, saturated, inForce, -⟩ := slotAge_keeps (u.channels.get ch)
  rw [slotEnded_channel, slotEnded_of_same (same ch)]
  dsimp only
  rw [saturated, inForce, same ch]
  exact and_congr_right fun on => by rw [slotAge_age ((same ch).trans on)]

end Settled

/-- A setting that has changed leaves the windows restarted before any set is published (R5). -/
theorem slotEnded_wcu_of_changed (h : (u.channels.get ch).inForce ≠ u.params.cells.get ch) :
    u.slotEnded.wcu = u.wcu.restart := by
  have some : (Chan.all.all fun ch => (u.channels.get ch).inForce == u.params.cells.get ch) = false := by
    rw [List.all_eq_false]
    exact ⟨ch, by cases ch <;> decide, by simpa using h⟩
  simp only [DeckUnit.slotEnded, some]
  rfl

/-- A channel just enabled has not delivered, so that no set completes (R5, R6). -/
theorem slotEnded_incomplete_of_enabled (off : (u.channels.get ch).inForce = false)
    (h : (u.channels.get ch).inForce ≠ u.params.cells.get ch) : u.slotEnded.setComplete = false := by
  have set : u.params.cells.get ch = true := by
    rw [off] at h
    simpa using h.symm
  by_contra complete
  have ready := (setComplete_iff _).mp (by simpa using complete) ch
  rw [slotEnded_channel, slotEnded_of_changed h] at ready
  simp [set] at ready

/-- A channel just disabled leaves the set to the others (R5, R6). -/
theorem slotEnded_complete_of_disabled
    (ready : ∀ k, u.params.cells.get k = true → (u.channels.get k).inForce = true
      ∧ ((u.channels.get k).delivered = true ∨ 4 ≤ (u.channels.get k).agedTo)) :
    u.slotEnded.setComplete = true := by
  rw [setComplete_iff]
  intro k
  rw [slotEnded_channel]
  cases set : u.params.cells.get k with
  | true =>
    obtain ⟨on, done⟩ := ready k set
    exact (slotEnded_ready_iff on).mpr fun _ => done
  | false =>
    by_cases off : (u.channels.get k).inForce = false
    · exact (slotEnded_ready_iff off).mpr fun h => by cases h
    · rw [slotEnded_of_changed off]
      exact fun h => by cases h

/-- Settles O6. -/
theorem slotEndAgesChannel : Obligations.SlotEndAgesChannel := by
  refine ⟨fun d ch s t on set none signalled ran => slotEndAges_part ran on set none signalled, ?waiting,
    ?changed⟩
  case waiting =>
    intro d s u aged ready part settings
    have same : ∀ ch, (u.channels.get ch).inForce = u.params.cells.get ch := fun ch => (settings ch).1
    obtain ⟨t, ran, -, -, waiting, -⟩ := exec_slotEnd_spec d s
    have complete := slotEnded_complete_iff same
    refine ⟨t, ran, fun ch => ?_, fun ⟨ch, set, unready⟩ => ?_, fun allReady => ⟨fun ch => ?_, ?_⟩⟩
    · obtain ⟨count, saturated, inForce, -, age⟩ := slotAge_keeps (u.channels.get ch)
      dsimp only
      rw [slotEnd_channel ran ch]
      change (Channel.slotEnded (u.channels.get ch) (u.params.cells.get ch)).inForce = _ ∧
        (Channel.slotEnded (u.channels.get ch) (u.params.cells.get ch)).count = _ ∧
        (Channel.slotEnded (u.channels.get ch) (u.params.cells.get ch)).saturated = _ ∧
        (Channel.slotEnded (u.channels.get ch) (u.params.cells.get ch)).age = _
      rw [slotEnded_of_same (same ch)]
      exact ⟨inForce, count, saturated, age⟩
    · have incomplete : u.slotEnded.setComplete = false := by
        by_contra h
        exact unready (complete.mp (by simpa using h) ch set)
      have unit := waiting incomplete
      obtain ⟨wcu, capture⟩ := slotEnded_blocks same
      rw [unit]
      refine ⟨wcu, capture, rfl, fun k => ?_⟩
      change (u.slotEnded.channels.get k).delivered = _
      rw [slotEnded_channel, slotEnded_of_same (same k)]
      exact (slotAge_keeps _).2.2.2.1
    · rw [slotEnd_channel ran ch, complete.mpr allReady]
      rfl
    · obtain ⟨latest, -⟩ := slotEnd_latest ran (complete.mpr allReady)
      refine ⟨_, latest, ?_, slotEnded_invalid_iff same⟩
      exact DeckUnit.sum_eq _ part fun ch => contribution_slotEnded (same ch)
  case changed =>
    intro d ch s u c changed
    obtain ⟨t, ran, -, entry, waiting, -⟩ := exec_slotEnd_spec d s
    refine ⟨t, ran, ?_, fun on present active => ?_, fun filterLen stabLen =>
      ⟨fun off => ?_, fun on others => ?_⟩⟩
    · obtain ⟨count, saturated, -⟩ := slotAge_keeps c
      dsimp only
      rw [slotEnd_channel ran ch]
      change (Channel.slotEnded c (u.params.cells.get ch)).inForce = _
        ∧ (Channel.slotEnded c (u.params.cells.get ch)).age = _
        ∧ (Channel.slotEnded c (u.params.cells.get ch)).goodRun = _
        ∧ (Channel.slotEnded c (u.params.cells.get ch)).condition = _
        ∧ (!u.slotEnded.setComplete && (Channel.slotEnded c (u.params.cells.get ch)).delivered) = _
        ∧ (Channel.slotEnded c (u.params.cells.get ch)).count = _
        ∧ (Channel.slotEnded c (u.params.cells.get ch)).saturated = _
      rw [slotEnded_of_changed changed]
      exact ⟨rfl, rfl, rfl, rfl, Bool.and_false _, count, saturated⟩
    · have aged : c.slotAge.2 = .quiet ∧ c.slotAge.1.condition = true ∧ c.slotAge.1.inForce = true := by
        unfold Channel.slotAge
        simp only [on, present]
        split_ifs <;> simp_all
      obtain ⟨quiet, still, inForce⟩ := aged
      have off : u.params.cells.get ch = false := by simpa [on] using changed
      rw [entry ch, active]
      change (c.slotSignals (u.params.cells.get ch)).foldl EntryState.after .active = _
      simp [Channel.slotSignals, quiet, still, inForce, off, Channel.slotEnable, Channel.slotResignal,
        EntryState.after]
    · rw [waiting (slotEnded_incomplete_of_enabled off changed)]
      change u.slotEnded.wcu.latest = none ∧ u.slotEnded.wcu.filterWin = [] ∧ u.slotEnded.wcu.stabWin = []
      rw [slotEnded_wcu_of_changed changed]
      exact ⟨rfl, rfl, rfl⟩
    · obtain ⟨latest, filterWin, stabWin⟩ := slotEnd_latest ran (slotEnded_complete_of_disabled others)
      have restarted : u.slotEnded.wcu = u.wcu.restart := slotEnded_wcu_of_changed changed
      rw [show (s.deck d).slotEnded.wcu = u.wcu.restart from restarted] at filterWin stabWin
      exact ⟨_, latest, filterWin.trans (windowPush_nil filterLen _), stabWin.trans (windowPush_nil stabLen _)⟩

end Sys2Proof.Machine
end

section
/-! PROOFS. Capture: the grant test's table, the grants and the chapter's other commands (R28 to R36,
R42). -/

namespace Sys2Proof.Machine

-- One declaration after another: at once they ask for more threads than the check's limits allow.
set_option Elab.async false

variable {s : State} {d : Deck} {p : Published}

/-! ### The grant test (R29 to R33) -/

/-- The first word of a list of failures, from its head. -/
theorem find_cons_word (b : Bool) (w : BlockWord) (l : List (Bool × BlockWord)) :
    (((b, w) :: l).find? (·.1)).map (·.2) = if b = true then some w else (l.find? (·.1)).map (·.2) := by
  cases b <;> rfl

theorem lastValue_eq (c : Capture) : c.lastValue = ((c.stages.getLast?).map (·.value)).getD 0 := by
  unfold Capture.lastValue
  cases c.stages.getLast? <;> rfl

theorem total_eq (c : Capture) : c.total = (c.stages.map (·.value)).sum := by
  rw [Capture.total, List.sum_eq_foldl]

theorem bothDown_iff : s.bothDown d = true ↔
    (s.driver (d.endAt .one)).state = .down ∧ (s.driver (d.endAt .two)).state = .down := by
  simp [State.bothDown, State.barrierDown]

/-- R29: the conditions in their order, the first that fails giving the word. -/
theorem blockingOf_eq (s : State) (d : Deck) (p : Published) :
    let u := s.deck d
    let c := u.capture
    let e : Int := u.params.interval
    blockingOf s d p =
      (if s.oos d = true then some .oos
       else if (s.driver (d.endAt .one)).state ≠ .down ∨ (s.driver (d.endAt .two)).state ≠ .down
         then some .barrier
       else if p.invalid = true then some .invalid
       else if p.overload = true then some .overload
       else if p.underload = true then some .underload
       else if p.stable = false then some .unstable
       else if p.disp < 20 * e then some .light
       else if (u.params.max : Int) < p.disp then some .heavy
       else if 2 ≤ c.stage ∧ c.motion = false then some .motion
       else if 2 ≤ c.stage ∧
           ((p.disp - ((c.stages.getLast?).map (·.value)).getD 0).natAbs : Int) < 10 * e
         then some .diff
       else if c.stageCount ≤ c.stage ∧ (u.lines.beam1 = true ∨ u.lines.beam2 = true)
         then some .beam
       else if c.stageCount ≤ c.stage ∧ 2 ≤ c.stage ∧
           3 * (u.params.max : Int) < (c.stages.map (·.value)).sum + p.disp
         then some .total
       else none) := by
  have barrier : (!s.bothDown d) = true ↔
      (s.driver (d.endAt .one)).state ≠ .down ∨ (s.driver (d.endAt .two)).state ≠ .down := by
    rw [Bool.not_eq_true', ← Bool.not_eq_true, bothDown_iff, not_and_or]
  dsimp only
  simp only [blockingOf, grantFailures, find_cons_word, barrier, Capture.final, lastValue_eq, total_eq,
    Bool.and_eq_true, Bool.or_eq_true, Bool.not_eq_true', decide_eq_true_eq, and_assoc]
  rfl

/-- R29: no word exactly when every condition holds. -/
theorem blockingOf_eq_none_iff : blockingOf s d p = none ↔
    ∀ f ∈ grantFailures s d p, f.1 = false := by
  simp [blockingOf]

/-- R29: a grant exactly when every condition that applies holds. -/
theorem granted_iff (s : State) (d : Deck) (p : Published) :
    let u := s.deck d
    let c := u.capture
    let e : Int := u.params.interval
    blockingOf s d p = none ↔
      s.oos d = false
        ∧ (s.driver (d.endAt .one)).state = .down ∧ (s.driver (d.endAt .two)).state = .down
        ∧ p.invalid = false ∧ p.overload = false ∧ p.underload = false ∧ p.stable = true
        ∧ 20 * e ≤ p.disp ∧ p.disp ≤ u.params.max
        ∧ (2 ≤ c.stage → c.motion = true)
        ∧ (2 ≤ c.stage → 10 * e ≤ (p.disp - c.lastValue).natAbs)
        ∧ (c.final = true → u.lines.beam1 = false ∧ u.lines.beam2 = false)
        ∧ (c.final = true → 2 ≤ c.stage → c.total + p.disp ≤ 3 * u.params.max) := by
  dsimp only
  rw [blockingOf_eq_none_iff]
  simp only [grantFailures, List.forall_mem_cons, Bool.not_eq_false', bothDown_iff, Bool.and_eq_false_imp,
    decide_eq_true_eq, decide_eq_false_iff_not, not_lt, and_assoc, Bool.or_eq_false_iff, Bool.and_eq_true,
    and_imp, List.not_mem_nil, false_imp_iff, implies_true, and_true]

/-! ### The grants (R31, R36) -/

section Grants
variable {v : Int} {r : CaptureRequest}

theorem exec_captureGrant_none (h : (s.deck d).capture.grantDue = none) :
    exec (.captureGrant d) s = .next s := by
  change execCaptureGrant d s = _
  unfold execCaptureGrant
  simp only [h]

theorem exec_captureGrant_due (due : (s.deck d).capture.grantDue = some v)
    (asked : (s.deck d).capture.request = some r) (waits : (s.deck d).capture.state = .waiting) :
    exec (.captureGrant d) s = .next
      (if (s.deck d).capture.stage < (s.deck d).capture.stageCount then stageGrant d r v s
       else lastCapture d r v s) := by
  change execCaptureGrant d s = _
  unfold execCaptureGrant Capture.final
  simp only [due, asked, if_pos waits, decide_eq_true_eq]
  split_ifs with final more more
  · exact absurd more final.not_gt
  · rfl
  · rfl
  · exact absurd (not_lt.mp more) final

/-- R36: the sequencer commits and the last record is requested. -/
theorem lastCapture_eq (d : Deck) (r : CaptureRequest) (v : Int) (s : State) :
    let c := (s.deck d).capture
    lastCapture d r v s =
      if c.stageCount = 1 then
        journalRequest (.capture d) (some d) (.weigh v r.role r.tag r.visit [])
          (s.modDeck d fun u => { u with
            seq := { u.seq with state := .committing, weighTimer := .stopped }
            capture := u.capture.toWeighWrite v })
      else
        journalRequest (.capture d) (some d) (.stage v c.stage r.tag r.visit)
          (s.modDeck d fun u => { u with
            seq := { u.seq with state := .committing, weighTimer := .stopped }
            capture :=
              { c.toWeighWrite (c.total + v) with stages := c.stages ++ [{ value := v, seq := none }] } }) := by
  unfold lastCapture
  dsimp only
  rw [State.modSeq, State.modCapture, State.modCapture, State.modDeck_modDeck, State.modDeck_modDeck]
  cases d <;> rfl

end Grants

/-- Settles O8. -/
theorem captureGrantsFollowTheTable : Obligations.CaptureGrantsFollowTheTable := by
  refine ⟨fun s d p => ⟨granted_iff s d p, fun oos => ?_, fun ok up => ?_, blockingOf_eq s d p⟩,
    fun d s => ⟨exec_captureGrant_none, fun v r due asked waits => ?_⟩⟩
  · rw [blockingOf_eq, if_pos oos]
  · rw [blockingOf, grantFailures, find_cons_word, find_cons_word, ok, up]
    rfl
  · have granted := exec_captureGrant_due due asked waits
    by_cases more : (s.deck d).capture.stage < (s.deck d).capture.stageCount
    · rw [if_pos more, granted, if_pos more]
      cases d <;> rfl
    · rw [if_neg more, granted, if_neg more, lastCapture_eq]
      by_cases single : (s.deck d).capture.stageCount = 1
      · rw [if_pos single]
        refine (congrArg Host.Outcome.next (if_pos single)).trans ?_
        cases d <;> rfl
      · rw [if_neg single]
        refine (congrArg Host.Outcome.next (if_neg single)).trans ?_
        cases d <;> rfl

/-! ### The chapter's other commands (R28, R30, R35, R42) -/

/-- Settles O9. -/
theorem captureCommandsAct : Obligations.CaptureCommandsAct := by
  intro d n b s u c put beam
  refine ⟨?flash, ?beams, fun run => laneWrite_of_run run,
    fun setup => ⟨laneWrite_of_setup setup, laneWrite_of_setup setup⟩, rfl, rfl, fun idle => ?idle,
    fun busy => ?busy⟩
  case flash =>
    change execLampFlashToggle d s = _
    unfold execLampFlashToggle
    split <;> rfl
  case beams => cases n <;> rfl
  case idle =>
    change execDeckCaptureQuery d s = _
    exact if_pos idle
  case busy =>
    change execDeckCaptureQuery d s = _
    exact if_neg busy

end Sys2Proof.Machine
end

section
/-! PROOFS. Calibration: the switch, access, the writes, the lock and the queries (R44 to R57). -/

namespace Sys2Proof.Machine

-- One declaration after another: at once they ask for more threads than the check's limits allow.
set_option Elab.async false

variable {s : State} {d : Deck}

/-! ### The switch (R44, R52, R54) -/

theorem not_anyChanged_iff {m : Metro} :
    m.anyChanged = true ↔ ¬ (m.changed.a.names = [] ∧ m.changed.b.names = []) := by
  simp only [Metro.anyChanged, Bool.or_eq_true, Bool.not_eq_true', List.isEmpty_eq_false_iff]
  tauto

/-- R54: what a switch off event leaves. -/
theorem switchOffEvent_eq (s : State) : switchOffEvent s =
    if s.metro.changed.a.names = [] ∧ s.metro.changed.b.names = [] then
      offer .calOff .none [nat s.metro.count, "UNCHANGED"]
        (restartBoth (s.modMetro fun m => { m with switchOn := false }))
    else
      offer .calOff .none [nat (min 65535 (s.metro.count + 1)), "CHANGED"]
        (formCalib { cause := .switch, names := ⟨s.metro.changed.a.names, s.metro.changed.b.names⟩ }
          ((restartBoth (s.modMetro fun m => { m with switchOn := false })).modMetro fun m =>
            { m with count := min 65535 (s.metro.count + 1), changed := ⟨.none, .none⟩ })) := by
  unfold switchOffEvent
  dsimp only
  by_cases same : s.metro.changed.a.names = [] ∧ s.metro.changed.b.names = []
  · rw [if_neg (mt not_anyChanged_iff.mp (not_not.mpr same)), if_pos same]
  · rw [if_pos (not_anyChanged_iff.mpr same), if_neg same]

theorem exec_calSwitchOn : exec .calSwitchOn s =
    if s.metro.compareDue = true ∨ s.metro.switchOn = true then .next s else .next (switchOnEvent s) := rfl

theorem exec_calSwitchOff : exec .calSwitchOff s =
    if s.metro.compareDue = true ∨ s.metro.switchOn = false then .next s
    else .next (switchOffEvent s) := rfl

/-- R55: a record formed. -/
theorem formCalib_spec (c : CalibBody) (s : State) :
    (s.metro.inProgress = none → formCalib c s =
        journalRequest .metrology none (.calib c) (s.modMetro fun m => { m with inProgress := some c }))
      ∧ (s.metro.inProgress ≠ none → s.metro.waiting = none →
          formCalib c s = s.modMetro fun m => { m with waiting := some c })
      ∧ ∀ w, s.metro.inProgress ≠ none → s.metro.waiting = some w →
          formCalib c s = s.modMetro fun m => { m with waiting := some (w.merge c) } := by
  unfold formCalib
  rcases progress : s.metro.inProgress with _ | p
  · exact ⟨fun _ => rfl, fun h => absurd rfl h, fun _ h => absurd rfl h⟩
  · rcases waiting : s.metro.waiting with _ | w
    · exact ⟨fun h => (by cases h), fun _ _ => rfl, fun _ _ h => (by cases h)⟩
    · exact ⟨fun h => (by cases h), fun _ h => (by cases h), fun _ _ h => (by cases h; rfl)⟩

/-- The metrology block once the comparison is made. -/
theorem metro_compared {m : Metro} (h : m.compareDue = false) : m = { m with compareDue := false } := by
  cases m
  cases h
  rfl

/-- Settles O10. -/
theorem calSwitchEvents : Obligations.CalSwitchEvents := by
  intro s m on names off
  have done (h : m.compareDue = false) : s = { s with metro := { m with compareDue := false } } :=
    congrArg (fun x => { s with metro := x }) (metro_compared h)
  have goesOff : off (switchOffEvent { s with metro := { m with compareDue := false } }) := by
    rw [switchOffEvent_eq]
    change if names m.changed.a = [] ∧ names m.changed.b = [] then _ else _
    by_cases same : names m.changed.a = [] ∧ names m.changed.b = []
    · rw [if_pos same]
      exact if_pos same
    · rw [if_neg same]
      exact if_neg same
  refine ⟨fun made isOff => ?_, fun made isOn => ⟨?_, _, ?_, goesOff⟩, fun made isOff => ?_,
    fun made b => ?_, fun due => ⟨?_, ?_, fun isOff => ?_, fun isOn => ?_⟩, fun c => ?_⟩
  · rw [exec_calSwitchOn, if_neg (by simp [show s.metro.compareDue = false from made,
      show s.metro.switchOn = false from isOff]), done made]
    rfl
  · exact if_pos (.inr isOn)
  · rw [exec_calSwitchOff, if_neg (by simp [show s.metro.compareDue = false from made,
      show s.metro.switchOn = true from isOn]), ← done made]
  · exact if_pos (.inr isOff)
  · change execCalPowerUpCompare b s = _
    rw [execCalPowerUpCompare, show s.metro.compareDue = false from made]
    rfl
  · exact if_pos (.inl due)
  · exact if_pos (.inl due)
  · have compared (b : Bool) : exec (.calPowerUpCompare b) s = execCalPowerUpCompare b s := rfl
    simp only [compared, execCalPowerUpCompare, show s.metro.compareDue = true from due,
      show s.metro.switchOn = false from isOff]
    exact ⟨rfl, rfl⟩
  · have compared (b : Bool) : exec (.calPowerUpCompare b) s = execCalPowerUpCompare b s := rfl
    simp only [compared, execCalPowerUpCompare, show s.metro.compareDue = true from due,
      show s.metro.switchOn = true from isOn]
    exact ⟨rfl, _, rfl, goesOff⟩
  · exact formCalib_spec c s

/-! ### Access (R46) -/

theorem calAccess_locked {k : Result State} (off : s.metro.switchOn = false) (set : s.metro.lock = true) :
    calAccess s k = refuse .locked s := by
  simp [calAccess, off, set]

theorem calAccess_run {k : Result State} (off : s.metro.switchOn = false) (clear : s.metro.lock = false)
    (run : s.part.run = true) : calAccess s k = refuse .state s := by
  simp [calAccess, off, clear, run]

theorem calAccess_given {k : Result State}
    (h : s.metro.switchOn = true ∨ (s.metro.lock = false ∧ s.part.run = false)) : calAccess s k = k := by
  rcases h with on | ⟨clear, setup⟩
  · simp [calAccess, on]
  · simp [calAccess, clear, setup]

/-- Settles O11. -/
theorem calibrationAccessIsJudgedFirst : Obligations.CalibrationAccessIsJudgedFirst := by
  intro d s a b c f g h l all
  constructor
  · intro off set
    exact ⟨calAccess_locked off set, calAccess_locked off set, calAccess_locked off set,
      calAccess_locked off set, calAccess_locked off set, calAccess_locked off set,
      calAccess_locked off set, calAccess_locked off set⟩
  · intro off clear run
    exact ⟨calAccess_run off clear run, calAccess_run off clear run, calAccess_run off clear run,
      calAccess_run off clear run, calAccess_run off clear run, calAccess_run off clear run,
      calAccess_run off clear run, calAccess_run off clear run⟩

/-! ### The writes (R46 to R51, R53) -/

/-- The deck with the parameters, windows and capture logic given, the parameter's changed flag marked
with the switch on (R53). -/
def calWritten (d : Deck) (n : ParamName) (p : Params) (w : Wcu) (c : Capture) (s : State) : State :=
  let flags := (s.metro.changed.get d).put n (p.differs (s.metro.snapshot.get d) n)
  let marked : Metro := { s.metro with changed := s.metro.changed.set d flags }
  { s with
    decks := s.decks.set d { s.deck d with params := p, wcu := w, capture := c }
    metro := if s.metro.switchOn then marked else s.metro }

/-- A parameter written and the deck's unit changed after it. -/
theorem putParam_modDeck {n : ParamName} {f : Params → Params} {g : DeckUnit → DeckUnit} {w : Wcu}
    {c : Capture} (h : g { s.deck d with params := f (s.deck d).params }
      = { s.deck d with params := f (s.deck d).params, wcu := w, capture := c }) :
    (putParam d n f s).modDeck d g = calWritten d n (f (s.deck d).params) w c s := by
  unfold putParam calWritten
  rcases on : s.metro.switchOn <;> cases d <;> rw [← h] <;> rfl

theorem putParam_eq {n : ParamName} {f : Params → Params} : putParam d n f s =
    calWritten d n (f (s.deck d).params) (s.deck d).wcu (s.deck d).capture s := by
  rw [← putParam_modDeck (g := id) rfl]
  cases d <;> rfl

/-- A parameter written, Z set to Z0 and the stability window emptied (R49 to R51). -/
theorem emptyStability_putParam {n : ParamName} {f : Params → Params} :
    emptyStability d (zeroToCal d (putParam d n f s)) =
      calWritten d n (f (s.deck d).params)
        { (s.deck d).wcu with
          zero := (f (s.deck d).params).z0, stabWin := []
          latest := (s.deck d).wcu.latest.map fun q => { q with stable := false } }
        (s.deck d).capture s := by
  rw [emptyStability, zeroToCal, State.modWcu, State.modDeck_modDeck]
  exact putParam_modDeck rfl

/-- A parameter written, Z set to Z0 and the windows restarted (R48). -/
theorem restartWindows_putParam {n : ParamName} {f : Params → Params} :
    restartWindows d (zeroToCal d (putParam d n f s)) =
      calWritten d n (f (s.deck d).params)
        { (s.deck d).wcu with
          zero := (f (s.deck d).params).z0, filterWin := [], stabWin := [], latest := none }
        (let c := (s.deck d).capture
         if c.state = .waiting ∧ c.orphan = false ∧ c.grantDue = none ∧ c.blocking ≠ some .next then
          { c with blocking := some .noset }
         else c) s := by
  rw [restartWindows_eq, zeroToCal, State.modDeck_modDeck]
  exact putParam_modDeck rfl

theorem calWritten_deck (d : Deck) (n : ParamName) (p : Params) (w : Wcu) (c : Capture) (s : State) :
    (calWritten d n p w c s).deck d = { s.deck d with params := p, wcu := w, capture := c } := by
  cases d <;> rfl

/-! #### Parameters of the lines -/

theorem numIn_of_mem {lo hi v : Nat} (low : lo ≤ v) (high : v ≤ hi) :
    numIn lo hi (some (v : Int)) = some v := by
  have bounds : (lo : Int) ≤ v ∧ (v : Int) ≤ hi := by omega
  simp [numIn, inRange, bounds]

theorem numIn_of_not_mem {lo hi : Nat} {n : Int} (h : n < lo ∨ (hi : Int) < n) :
    numIn lo hi (some n) = none := by
  have outside : ¬ ((lo : Int) ≤ n ∧ n ≤ hi) := by omega
  simp [numIn, inRange, outside]

theorem scaled_mass (m : Nat) : ((m * Config.spanUnit : Nat) : Int) = (m : Int) * 16777216 := by
  simp [Config.spanUnit]

theorem inRange_span (x : Int) : inRange 1 greatestSpan x =
    if 1 ≤ x ∧ x ≤ 2147483647 then some x.toNat else none := by
  simp [inRange, greatestSpan]

theorem chanOf_num (ch : Chan) : chanOf (ch.num : Int) = some ch := by
  cases ch <;> rfl

theorem chanOf_of_not_mem {n : Int} (h : n < 1 ∨ 4 < n) : chanOf n = none := by
  rw [chanOf, if_neg (by omega), if_neg (by omega), if_neg (by omega), if_neg (by omega)]

/-- R48: a list that names no channels. -/
theorem cellsOf_of_bad {ns : List Int} (h : ns = [] ∨ (∃ n ∈ ns, n < 1 ∨ 4 < n) ∨ ¬ ns.Nodup) :
    cellsOf ns = none := by
  refine if_neg fun ⟨filled, named, distinct⟩ => ?_
  rcases h with empty | ⟨n, mem, outside⟩ | repeated
  · simp [empty] at filled
  · have := List.all_eq_true.mp named n mem
    simp [chanOf_of_not_mem outside] at this
  · exact repeated distinct

/-- R47: an interval that is no legal value. -/
theorem interval_of_not_mem {v : Int} (h : v ∉ ([1, 2, 5, 10, 20, 50, 100] : List Int)) :
    (numIn 1 100 (some v)).filter intervals.contains = none := by
  rw [Option.filter_eq_none_iff]
  intro w hw
  have eq : (w : Int) = v := by
    simp only [numIn, inRange, Option.bind_some, Option.ite_none_right_eq_some, Option.some.injEq] at hw
    omega
  contrapose! h
  simp only [intervals, List.contains_eq_mem, List.mem_cons, List.not_mem_nil, or_false,
    decide_eq_true_eq] at h
  simp only [List.mem_cons, List.not_mem_nil, or_false]
  omega

/-! #### The commands -/

section Given
variable (given : s.metro.switchOn = true ∨ (s.metro.lock = false ∧ s.part.run = false))
include given

theorem exec_calMax {v : Nat} (low : 1000 ≤ v) (high : v ≤ 150000) :
    exec (.calMax d (some v)) s =
      let p := { (s.deck d).params with max := v }
      answer (.ok [nat v, consistentWord p])
        (if (s.deck d).params.max = v then s
         else calWritten d .max p { (s.deck d).wcu with zero := p.z0 } (s.deck d).capture s) := by
  change execCalMax d (some v) s = _
  rw [execCalMax, calAccess_given given, numIn_of_mem low high]
  dsimp only
  split
  · next same => rw [← same]
  · rw [zeroToCal, putParam_modDeck rfl, calWritten_deck]

theorem exec_calInterval {v : Nat} (legal : v ∈ [1, 2, 5, 10, 20, 50, 100]) :
    exec (.calInterval d (some v)) s =
      let p := { (s.deck d).params with interval := v }
      answer (.ok [nat v, consistentWord p])
        (if (s.deck d).params.interval = v then s
         else calWritten d .e p (s.deck d).wcu (s.deck d).capture s) := by
  have range : 1 ≤ v ∧ v ≤ 100 := by
    simp only [List.mem_cons, List.not_mem_nil, or_false] at legal
    omega
  have named : (some v).filter intervals.contains = some v :=
    Option.filter_eq_some_iff.mpr ⟨rfl, List.contains_iff_mem.mpr legal⟩
  change execCalInterval d (some v) s = _
  rw [execCalInterval, calAccess_given given, numIn_of_mem range.1 range.2, named]
  dsimp only
  split
  · next same => rw [← same]
  · rw [putParam_eq, calWritten_deck]

theorem exec_calTrim {ch : Chan} {g : Nat} (low : 8192 ≤ g) (high : g ≤ 24576) :
    exec (.calTrim d (some ((ch.num : Int), (g : Int)))) s =
      let p := { (s.deck d).params with trims := (s.deck d).params.trims.set ch g }
      answer (.ok (p.trims.toList.map nat))
        (if (s.deck d).params.trims.get ch = g then s
         else restartWindows d (zeroToCal d (putParam d (trimName ch)
           (fun p => { p with trims := p.trims.set ch g }) s))) := by
  change execCalTrim d (some ((ch.num : Int), (g : Int))) s = _
  rw [execCalTrim, calAccess_given given, Option.bind_some, chanOf_num, Option.map_some,
    numIn_of_mem low high]
  dsimp only
  split
  · next same => cases ch <;> rw [← same] <;> rfl
  · rw [restartWindows_putParam, calWritten_deck]

theorem exec_calCells {ns : List Int} {c : PerChan Bool} (named : cellsOf ns = some c) :
    exec (.calCells d (some ns)) s =
      answer (.ok (cellNumbers c))
        (if (s.deck d).params.cells = c then s
         else restartWindows d (zeroToCal d (putParam d .cells (fun p => { p with cells := c }) s))) := by
  change execCalCells d (some ns) s = _
  rw [execCalCells, calAccess_given given, Option.bind_some, named]

theorem exec_calK {k : Nat} (low : 1 ≤ k) (high : k ≤ 2147483647) :
    exec (.calK d (some k)) s = answer (.ok [nat k]) (putSpan d k s) := by
  change execCalK d (some k) s = _
  rw [execCalK, calAccess_given given, greatestSpan, numIn_of_mem low high]

theorem exec_calZ0 {z : Int} (low : -50331648 ≤ z) (high : z ≤ 50331648) :
    exec (.calZ0 d (some z)) s = answer (.ok [num z]) (putZ0 d z s) := by
  change execCalZ0 d (some z) s = _
  rw [execCalZ0, calAccess_given given]
  exact if_pos ⟨low, high⟩

theorem exec_calZero (d : Deck) :
    exec (.calZero d) s =
      if (s.deck d).seq.state ≠ .idle then refuse .busy s
      else
        match (s.deck d).settled with
        | none => answer (.er .refused ["UNSTABLE"]) s
        | some p => answer (.ok [num p.a]) (putZ0 d p.a s) := by
  change execCalZero d s = _
  exact calAccess_given given

theorem exec_calSpan_param {m : Int}
    (h : m < 20 * (s.deck d).params.interval ∨ (s.deck d).params.max < m) :
    exec (.calSpan d (some m)) s = refuse .param s := by
  change execCalSpan d (some m) s = _
  rw [execCalSpan, calAccess_given given, numIn_of_not_mem (by push_cast; exact h)]

section Mass
variable {m : Nat} (low : 20 * (s.deck d).params.interval ≤ m) (high : m ≤ (s.deck d).params.max)
include low high

theorem exec_calSpan_busy (busy : (s.deck d).seq.state ≠ .idle) :
    exec (.calSpan d (some (m : Int))) s = refuse .busy s := by
  change execCalSpan d (some (m : Int)) s = _
  rw [execCalSpan, calAccess_given given, numIn_of_mem low high]
  exact if_pos busy

theorem exec_calSpan_unstable (idle : (s.deck d).seq.state = .idle) (none : (s.deck d).settled = none) :
    exec (.calSpan d (some (m : Int))) s = answer (.er .refused ["UNSTABLE"]) s := by
  change execCalSpan d (some (m : Int)) s = _
  rw [execCalSpan, calAccess_given given, numIn_of_mem low high]
  simp only [none, idle, ne_eq, not_true_eq_false, if_false]

theorem exec_calSpan_settled {q : Published} (idle : (s.deck d).seq.state = .idle)
    (settled : (s.deck d).settled = some q) :
    exec (.calSpan d (some (m : Int))) s =
      if q.a - (s.deck d).params.z0 ≤ 0 then answer (.er .refused ["NOLOAD"]) s
      else
        let k := rna ((m : Int) * 16777216) (q.a - (s.deck d).params.z0).toNat
        if 1 ≤ k ∧ k ≤ 2147483647 then answer (.ok [nat k.toNat]) (putSpan d k.toNat s)
        else answer (.er .refused ["RANGE"]) s := by
  change execCalSpan d (some (m : Int)) s = _
  rw [execCalSpan, calAccess_given given, numIn_of_mem low high]
  simp only [settled, idle, ne_eq, not_true_eq_false, if_false, scaled_mass, inRange_span]
  refine if_congr Iff.rfl rfl ?_
  generalize rna ((m : Int) * 16777216) (q.a - (s.deck d).params.z0).toNat = k
  by_cases range : 1 ≤ k ∧ k ≤ 2147483647
  · rw [if_pos range, if_pos range]
  · rw [if_neg range, if_neg range]

end Mass

theorem cal_refused {v : Int} :
    (v < 1000 ∨ 150000 < v → Refused (.calMax d (some v)) .param s)
      ∧ (v ∉ ([1, 2, 5, 10, 20, 50, 100] : List Int) → Refused (.calInterval d (some v)) .param s)
      ∧ (∀ n : Int, n < 1 ∨ 4 < n ∨ v < 8192 ∨ 24576 < v → Refused (.calTrim d (some (n, v))) .param s)
      ∧ (v < 1 ∨ 2147483647 < v → Refused (.calK d (some v)) .param s)
      ∧ (v < -50331648 ∨ 50331648 < v → Refused (.calZ0 d (some v)) .param s) := by
  refine ⟨fun h => ?_, fun h => ?_, fun n h => ?_, fun h => ?_, fun h => ?_⟩
  · change execCalMax d (some v) s = _
    rw [execCalMax, calAccess_given given, numIn_of_not_mem h]
    rfl
  · change execCalInterval d (some v) s = _
    rw [execCalInterval, calAccess_given given, interval_of_not_mem h]
    rfl
  · change execCalTrim d (some (n, v)) s = _
    rw [execCalTrim, calAccess_given given, Option.bind_some, Option.map_some]
    dsimp only
    rcases or_assoc.mpr h with outside | outside
    · rw [chanOf_of_not_mem outside]
      rfl
    · rw [numIn_of_not_mem outside]
      cases chanOf n <;> rfl
  · change execCalK d (some v) s = _
    rw [execCalK, calAccess_given given, greatestSpan, numIn_of_not_mem h]
    rfl
  · change execCalZ0 d (some v) s = _
    rw [execCalZ0, calAccess_given given]
    refine if_neg fun h' => ?_
    simp only [zeroLimit] at h'
    omega

end Given

theorem putZ0_eq (d : Deck) (z : Int) (s : State) : putZ0 d z s =
    if (s.deck d).params.z0 = z then s
    else calWritten d .z0 { (s.deck d).params with z0 := z }
      { (s.deck d).wcu with
        zero := z, stabWin := []
        latest := (s.deck d).wcu.latest.map fun q => { q with stable := false } }
      (s.deck d).capture s := by
  rw [putZ0, emptyStability_putParam]

theorem putSpan_eq (d : Deck) (k : Nat) (s : State) : putSpan d k s =
    if (s.deck d).params.span = k then s
    else calWritten d .k { (s.deck d).params with span := k }
      { (s.deck d).wcu with
        zero := (s.deck d).params.z0, stabWin := []
        latest := (s.deck d).wcu.latest.map fun q => { q with stable := false } }
      (s.deck d).capture s := by
  rw [putSpan, emptyStability_putParam]

theorem consistentWord_eq (p : Params) :
    consistentWord p = if p.max ≤ 10000 * p.interval then "CONSISTENT" else "INCONSISTENT" := by
  simp [consistentWord, Params.consistent]

/-- The valid stable set of a deck, if it has one. -/
theorem settled_eq (u : DeckUnit) : u.settled = u.wcu.latest.bind fun q =>
    if q.invalid = false ∧ q.stable = true then some q else none := by
  cases latest : u.wcu.latest with
  | none => exact DeckUnit.settled_of_no_weight latest
  | some p =>
    rw [DeckUnit.settled_of_weight latest, Option.bind_some]
    cases p.invalid <;> cases p.stable <;> rfl

/-- Settles O12. -/
theorem calibrationWrites : Obligations.CalibrationWrites := by
  intro d s given u p w held word anew unsettled nosetShown settled
  have written (p' : Params) (n : ParamName) (w' : Wcu) (c' : Capture) :
      held p' n w' c' = calWritten d n p' w' c' s := rfl
  have worded (q : Params) : word q = consistentWord q := (consistentWord_eq q).symm
  have stable : settled = (s.deck d).settled := by
    rw [settled_eq]
    change (match (s.deck d).wcu.latest with | some q => _ | none => _) = _
    cases (s.deck d).wcu.latest <;> rfl
  refine ⟨fun v low high => ?max, fun v legal => ?interval, fun ch g low high => ?trim,
    fun ns c named => ?cells, fun k low high => ?k, fun z low high => ?z0, ?zero, fun m => ?span,
    fun v => cal_refused given, fun ns bad => ?list, calAccess_given given, calAccess_given given,
    calAccess_given given, calAccess_given given, calAccess_given given, calAccess_given given,
    calAccess_given given⟩
  case max =>
    intro p'
    rw [worded]
    exact exec_calMax given low high
  case interval =>
    intro p'
    rw [worded]
    exact exec_calInterval given legal
  case trim =>
    have done := exec_calTrim (d := d) given (ch := ch) low high
    rw [restartWindows_putParam] at done
    exact done
  case cells =>
    have done := exec_calCells (d := d) given named
    rw [restartWindows_putParam] at done
    exact done
  case k =>
    have done := exec_calK (d := d) given low high
    rw [putSpan_eq] at done
    exact done
  case z0 =>
    have done := exec_calZ0 (d := d) given low high
    rw [putZ0_eq] at done
    exact done
  case zero =>
    have done := exec_calZero given d
    rw [stable]
    unfold Refused Answers AnswersWith
    rw [done]
    by_cases busy : (s.deck d).seq.state ≠ .idle
    · rw [if_pos busy, if_pos busy]
      rfl
    · rw [if_neg busy, if_neg busy]
      cases (s.deck d).settled with
      | none => rfl
      | some q =>
        dsimp only
        rw [putZ0_eq]
        rfl
  case span =>
    rw [stable]
    by_cases outside : m < 20 * p.interval ∨ (p.max : Int) < m
    · rw [if_pos outside]
      exact exec_calSpan_param given outside
    · rw [if_neg outside]
      obtain ⟨m, rfl⟩ := Int.eq_ofNat_of_zero_le (show 0 ≤ m by omega)
      have low : 20 * p.interval ≤ m := by omega
      have high : m ≤ p.max := by omega
      by_cases busy : (s.deck d).seq.state ≠ .idle
      · rw [if_pos busy]
        exact exec_calSpan_busy given low high busy
      · rw [if_neg busy]
        have idle := not_not.mp busy
        cases found : (s.deck d).settled with
        | none => exact exec_calSpan_unstable given low high idle found
        | some q =>
          have done := exec_calSpan_settled given low high idle found
          simp only [putSpan_eq] at done
          dsimp only
          by_cases light : q.a - p.z0 ≤ 0
          · rw [if_pos light]
            exact done.trans (if_pos light)
          · rw [if_neg light]
            replace done := done.trans (if_neg light)
            by_cases range : 1 ≤ rna ((m : Int) * 16777216) (q.a - p.z0).toNat
                ∧ rna ((m : Int) * 16777216) (q.a - p.z0).toNat ≤ 2147483647
            · rw [if_pos range]
              exact done.trans (if_pos range)
            · rw [if_neg range]
              exact done.trans (if_neg range)
  case list =>
    change execCalCells d (some ns) s = _
    rw [execCalCells, calAccess_given given, Option.bind_some, cellsOf_of_bad bad]
    rfl

/-! ### The lock and the queries (R56, R57) -/

theorem calibPending_iff (m : Metro) : m.calibPending = true ↔ m.inProgress ≠ none ∨ m.waiting ≠ none := by
  simp [Metro.calibPending, Option.isSome_iff_ne_none]

theorem pendingWord_eq (m : Metro) : m.pendingWord =
    if m.waiting ≠ none then "WRITING+WAITING" else if m.inProgress ≠ none then "WRITING" else "NONE" := by
  unfold Metro.pendingWord
  rcases m.inProgress with _ | c <;> rcases m.waiting with _ | w <;> rfl

/-- Settles O13. -/
theorem verificationLockAndQueries : Obligations.VerificationLockAndQueries := by
  intro d s m u p
  refine ⟨?lock, ?query, ?params⟩
  case lock =>
    unfold Refused Answers AnswersWith
    have judged : exec .metroLock s = execMetroLock s := rfl
    rw [judged]
    unfold execMetroLock
    by_cases locked : s.metro.lock = true
    · rw [if_pos locked, if_pos locked]
      rfl
    rw [if_neg locked, if_neg locked]
    by_cases run : s.part.run = true
    · rw [if_pos run, if_pos (.inl run)]
      rfl
    rw [if_neg run]
    by_cases on : s.metro.switchOn = true
    · rw [if_pos on, if_pos (.inr on)]
      rfl
    rw [if_neg on, if_neg (by tauto)]
    have pending := calibPending_iff s.metro
    by_cases due : s.metro.calibPending = true
    · rw [if_pos due, if_pos (pending.mp due)]
      rfl
    have free := not_not.mp (not_or.mp (mt pending.mpr due)).1
    rw [if_neg due, if_neg (mt pending.mpr due)]
    exact congrArg (answer (.ok [nat s.metro.count])) ((formCalib_spec _ _).1 free)
  case query =>
    change execMetroQuery s = _
    rw [execMetroQuery, pendingWord_eq]
    rfl
  case params =>
    change execCalParamQuery d s = _
    rw [execCalParamQuery, consistentWord_eq]
    rfl

end Sys2Proof.Machine
end

section
/-! PROOFS. The outcome queue, the report queue and the fault table (chapter 11). -/

namespace Sys2Proof.Machine

-- One declaration after another: at once they ask for more threads than the check's limits allow.
set_option Elab.async false

variable {s t : State} {f g : FaultSource}

/-! ### The two queues (R203 to R208) -/

/-- Settles O52. -/
theorem outcomeQueueCommands : Obligations.OutcomeQueueCommands := by
  intro s o put reserved
  refine ⟨?shown, rfl, fun q outside => ?number, fun q low high => ⟨fun empty => ?none, fun r rs head => ?some⟩,
    rfl, rfl, rfl, fun v => rfl, fun v => rfl, rfl, rfl⟩
  case shown =>
    change execOutcomeQuery s = .next (s.answered (.ok (match s.outcomes.queue with | [] => _ | r :: _ => _)))
    unfold execOutcomeQuery
    cases s.outcomes.queue <;> rfl
  case number =>
    change execOutcomeTake (some q) s = _
    rw [execOutcomeTake, Config.lastSequence, numIn_of_not_mem outside]
    rfl
  case none =>
    change execOutcomeTake (some (q : Int)) s = _
    rw [execOutcomeTake, Config.lastSequence, numIn_of_mem low high, show s.outcomes.queue = [] from empty]
    rfl
  case some =>
    have judged : exec (.outcomeTake (some (q : Int))) s =
        if r.seq = q then answer (.ok [nat rs.length]) (put { o with queue := rs })
        else refuse .mismatch s := by
      change execOutcomeTake (some (q : Int)) s = _
      rw [execOutcomeTake, Config.lastSequence, numIn_of_mem low high,
        show s.outcomes.queue = r :: rs from head]
    exact ⟨fun other => judged.trans (if_neg other), fun same => judged.trans (if_pos same)⟩

/-- R206: what an offer does. -/
theorem offer_spec (k : ReportKind) (subj : Subject) (ps : List String) (s : State) :
    (s.reports.selects k = false → offer k subj ps s = s)
      ∧ (s.reports.selects k = true → s.reports.queue.length < 48 →
          offer k subj ps s = { s with reports := { s.reports with
            queue := s.reports.queue ++ [{ number := s.reports.next, time := s.clock.now, kind := k
                                           subject := subj, lost := s.reports.lost, params := ps }]
            next := wrapNext 65535 s.reports.next
            lost := 0 } })
      ∧ (s.reports.selects k = true → 48 ≤ s.reports.queue.length →
          offer k subj ps s =
            { s with reports := { s.reports with lost := min 65535 (s.reports.lost + 1) } }) := by
  rcases offer_cases s k subj ps with ⟨no, h⟩ | ⟨yes, room, h⟩ | ⟨yes, full, h⟩
  · exact ⟨fun _ => h, fun yes => absurd yes (by simp [no]), fun yes => absurd yes (by simp [no])⟩
  · exact ⟨fun no => absurd yes (by simp [no]), fun _ _ => h, fun _ full => absurd room full.not_gt⟩
  · exact ⟨fun no => absurd yes (by simp [no]), fun _ room => absurd room full.not_gt, fun _ _ => h⟩

/-- R207: a kind of a group is selected by its group's mode. -/
theorem selects_iff (q : Reports) {k : ReportKind} {g : ReportGroup} (h : k.group = some g) :
    q.selects k = true ↔ q.mode g = .all ∨ (q.mode g = .exceptions ∧ k.exceptional = true) := by
  unfold Reports.selects
  rw [h]
  dsimp only
  cases q.mode g <;> simp

/-- Settles O53. -/
theorem reportQueueCommands : Obligations.ReportQueueCommands := by
  intro s q put
  refine ⟨?shown, rfl, fun n outside => ?number, fun n low high => ⟨fun empty => ?none, fun r rs head => ?some⟩,
    rfl, rfl, rfl, fun m => ⟨rfl, rfl, rfl, rfl⟩, fun g => ?mode, fun g kinds marked row k mem => ?kinds,
    fun k mem => ?always, fun k subj ps => offer_spec k subj ps s⟩
  case shown =>
    change execReportQuery s = .next (s.answered (.ok (match s.reports.queue with | [] => _ | r :: _ => _)))
    unfold execReportQuery
    cases s.reports.queue <;> rfl
  case number =>
    change execReportTake (some n) s = _
    rw [execReportTake, numIn_of_not_mem outside]
    rfl
  case none =>
    change execReportTake (some (n : Int)) s = _
    rw [execReportTake, numIn_of_mem low high, show s.reports.queue = [] from empty]
    rfl
  case some =>
    have judged : exec (.reportTake (some (n : Int))) s =
        if r.number = n then answer (.ok [nat rs.length]) (put { q with queue := rs })
        else refuse .mismatch s := by
      change execReportTake (some (n : Int)) s = _
      rw [execReportTake, numIn_of_mem low high, show s.reports.queue = r :: rs from head]
      rfl
    exact ⟨fun other => judged.trans (if_neg other), fun same => judged.trans (if_pos same)⟩
  case mode =>
    change answer (.ok [reportModeWord (s.reports.mode g)]) s
      = .next (s.answered (.ok [match s.reports.mode g with | .all => _ | .exceptions => _ | .none => _]))
    cases s.reports.mode g <;> rfl
  case kinds =>
    have grouped : k.group = some g ∧ (k.exceptional = true ↔ k ∈ marked) := by
      simp only [List.mem_cons, List.not_mem_nil, or_false, Prod.mk.injEq] at row
      rcases row with ⟨rfl, rfl, rfl⟩ | ⟨rfl, rfl, rfl⟩ | ⟨rfl, rfl, rfl⟩ | ⟨rfl, rfl, rfl⟩ <;>
        revert k <;> decide
    rw [selects_iff q grouped.1, grouped.2]
  case always =>
    have ungrouped : k.group = none := by
      revert k
      decide
    unfold Reports.selects
    rw [ungrouped]

/-! ### The fault table (R209 to R212) -/

theorem raised_iff {en : FaultEntry} : en.raised = true ↔ en.state ≠ .clear := by
  simp [FaultEntry.raised]

theorem FaultEntry.shown_of_clear {en : FaultEntry} (h : en.state = .clear) : en.shown = en := by
  simp [FaultEntry.shown, FaultEntry.raised, h]

theorem FaultEntry.shown_of_raised {en : FaultEntry} (h : en.state ≠ .clear) :
    en.shown = { en with read := true } := if_pos (raised_iff.mpr h)

theorem FaultEntry.shown_shown (en : FaultEntry) : en.shown.shown = en.shown := by
  by_cases h : en.state = .clear
  · rw [shown_of_clear h, shown_of_clear h]
  · rw [shown_of_raised h]
    exact shown_of_raised (en := { en with read := true }) h

theorem FaultTable.set_get (x : FaultTable) (f : FaultSource) : x.set f (x.get f) = x := by
  cases f with
  | cell d c => cases d <;> cases c <;> rfl
  | bar e => cases e <;> rfl
  | loop e => cases e <;> rfl
  | rdr e => cases e <;> rfl
  | prn d => cases d <;> rfl
  | journal => rfl
  | clock => rfl

theorem mem_allSources (f : FaultSource) : f ∈ allSources := by
  cases f with
  | cell d c => cases d <;> cases c <;> decide
  | bar e => cases e <;> decide
  | loop e => cases e <;> decide
  | rdr e => cases e <;> decide
  | prn d => cases d <;> decide
  | journal => decide
  | clock => decide

/-- R210: the entries a query shows have their read flags set, the others stand. -/
theorem foldl_markRead (l : List FaultSource) (s : State) :
    l.foldl markRead s = { s with faults := (l.foldl markRead s).faults }
      ∧ ∀ f, (l.foldl markRead s).faults.get f
          = if f ∈ l then (s.faults.get f).shown else s.faults.get f := by
  induction l generalizing s with
  | nil => exact ⟨rfl, fun f => rfl⟩
  | cons g l ih =>
    obtain ⟨frame, entry⟩ := ih (markRead s g)
    rw [List.foldl_cons]
    refine ⟨frame, fun f => ?_⟩
    rw [entry f]
    by_cases same : f = g
    · subst same
      have put : (markRead s f).faults.get f = (s.faults.get f).shown := FaultTable.get_set _ _ _
      simp [put, FaultEntry.shown_shown]
    · have kept : (markRead s g).faults.get f = s.faults.get f := FaultTable.get_set_of_ne _ _ same
      simp [kept, same]

theorem exec_faultQuery (s : State) : exec .faultQuery s =
    if (allSources.filter fun f => (s.faults.get f).raised) = [] then answer (.ok ["NONE"]) s
    else answer (.ok ((allSources.filter fun f => (s.faults.get f).raised).flatMap fun f =>
        faultFields f (s.faults.get f)))
      ((allSources.filter fun f => (s.faults.get f).raised).foldl markRead s) := by
  change execFaultQuery s = _
  unfold execFaultQuery
  cases allSources.filter fun f => (s.faults.get f).raised <;> rfl

theorem exec_faultClear_of_clear (h : (s.faults.get f).state = .clear) :
    exec (.faultClear (some f)) s = answer (.ok []) s := by
  change execFaultClear (some f) s = _
  simp only [execFaultClear, h]

theorem exec_faultClear_of_active (h : (s.faults.get f).state = .active) :
    exec (.faultClear (some f)) s = refuse .active s := by
  change execFaultClear (some f) s = _
  simp only [execFaultClear, h]

theorem exec_faultClear_of_latched (h : (s.faults.get f).state = .latched) :
    exec (.faultClear (some f)) s =
      if (s.faults.get f).read = true then answer (.ok []) (entryCleared f (s.setFault f .clear))
      else refuse .unread s := by
  change execFaultClear (some f) s = _
  simp only [execFaultClear, h]

/-- R179: a printer leaves FAULT. -/
theorem printerFaultExit_printer {d : Deck} (h : (s.deck d).printer.state = .fault) :
    ((printerFaultExit d s).deck d).printer =
      if (s.deck d).printer.presented = none then { (s.deck d).printer with state := .ready }
      else { (s.deck d).printer with
        state := .waitTake, uncollected := .running (s.deck d).printer.uncollectedTime } := by
  unfold printerFaultExit
  rw [State.modPrinter, State.modDeck_deck]
  dsimp only
  rw [if_pos h]
  cases (s.deck d).printer.presented <;> rfl

/-! #### The recovery of a barrier (R74) -/

section Recovery
variable {e : EndId}

theorem withDown_of_down {h : State → State} (before : (s.driver e).state ≠ .down)
    (after : ((h s).driver e).state = .down) : withDown e h s = seqBarrierDown e (h s) := by
  have was : s.barrierDown e = false := by simpa [State.barrierDown] using before
  have is : (h s).barrierDown e = true := by simpa [State.barrierDown] using after
  simp [withDown, was, is]

theorem withDown_of_not_down {h : State → State} (after : ((h s).driver e).state ≠ .down) :
    withDown e h s = h s := by
  have is : (h s).barrierDown e = false := by simpa [State.barrierDown] using after
  simp [withDown, is]

/-- A drive that leaves a driver that was not DOWN, told to the sequencer when it is. -/
theorem withDown_eq {h : State → State} (before : (s.driver e).state ≠ .down) :
    withDown e h s = if ((h s).driver e).state = .down then seqBarrierDown e (h s) else h s := by
  split
  · next after => exact withDown_of_down before after
  · next after => exact withDown_of_not_down after

theorem recoveryLower_idle (h : (s.driver e).state ≠ .fault) : recoveryLower e s = s := if_pos h

/-- A CONFIRMED driver commanded DOWN is DOWN at once. -/
theorem recoveryLower_confirmed (fault : (s.driver e).state = .fault) (mode : (s.driver e).mode = .confirmed)
    (down : (s.driver e).commanded = .down) :
    recoveryLower e s = s.modDriver e fun _ =>
      { s.driver e with cause := .none, condition := false, state := .down, travel := .stopped } := by
  unfold recoveryLower
  dsimp only
  rw [if_neg (not_not.mpr fault), if_pos ⟨mode, down⟩, modDriver_modDriver]
  rfl

section Lower
variable (fault : (s.driver e).state = .fault)
  (other : (s.driver e).mode ≠ .confirmed ∨ (s.driver e).commanded = .up)
include fault other

theorem recoveryLower_occupied (occ : s.safetyOcc e = true) :
    recoveryLower e s = s.modDriver e fun _ =>
      { s.driver e with
        cause := .none, condition := false, state := .up, travel := .stopped, pending := .lower } := by
  have not : ¬ ((s.driver e).mode = .confirmed ∧ (s.driver e).commanded = .down) := fun ⟨m, c⟩ =>
    other.elim (fun h => h m) fun h => (by rw [h] at c; cases c)
  unfold recoveryLower
  dsimp only
  rw [if_neg (not_not.mpr fault), if_neg not, if_pos occ, modDriver_modDriver]
  rfl

theorem recoveryLower_clear (clear : s.safetyOcc e = false) :
    recoveryLower e s = drivenDown e (s.modDriver e fun _ =>
      { s.driver e with cause := .none, condition := false }) := by
  have not : ¬ ((s.driver e).mode = .confirmed ∧ (s.driver e).commanded = .down) := fun ⟨m, c⟩ =>
    other.elim (fun h => h m) fun h => (by rw [h] at c; cases c)
  unfold recoveryLower
  dsimp only
  rw [if_neg (not_not.mpr fault), if_neg not, clear, if_neg (by simp),
    startDown_eq (by rw [modDriver_safetyOcc]; exact clear)]
  rfl

end Lower

theorem drivenDown_driver (e : EndId) (s : State) :
    (drivenDown e s).driver e = (s.driver e).drivenDown (s.station e).lines := putDriver_driver _ _ _

theorem drivenDown_state_of_not_confirmed {b : Driver} (l : EndReadings) (h : b.mode ≠ .confirmed) :
    (b.drivenDown l).state = .lowering := by
  simp [Driver.drivenDown, h]

end Recovery

theorem entryCleared_faults (bar : ∀ e, f ≠ .bar e) (s : State) : (entryCleared f s).faults = s.faults := by
  cases f with
  | bar e => exact absurd rfl (bar e)
  | _ => rfl

theorem entryCleared_of_detector (bar : ∀ e, f ≠ .bar e) (prn : ∀ d, f ≠ .prn d) :
    entryCleared f s = s := by
  cases f with
  | bar e => exact absurd rfl (bar e)
  | prn d => exact absurd rfl (prn d)
  | _ => rfl

/-- Settles O54. -/
theorem faultTableCommandsAndAttn : Obligations.FaultTableCommandsAndAttn := by
  refine ⟨fun s f => ?signals, fun s => ?lines, fun s => ⟨?attn, ?level⟩⟩
  case signals =>
    intro en put more
    refine ⟨fun v => ⟨FaultTable.get_set _ _ _, fun g hg => FaultTable.get_set_of_ne _ _ hg⟩,
      fun h => ?_, fun h => ?_, fun h => ?_⟩ <;>
    · unfold condArises condEnds
      dsimp only
      rw [show (s.faults.get f).state = _ from h]
      exact ⟨rfl, rfl⟩
  case attn =>
    simp only [State.attn, Bool.or_eq_true, Bool.not_eq_true', List.isEmpty_eq_false_iff, decide_eq_true_eq,
      List.any_eq_true, Bool.and_eq_true, raised_iff, or_assoc]
    exact or_congr_right (or_congr_right ⟨fun ⟨f, _, h⟩ => ⟨f, h⟩, fun ⟨f, h⟩ => ⟨f, mem_allSources f, h⟩⟩)
  case level =>
    unfold State.attnLevel lineLevel
    cases s.part.attnPolarity <;> rfl
  case lines =>
    intro read shown
    have fields (f : FaultSource) : shown f = faultFields f (s.faults.get f) := by
      change (match (s.faults.get f).state with | .clear => _ | .active => _ | .latched => _) = _
      unfold faultFields
      cases (s.faults.get f).state <;> rfl
    have raised : (allSources.filter fun f => (s.faults.get f).raised)
        = allSources.filter fun f => (s.faults.get f).state ≠ .clear :=
      List.filter_congr fun f _ => by
        rw [Bool.eq_iff_iff, raised_iff, decide_eq_true_iff]
    refine ⟨fun none => ?_, fun ⟨f, up⟩ => ?_, rfl, rfl, fun f => ⟨fun clear => ⟨?_, ?_⟩, fun up => ?_,
      fun active => ?_, fun latched unread => ?_, fun latched wasRead => ?_⟩⟩
    · refine (exec_faultQuery s).trans (if_pos ?_)
      exact List.filter_eq_nil_iff.mpr fun f _ => by simp [FaultEntry.raised, none f]
    · obtain ⟨frame, entry⟩ := foldl_markRead (allSources.filter fun f => (s.faults.get f).raised) s
      refine ⟨_, ?_, fun g hg => ?_, fun g hg => ?_, frame⟩
      · refine (exec_faultQuery s).trans ((if_neg fun none => ?_).trans ?_)
        · have := List.filter_eq_nil_iff.mp none f (mem_allSources f)
          exact this (raised_iff.mpr up)
        · rw [← raised, funext fields]
          rfl
      · change FaultTable.get _ g = _
        rw [entry g, if_pos (List.mem_filter.mpr ⟨mem_allSources g, raised_iff.mpr hg⟩),
          FaultEntry.shown_of_raised hg]
      · have unseen : g ∉ allSources.filter fun f => (s.faults.get f).raised := fun mem =>
          raised_iff.mp (List.mem_filter.mp mem).2 hg
        rw [entry g, if_neg unseen]
    · change answer (.ok (faultFields f (s.faults.get f))) (markRead s f) = _
      rw [← fields, markRead, FaultEntry.shown_of_clear clear, State.setFault, FaultTable.set_get]
      rfl
    · exact exec_faultClear_of_clear clear
    · refine ⟨markRead s f, ?_, ?_, fun g hg => FaultTable.get_set_of_ne _ _ hg, rfl⟩
      · change answer (.ok (faultFields f (s.faults.get f))) (markRead s f) = _
        rw [← fields]
        rfl
      · exact (FaultTable.get_set _ _ _).trans (FaultEntry.shown_of_raised up)
    · exact exec_faultClear_of_active active
    · exact (exec_faultClear_of_latched latched).trans (if_neg (by simp [unread]))
    · refine ⟨entryCleared f (s.setFault f .clear), ?_, ?_⟩
      · exact (exec_faultClear_of_latched latched).trans (if_pos wasRead)
      · refine ⟨fun bar => ?_, fun bar g hg => ?_, fun bar prn => ?_, fun d hd fault => ?_,
          fun e he fault => ?_, fun e he other => ?_⟩
        · rw [entryCleared_faults bar]
          exact FaultTable.get_set _ _ _
        · rw [entryCleared_faults bar]
          exact FaultTable.get_set_of_ne _ _ hg
        · rw [entryCleared_of_detector bar prn]
          rfl
        · subst hd
          exact printerFaultExit_printer (s := s.setFault (.prn d) .clear) fault
        · subst he
          have notDown : ((s.setFault (.bar e) .clear).driver e).state ≠ .down := by
            rw [show ((s.setFault (.bar e) .clear).driver e).state = _ from fault]
            decide
          refine ⟨fun mode down => ?_, fun other occ => ?_, fun other clear => ⟨?_, ?_, fun mode => ?_⟩⟩
          · have done := recoveryLower_confirmed (s := s.setFault (.bar e) .clear) fault mode down
            rw [entryCleared, withDown_of_down notDown (by rw [done, modDriver_driver]), done]
            rfl
          · have done := recoveryLower_occupied (s := s.setFault (.bar e) .clear) fault other occ
            rw [entryCleared, withDown_of_not_down (by rw [done, modDriver_driver]; simp), done]
            rfl
          · have done := recoveryLower_clear (s := s.setFault (.bar e) .clear) fault other clear
            rw [entryCleared, withDown_eq notDown, done]
            rfl
          · rw [drivenDown_driver, modDriver_driver, modDriver_lines]
            rfl
          · have done := recoveryLower_clear (s := s.setFault (.bar e) .clear) fault other clear
            have lowering : ((recoveryLower e (s.setFault (.bar e) .clear)).driver e).state = .lowering := by
              rw [done, drivenDown_driver, modDriver_driver]
              exact drivenDown_state_of_not_confirmed _ mode
            rw [entryCleared, withDown_of_not_down (by rw [lowering]; decide), lowering]
        · subst he
          have same := recoveryLower_idle (s := s.setFault (.bar e) .clear) other
          rw [entryCleared, withDown, same, Bool.not_and_self]
          rfl

end Sys2Proof.Machine
end

section
/-! PROOFS. Reading a line (R187 to R189, 00_scope.md): tags, words, and a line of every command. -/

namespace Sys2Proof.Machine

-- One declaration after another: at once they ask for more threads than the check's limits allow.
set_option Elab.async false

/-! ### Tags as ten hexadecimal digits -/

theorem hexValue_hexDigit (n : Nat) (h : n < 16) : hexValue (hexDigit n) = some n := by
  interval_cases n <;> rfl

/-- A hexadecimal digit is a capital letter or figure: no space, no mark, and its own capital. -/
theorem hexDigit_spec (n : Nat) (h : n < 16) :
    hexDigit n ≠ ' ' ∧ hexDigit n ≠ '?' ∧ upperChar (hexDigit n) = hexDigit n := by
  interval_cases n <;> decide

theorem hexDigits_length (k n : Nat) : (hexDigits k n).length = k := by
  induction k generalizing n with
  | zero => rfl
  | succ k ih => simp [hexDigits, ih]

theorem mem_hexDigits {k n : Nat} {c : Char} (h : c ∈ hexDigits k n) : ∃ m < 16, c = hexDigit m := by
  induction k generalizing n with
  | zero => cases h
  | succ k ih =>
    rw [hexDigits, List.mem_append, List.mem_singleton] at h
    exact h.elim ih fun h => ⟨n % 16, Nat.mod_lt _ (by decide), h⟩

theorem hexNumber_append (a : Nat) (l : Text) (c : Char) :
    hexNumber a (l ++ [c]) = (hexNumber a l).bind fun b => (hexValue c).map (16 * b + ·) := by
  induction l generalizing a with
  | nil => cases h : hexValue c <;> simp [hexNumber, h]
  | cons x l ih =>
    rw [List.cons_append, hexNumber, hexNumber]
    cases hexValue x with
    | none => rfl
    | some v => exact ih _

/-- Digits written are read back, as far as they reach. -/
theorem hexNumber_hexDigits (k n : Nat) : hexNumber 0 (hexDigits k n) = some (n % 16 ^ k) := by
  induction k generalizing n with
  | zero => simp [hexDigits, hexNumber, Nat.mod_one]
  | succ k ih =>
    rw [hexDigits, hexNumber_append, ih, hexValue_hexDigit _ (Nat.mod_lt _ (by decide)), Option.bind_some,
      Option.map_some, pow_succ, mul_comm (16 ^ k), Nat.mod_mul, Nat.add_comm]

theorem tagChars_length (t : Tag) : (tagChars t).length = 10 := hexDigits_length 10 t.toNat

theorem tagOf_tagChars (t : Tag) : tagOf (tagChars t) = some t := by
  have small : t.toNat % 16 ^ 10 = t.toNat := Nat.mod_eq_of_lt t.isLt
  rw [tagOf, if_pos (tagChars_length t), tagChars, hexNumber_hexDigits, small, Option.map_some,
    BitVec.ofNat_toNat, BitVec.setWidth_eq]

theorem upper_tagChars (t : Tag) : upper (tagChars t) = tagChars t :=
  (List.map_congr_left fun c hc => by
    obtain ⟨m, hm, rfl⟩ := mem_hexDigits hc
    exact (hexDigit_spec m hm).2.2).trans (List.map_id' _)

/-! ### Words (R187) -/

/-- What is left of a line, if it has no space, is its last word. -/
theorem splitGo_of_no_space (l cur : Text) (h : ∀ c ∈ l, c ≠ ' ') (some : l ≠ [] ∨ cur ≠ []) :
    splitGo l cur = [cur.reverse ++ l] := by
  induction l generalizing cur with
  | nil => simp [splitGo, some.resolve_left (by simp)]
  | cons c l ih =>
    rw [splitGo, if_neg (h c (by simp)), ih _ (fun x hx => h x (by simp [hx])) (.inr (by simp))]
    simp

theorem splitWords_tareClear {w : Text} (h : ∀ c ∈ w, c ≠ ' ') (some : w ≠ []) :
    splitWords ("TARE CLEAR ".toList ++ w) = ["TARE".toList, "CLEAR".toList, w] := by
  have split : splitWords ("TARE CLEAR ".toList ++ w)
      = ["TARE".toList, "CLEAR".toList] ++ splitGo w [] := rfl
  rw [split, splitGo_of_no_space w [] h (.inl some)]
  rfl

theorem markWord_of_no_mark {w : Text} (h : '?' ∉ w) : markWord w = { chars := w, query := false } := by
  refine if_neg fun last => h ?_
  exact List.mem_of_getLast? last

/-- A TARE CLEAR line with one word of capitals and figures. -/
theorem readLine_tareClear {w : Text} (spaces : ∀ c ∈ w, c ≠ ' ') (marks : '?' ∉ w)
    (capitals : upper w = w) (some : w ≠ []) :
    readLine ("TARE CLEAR ".toList ++ w) = .command (.tareClear (tagOf w)) := by
  have noText (t : Text) : readText t ["TARE".toList, "CLEAR".toList, w] = none := rfl
  have notMark : w ≠ ['?'] := by
    rintro rfl
    exact marks (by simp)
  have marked : markWords ["TARE".toList, "CLEAR".toList, w]
      = [⟨"TARE".toList, false⟩, ⟨"CLEAR".toList, false⟩, ⟨w, false⟩] := by
    rw [markWords, if_neg (by decide), markWords, if_neg notMark, markWords, markWord_of_no_mark marks]
    rfl
  have named : [("TARE".toList : Text), "CLEAR".toList, w].map upper = ["TARE".toList, "CLEAR".toList, w] := by
    rw [List.map_cons, List.map_cons, List.map_cons, capitals]
    rfl
  rw [readLine, splitWords_tareClear spaces some, noText, named, marked]
  rfl

/-- Settles O60: the lines are read by evaluation, the tag's line for every tag. -/
theorem tagTextRoundTrip : Obligations.TagTextRoundTrip := by
  unfold Obligations.TagTextRoundTrip
  intro line reads wrong
  refine ⟨fun t => ⟨tagChars_length t, tagOf_tagChars t⟩, rfl, rfl, rfl, fun d => ?deck, fun e => ?ends,
    ?tables, ?journal, ?syntaxError, ?param, fun t => ?tare⟩
  case deck =>
    simp only [List.forall_mem_cons, List.not_mem_nil, false_imp_iff, implies_true, and_true]
    cases d
    · and_intros <;> rfl
    · and_intros <;> rfl
  case ends =>
    simp only [List.forall_mem_cons, List.not_mem_nil, false_imp_iff, implies_true, and_true]
    cases e
    · and_intros <;> rfl
    · and_intros <;> rfl
    · and_intros <;> rfl
    · and_intros <;> rfl
  case tables =>
    simp only [List.forall_mem_cons, List.not_mem_nil, false_imp_iff, implies_true, and_true]
    and_intros <;> rfl
  case journal =>
    simp only [List.forall_mem_cons, List.not_mem_nil, false_imp_iff, implies_true, and_true]
    and_intros <;> rfl
  case syntaxError =>
    simp only [List.forall_mem_cons, List.not_mem_nil, false_imp_iff, implies_true, and_true]
    and_intros <;> rfl
  case param =>
    simp only [List.forall_mem_cons, List.not_mem_nil, false_imp_iff, implies_true, and_true]
    and_intros <;> rfl
  case tare =>
    have digits {c : Char} (hc : c ∈ tagChars t) : c ≠ ' ' ∧ c ≠ '?' := by
      obtain ⟨m, hm, rfl⟩ := mem_hexDigits hc
      exact ⟨(hexDigit_spec m hm).1, (hexDigit_spec m hm).2.1⟩
    rw [readLine_tareClear (fun c hc => (digits hc).1) (fun mark => (digits mark).2 rfl) (upper_tagChars t)
      (List.ne_nil_of_length_eq_add_one (tagChars_length t)), tagOf_tagChars]

/-! ### The whole machine -/

/-- Settles O55. -/
theorem stepRunsFrontCommand : Obligations.StepRunsFrontCommand := by
  refine ⟨fun s i => rfl, fun s none => ?_⟩
  rw [step, none]

theorem layout_reset (n : Nat) (h : 1 ≤ n) : State.reset.layout n = emptyLayout := by
  rcases lt_or_ge n 8 with low | high
  · interval_cases n <;> rfl
  · have eight : State.reset.layouts.length = 8 := rfl
    exact List.getD_eq_default _ _ (eight.trans_le high)

theorem zeroKept_reset : ZeroKept State.reset := by
  intro d
  cases d <;> decide

theorem outcomesKept_reset : OutcomesKept State.reset := by
  refine ⟨fun d => ?_, by decide, by decide⟩
  cases d <;> decide

theorem tablesKept_reset : TablesKept State.reset := by
  have tares : State.reset.tares.table.length = 256 := List.length_replicate
  exact ⟨by decide, tares, by decide, by decide, by decide, by decide, by decide, by decide, by decide,
    by decide, by decide⟩

theorem journalKept_reset : JournalKept State.reset := by
  refine ⟨rfl, by decide, fun p hp => ?_⟩
  have page : p = { state := .current, used := [] } ∨ p = { state := .erased, used := [] } :=
    (List.mem_cons.mp hp).imp_right List.eq_of_mem_replicate
  rcases page with rfl | rfl
  · exact ⟨by decide, fun _ => by decide, fun r hr => (by cases hr)⟩
  · exact ⟨by decide, fun _ => by decide, fun r hr => (by cases hr)⟩

theorem faultsKept_reset : FaultsKept State.reset := by
  intro f
  have clear : State.reset.faults.get f = .clear := faultTable_empty_get f
  rw [clear]
  rw [if_pos (by rfl)]

/-- Settles O56. -/
theorem resetHoldsDeliveredValues : Obligations.ResetHoldsDeliveredValues := by
  unfold Obligations.ResetHoldsDeliveredValues
  intro s
  refine ⟨fun d => ?deck, fun e => ?ends, rfl, rfl, rfl, rfl, rfl, rfl, rfl, rfl, rfl, rfl, fun g => ?mode,
    rfl, rfl, rfl, fun en mem => ?entries, rfl, rfl, rfl, rfl, fun n h => ?layouts, faultTable_empty_get, rfl,
    zeroKept_reset, outcomesKept_reset, tablesKept_reset, journalKept_reset, faultsKept_reset⟩
  case deck => cases d <;> exact ⟨rfl, rfl, rfl, rfl, rfl, rfl⟩
  case ends => cases e <;> exact ⟨rfl, rfl, rfl, rfl, rfl⟩
  case mode => cases g <;> rfl
  case entries =>
    rw [List.eq_of_mem_replicate mem]
    rfl
  case layouts =>
    rw [layout_reset n h]
    rfl

end Sys2Proof.Machine
end

section
/-! PROOFS. The barrier drivers (R64 to R74): a driver in FAULT and its condition, what the feedback calls
for, the ends of travel and the requests that stand pending. -/

namespace Sys2Proof.Machine

-- One declaration after another: at once they ask for more threads than the check's limits allow.
set_option Elab.async false

variable {s t : State} {e : EndId} {c : BarrierCause}

/-! ### The condition of a driver in FAULT (R73) -/

/-- The BAR condition is present (R73). -/
def barPresent (e : EndId) (s : State) : Bool :=
  decide ((s.driver e).state = .fault ∧ (s.driver e).mode = .confirmed) && !(s.station e).agrees

theorem agrees_iff (t : Station) : t.agrees = true ↔
    if t.driver.commanded = .up then t.lines.up = true ∧ t.lines.down = false
    else t.lines.down = true ∧ t.lines.up = false := by
  unfold Station.agrees
  cases t.driver.commanded <;> simp

theorem barPresent_iff (e : EndId) (s : State) : barPresent e s = true ↔
    (s.driver e).state = .fault ∧ (s.driver e).mode = .confirmed
      ∧ ¬ (if (s.driver e).commanded = .up
            then (s.station e).lines.up = true ∧ (s.station e).lines.down = false
            else (s.station e).lines.down = true ∧ (s.station e).lines.up = false) := by
  have agree := agrees_iff (s.station e)
  rw [barPresent, Bool.and_eq_true, decide_eq_true_iff, and_assoc, Bool.not_eq_true', ← Bool.not_eq_true]
  exact and_congr_right fun _ => and_congr_right fun _ => not_congr agree

theorem barrierCondition_eq (e : EndId) (s : State) : barrierCondition e s =
    if (s.driver e).condition = barPresent e s then s
    else signal (.bar e) (if barPresent e s then .arises else .ends)
      (s.modDriver e fun b => { b with condition := barPresent e s }) := rfl

theorem barrierCondition_stays (h : (s.driver e).condition = barPresent e s) :
    barrierCondition e s = s := if_pos h

theorem barrierCondition_ends (was : (s.driver e).condition = true) (now : barPresent e s = false) :
    barrierCondition e s = condEnds (.bar e) (s.modDriver e fun b => { b with condition := false }) := by
  rw [barrierCondition_eq, was, now]
  rfl

theorem barrierCondition_arises (was : (s.driver e).condition = false) (now : barPresent e s = true) :
    barrierCondition e s = condArises (.bar e) (s.modDriver e fun b => { b with condition := true }) := by
  rw [barrierCondition_eq, was, now]
  rfl

theorem barrierCondition_driver (e : EndId) (s : State) :
    (barrierCondition e s).driver e = { s.driver e with condition := barPresent e s } := by
  by_cases same : (s.driver e).condition = barPresent e s
  · rw [barrierCondition_stays same, ← same]
  · rw [barrierCondition_eq, if_neg same, signal_driver, modDriver_driver]

/-- The entry of a driver whose condition is present before and after is not CLEAR. -/
theorem barrierCondition_entry (h : (s.faults.get (.bar e)).state ≠ .clear) :
    ((barrierCondition e s).faults.get (.bar e)).state ≠ .clear := by
  by_cases same : (s.driver e).condition = barPresent e s
  · rwa [barrierCondition_stays same]
  · rw [barrierCondition_eq, if_neg same, signal_entry, State.modDriver_faults]
    cases barPresent e s with
    | true =>
      rw [if_pos rfl]
      simp [EntryState.after]
    | false =>
      simp only [Bool.false_eq_true, if_false, EntryState.after]
      split
      · decide
      · exact h

/-! ### Entering FAULT (R73) -/

@[simp] theorem Driver.outputsUp_cause (b : Driver) : b.outputsUp.cause = b.cause := by
  unfold Driver.outputsUp
  split <;> rfl
@[simp] theorem Driver.outputsUp_travel (b : Driver) : b.outputsUp.travel = b.travel := by
  unfold Driver.outputsUp
  split <;> rfl
@[simp] theorem Driver.outputsUp_raiseOut (b : Driver) : b.outputsUp.raiseOut = true := by
  unfold Driver.outputsUp
  split <;> rfl

theorem faultSafety_driven (fault : (s.driver e).state = .fault) (down : (s.driver e).commanded = .down)
    (occ : s.safetyOcc e = true) :
    faultSafety e s = barrierCondition e (s.modDriver e Driver.outputsUp) := if_pos ⟨fault, down, occ⟩

theorem faultSafety_driver (fault : (s.driver e).state = .fault) (down : (s.driver e).commanded = .down)
    (occ : s.safetyOcc e = true) : (faultSafety e s).driver e =
      { (s.driver e).outputsUp with condition := barPresent e (s.modDriver e Driver.outputsUp) } := by
  rw [faultSafety_driven fault down occ, barrierCondition_driver, modDriver_driver]

/-- A driver in FAULT driven up keeps its state, cause, timer and pending request (R73). -/
theorem faultSafety_keeps (e : EndId) (s : State) :
    ((faultSafety e s).driver e).state = (s.driver e).state
      ∧ ((faultSafety e s).driver e).cause = (s.driver e).cause
      ∧ ((faultSafety e s).driver e).travel = (s.driver e).travel
      ∧ ((faultSafety e s).driver e).pending = (s.driver e).pending := by
  by_cases h : (s.driver e).state = .fault ∧ (s.driver e).commanded = .down ∧ s.safetyOcc e = true
  · rw [faultSafety_driver h.1 h.2.1 h.2.2]
    simp
  · have same : faultSafety e s = s := if_neg h
    rw [same]
    exact ⟨rfl, rfl, rfl, rfl⟩

/-- A CONFIRMED driver in FAULT (R73). -/
theorem enterBarrierFault_driver (e : EndId) (c : BarrierCause) (s : State) :
    let b := (enterBarrierFault e c s).driver e
    b.state = .fault ∧ b.cause = c ∧ b.travel = .stopped ∧ b.pending ≠ .lower := by
  intro b
  obtain ⟨state, cause, travel, pending⟩ := faultSafety_keeps e (putDriver e ((s.driver e).failed c) s)
  rw [← enterBarrierFault_eq, putDriver_driver] at state cause travel pending
  refine ⟨state, cause, travel, pending.trans_ne ?_⟩
  unfold Driver.failed
  dsimp only
  split
  · decide
  · assumption

theorem DriverOnly.frame (h : DriverOnly e s t) :
    t = { s with ends := t.ends, faults := t.faults, reports := t.reports } := by
  obtain ⟨b, v, r, rfl⟩ := h
  rfl

/-! ### The watch on feedback (R68, R69) -/

theorem withDown_same {h : State → State} (same : (h s).driver e = s.driver e) : withDown e h s = h s := by
  unfold withDown State.barrierDown
  dsimp only
  rw [same, Bool.not_and_self]
  rfl

theorem watchFeedback_fine (h : (s.station e).watch = .fine) : watchFeedback e s = s := by
  rw [watchFeedback, h]

theorem watchFeedback_arrived {st : BarrierState} (h : (s.station e).watch = .arrived st) :
    watchFeedback e s = s.modDriver e fun b => { b with state := st, travel := .stopped } := by
  rw [watchFeedback, h]

theorem watchFeedback_fault (h : (s.station e).watch = .fault c) :
    watchFeedback e s = enterBarrierFault e c s := by
  rw [watchFeedback, h]

theorem watch_of_not_confirmed {t : Station} (h : t.driver.mode ≠ .confirmed) : t.watch = .fine := if_pos h

theorem watch_both {t : Station} (mode : t.driver.mode = .confirmed) (state : t.driver.state ≠ .fault)
    (up : t.lines.up = true) (down : t.lines.down = true) : t.watch = .fault .both := by
  unfold Station.watch
  rw [if_neg (not_not.mpr mode), up, down]
  cases h : t.driver.state with
  | fault => exact absurd h state
  | _ => rfl

theorem watch_raising {t : Station} (mode : t.driver.mode = .confirmed) (state : t.driver.state = .raising)
    (down : t.lines.down = false) : t.watch = if t.lines.up = true then .arrived .up else .fine := by
  unfold Station.watch
  simp [mode, state, down]

theorem watch_lowering {t : Station} (mode : t.driver.mode = .confirmed) (state : t.driver.state = .lowering)
    (up : t.lines.up = false) : t.watch = if t.lines.down = true then .arrived .down else .fine := by
  unfold Station.watch
  simp [mode, state, up]

theorem watch_down {t : Station} (mode : t.driver.mode = .confirmed) (state : t.driver.state = .down) :
    (t.lines.down = false → t.watch = .fault .left)
      ∧ (t.lines.down = true → t.lines.up = false → t.watch = .fine) := by
  unfold Station.watch
  constructor
  · intro down
    simp [mode, state, down]
  · intro down up
    simp [mode, state, down, up]

theorem watch_up {t : Station} (mode : t.driver.mode = .confirmed) (state : t.driver.state = .up)
    (up : t.lines.up = false) : t.watch = .fault .left := by
  unfold Station.watch
  simp [mode, state, up]

/-! ### Events of a driver (R64, R67 to R69, R73) -/

/-- What a driver in FAULT shows, and what else has not changed. -/
theorem faulted_of {i : Instr} (ran : exec i s = .next (enterBarrierFault e c t))
    (before : DriverOnly e s t ∨ ∃ f, t = s.modLines e f) :
    ∃ t', exec i s = .next t' ∧ (t'.driver e).state = .fault ∧ (t'.driver e).cause = c
      ∧ (t'.driver e).travel = .stopped ∧ (t'.driver e).pending ≠ .lower
      ∧ t' = { s with ends := t'.ends, faults := t'.faults, reports := t'.reports }
      ∧ ∀ e', e' ≠ e → t'.station e' = s.station e' := by
  obtain ⟨state, cause, travel, pending⟩ := enterBarrierFault_driver e c t
  have only := enterBarrierFault_driverOnly e c t
  refine ⟨_, ran, state, cause, travel, pending, ?_, fun e' ne => ?_⟩
  · rcases before with h | ⟨f, rfl⟩
    · exact (h.trans only).frame
    · exact only.frame
  · rw [only.station_of_ne ne]
    rcases before with h | ⟨f, rfl⟩
    · exact h.station_of_ne ne
    · exact State.modLines_station_of_ne s f ne

section Travel
variable (running : (s.driver e).travel.isRunning = true)
include running

theorem exec_travel_eq :
    exec (.travelTimerExpiry e) s = .next (withDown e (travelExpires e) s) := if_pos running

theorem exec_travel_raising (state : (s.driver e).state = .raising) (mode : (s.driver e).mode ≠ .confirmed) :
    exec (.travelTimerExpiry e) s
      = .next (s.modDriver e fun b => { b with state := .up, travel := .stopped }) := by
  have up : travelExpires e s = s.modDriver e fun b => { b with state := .up, travel := .stopped } := by
    unfold travelExpires
    dsimp only
    rw [state]
    cases m : (s.driver e).mode with
    | confirmed => exact absurd m mode
    | _ => exact modDriver_modDriver e _ _ s
  rw [exec_travel_eq running, withDown_of_not_down (by rw [up, modDriver_driver]; simp), up]

theorem exec_travel_lowering (state : (s.driver e).state = .lowering) (mode : (s.driver e).mode ≠ .confirmed) :
    exec (.travelTimerExpiry e) s
      = .next (seqBarrierDown e (s.modDriver e fun b => { b with state := .down, travel := .stopped })) := by
  have down : travelExpires e s
      = s.modDriver e fun b => { b with state := .down, travel := .stopped } := by
    unfold travelExpires
    dsimp only
    rw [state]
    cases m : (s.driver e).mode with
    | confirmed => exact absurd m mode
    | _ => exact modDriver_modDriver e _ _ s
  rw [exec_travel_eq running, withDown_of_down (by rw [state]; decide) (by rw [down, modDriver_driver]),
    down]

theorem exec_travel_fault (mode : (s.driver e).mode = .confirmed)
    (h : (s.driver e).state = .raising ∧ c = .notUp ∨ (s.driver e).state = .lowering ∧ c = .notDown) :
    exec (.travelTimerExpiry e) s
      = .next (enterBarrierFault e c (s.modDriver e fun b => { b with travel := .stopped })) := by
  have fault : travelExpires e s
      = enterBarrierFault e c (s.modDriver e fun b => { b with travel := .stopped }) := by
    unfold travelExpires
    rcases h with ⟨state, rfl⟩ | ⟨state, rfl⟩ <;> simp only [state, mode]
  rw [exec_travel_eq running, withDown_of_not_down (by
    rw [fault, (enterBarrierFault_driver _ _ _).1]
    decide), fault]

end Travel

section Feedback
variable {inp : FeedbackInput} {v : Bool}

/-- The state once the reading is written. -/
def fedBack (e : EndId) (inp : FeedbackInput) (v : Bool) (s : State) : State :=
  s.modLines e fun l => setFeedback l inp v

theorem fedBack_driver (e : EndId) (inp : FeedbackInput) (v : Bool) (s : State) :
    (fedBack e inp v s).driver e = s.driver e := modLines_driver e e _ s

theorem exec_feedback : exec (.feedbackChange e inp v) s
    = .next (withDown e (takeFeedback e) (fedBack e inp v s)) := rfl

theorem takeFeedback_of_fault (h : (s.driver e).state = .fault) :
    takeFeedback e s = barrierCondition e s := if_pos h

theorem takeFeedback_of_not_fault (h : (s.driver e).state ≠ .fault) :
    takeFeedback e s = watchFeedback e s := if_neg h

theorem exec_feedback_fine (h : takeFeedback e (fedBack e inp v s) = fedBack e inp v s) :
    exec (.feedbackChange e inp v) s = .next (fedBack e inp v s) := by
  rw [exec_feedback, withDown_same (by rw [h]), h]

theorem exec_feedback_fault (state : (s.driver e).state ≠ .fault)
    (h : ((fedBack e inp v s).station e).watch = .fault c) :
    exec (.feedbackChange e inp v) s = .next (enterBarrierFault e c (fedBack e inp v s)) := by
  have fault : takeFeedback e (fedBack e inp v s) = enterBarrierFault e c (fedBack e inp v s) := by
    rw [takeFeedback_of_not_fault (by rwa [fedBack_driver]), watchFeedback_fault h]
  rw [exec_feedback, withDown_of_not_down (by
    rw [fault, (enterBarrierFault_driver _ _ _).1]
    decide), fault]

theorem exec_feedback_arrived {st : BarrierState} (state : (s.driver e).state ≠ .fault)
    (other : (s.driver e).state ≠ .down)
    (h : ((fedBack e inp v s).station e).watch = .arrived st) :
    exec (.feedbackChange e inp v) s =
      let t := (fedBack e inp v s).modDriver e fun b => { b with state := st, travel := .stopped }
      .next (if st = .down then seqBarrierDown e t else t) := by
  have arrived : takeFeedback e (fedBack e inp v s)
      = (fedBack e inp v s).modDriver e fun b => { b with state := st, travel := .stopped } := by
    rw [takeFeedback_of_not_fault (by rwa [fedBack_driver]), watchFeedback_arrived h]
  rw [exec_feedback, withDown_eq (by rwa [fedBack_driver]), arrived, modDriver_driver]

end Feedback

/-! ### Pending requests (R65, R66, R71) -/

theorem raiseExecuted_down (h : (s.driver e).state = .down ∨ (s.driver e).state = .lowering) :
    raiseExecuted e s = drivenUp e (s.modDriver e fun b => { b with pending := .none }) := by
  unfold raiseExecuted
  rcases h with h | h <;> rw [h] <;> exact startUp_eq _ _

theorem raiseExecuted_up (h : (s.driver e).state = .raising ∨ (s.driver e).state = .up) :
    raiseExecuted e s = s.modDriver e fun b => { b with pending := .none } := by
  unfold raiseExecuted
  rcases h with h | h <;> rw [h] <;> rfl

theorem barrierDown_iff : s.barrierDown e = true ↔ (s.driver e).state = .down := by
  simp [State.barrierDown]

theorem drivenDown_state (b : Driver) (l : EndReadings) :
    (b.mode ≠ .confirmed ∨ l.down = false → (b.drivenDown l).state = .lowering)
      ∧ (b.mode = .confirmed → l.down = true → l.up = false →
          (b.drivenDown l).state = .down ∧ (b.drivenDown l).travel = .stopped)
      ∧ (b.mode = .confirmed → l.down = true → l.up = true →
          (b.drivenDown l).state = .fault ∧ (b.drivenDown l).cause = .both) := by
  refine ⟨fun h => ?_, fun mode down up => ?_, fun mode down up => ?_⟩
  · have not : ¬ (b.mode = .confirmed ∧ l.down = true) := fun ⟨m, d⟩ =>
      h.elim (fun h => h m) fun h => (by rw [h] at d; cases d)
    rw [Driver.drivenDown, if_neg not]
  · rw [Driver.drivenDown, if_pos ⟨mode, down⟩, if_neg (by simp [up])]
    exact ⟨rfl, rfl⟩
  · rw [Driver.drivenDown, if_pos ⟨mode, down⟩, if_pos up]
    exact ⟨rfl, rfl⟩

theorem drivenUp_state (b : Driver) (l : EndReadings) : (b.drivenUp l).state =
    if b.mode ≠ .confirmed ∨ l.up = false then .raising else if l.down = false then .up else .fault := by
  unfold Driver.drivenUp
  cases up : l.up <;> cases down : l.down <;> by_cases mode : b.mode = .confirmed <;>
    simp [mode, Driver.failed]

theorem putDriver_entry {b : Driver} (h : b.state = .fault) :
    ((putDriver e b s).faults.get (.bar e)).state = .active := by
  have arises := signal_entry (.bar e) .arises (s.modDriver e fun _ => b)
  rw [putDriver, if_pos h]
  exact arises

/-- Settles O16. -/
theorem barrierTravelAndPendingRequests : Obligations.BarrierTravelAndPendingRequests := by
  refine ⟨fun e s => ?events, fun e s => ?pending⟩
  case events =>
    intro b ended faulted fb
    refine ⟨fun still => ?_, fun running raising => ⟨fun mode => ?_, fun mode => ?_⟩,
      fun running lowering => ⟨fun mode => ?_, fun mode => ?_⟩, ?_, fun inp v => ⟨fun mode none => ?_,
        fun mode => ?confirmed⟩⟩
    · exact if_neg (by rw [show (s.driver e).travel.isRunning = false from still]; decide)
    · exact exec_travel_raising running raising mode
    · exact faulted_of (exec_travel_fault running mode (.inl ⟨raising, rfl⟩))
        (.inl (modDriver_driverOnly e _ s))
    · exact exec_travel_lowering running lowering mode
    · exact faulted_of (exec_travel_fault running mode (.inr ⟨lowering, rfl⟩))
        (.inl (modDriver_driverOnly e _ s))
    · change execPulseTimerExpiry e s = _
      unfold execPulseTimerExpiry
      split <;> rfl
    · refine exec_feedback_fine ?_
      by_cases fault : b.state = .fault
      · rw [takeFeedback_of_fault (by rwa [fedBack_driver])]
        refine barrierCondition_stays ?_
        have absent : barPresent e (fedBack e inp v s) = false := by
          rw [← Bool.not_eq_true, barPresent_iff, fedBack_driver]
          exact fun h => mode h.2.1
        rw [fedBack_driver, absent]
        exact none fault
      · rw [takeFeedback_of_not_fault (by rwa [fedBack_driver])]
        exact watchFeedback_fine (watch_of_not_confirmed
          (show ((fedBack e inp v s).driver e).mode ≠ _ by rwa [fedBack_driver]))
    case confirmed =>
      intro l
      have driver : ((fedBack e inp v s).station e).driver = b := fedBack_driver e inp v s
      have mode' : ((fedBack e inp v s).station e).driver.mode = .confirmed := by rw [driver]; exact mode
      have state' {x : BarrierState} (h : b.state = x) :
          ((fedBack e inp v s).station e).driver.state = x := by rw [driver]; exact h
      refine ⟨fun state up down => ?_, fun state down => ?_, fun state up => ?_, fun state down => ?_,
        fun state down up => ?_, fun state up => ?_, fun state => ?fault⟩
      · exact faulted_of (exec_feedback_fault state
          (watch_both mode' (by rw [driver]; exact state) up down)) (.inr ⟨_, rfl⟩)
      · have watch := watch_raising mode' (state' state) down
        have free : b.state ≠ .fault ∧ b.state ≠ .down := by rw [state]; decide
        by_cases up : l.up = true
        · rw [if_pos up]
          exact exec_feedback_arrived free.1 free.2 (watch.trans (if_pos up))
        · rw [if_neg up]
          refine exec_feedback_fine ?_
          rw [takeFeedback_of_not_fault (by rw [fedBack_driver]; exact free.1),
            watchFeedback_fine (watch.trans (if_neg up))]
      · have watch := watch_lowering mode' (state' state) up
        have free : b.state ≠ .fault ∧ b.state ≠ .down := by rw [state]; decide
        by_cases down : l.down = true
        · rw [if_pos down]
          exact exec_feedback_arrived free.1 free.2 (watch.trans (if_pos down))
        · rw [if_neg down]
          refine exec_feedback_fine ?_
          rw [takeFeedback_of_not_fault (by rw [fedBack_driver]; exact free.1),
            watchFeedback_fine (watch.trans (if_neg down))]
      · exact faulted_of (exec_feedback_fault (by rw [show (s.driver e).state = _ from state]; decide)
          ((watch_down mode' (state' state)).1 down)) (.inr ⟨_, rfl⟩)
      · refine exec_feedback_fine ?_
        rw [takeFeedback_of_not_fault (by rw [fedBack_driver, show (s.driver e).state = _ from state]; decide),
          watchFeedback_fine ((watch_down mode' (state' state)).2 down up)]
      · exact faulted_of (exec_feedback_fault (by rw [show (s.driver e).state = _ from state]; decide)
          (watch_up mode' (state' state) up)) (.inr ⟨_, rfl⟩)
      case fault =>
        intro agree marked
        have present : barPresent e (fedBack e inp v s) = true ↔ ¬ agree := by
          rw [barPresent_iff, fedBack_driver]
          exact ⟨fun h => h.2.2, fun h => ⟨state, mode, h⟩⟩
        have taken : takeFeedback e (fedBack e inp v s) = barrierCondition e (fedBack e inp v s) :=
          takeFeedback_of_fault (by rwa [fedBack_driver])
        have told {t : State} (h : barrierCondition e (fedBack e inp v s) = t)
            (still : (t.driver e).state = .fault) : exec (.feedbackChange e inp v) s = .next t := by
          rw [exec_feedback, withDown_of_not_down (by rw [taken, h, still]; decide), taken, h]
        have faultAfter : ((barrierCondition e (fedBack e inp v s)).driver e).state = .fault := by
          rw [barrierCondition_driver, fedBack_driver]
          exact state
        refine ⟨fun yes was => ?_, fun no was => ?_, fun same => ?_⟩
        · have done := barrierCondition_ends (e := e) (s := fedBack e inp v s)
            (by rw [fedBack_driver]; exact was) (by rw [← Bool.not_eq_true, present]; exact not_not.mpr yes)
          exact told done (done ▸ faultAfter)
        · have done := barrierCondition_arises (e := e) (s := fedBack e inp v s)
            (by rw [fedBack_driver]; exact was) (present.mpr no)
          exact told done (done ▸ faultAfter)
        · have done := barrierCondition_stays (e := e) (s := fedBack e inp v s) (by
            rw [fedBack_driver, Bool.eq_iff_iff, present, same]
            exact (Bool.not_eq_false _).symm ▸ Iff.rfl)
          exact told done ((congrArg Driver.state (fedBack_driver e inp v s)).trans state)
  case pending =>
    intro b l settled down
    have driver : down.driver e = ({ b with pending := .none } : Driver).drivenDown l := by
      rw [drivenDown_driver, modDriver_driver, modDriver_lines]
    obtain ⟨moves, arrives, fails⟩ := drivenDown_state { b with pending := .none } l
    refine ⟨fun raise state other => ?_, fun h => ?_, fun lower clear state => ?_, fun h => ?_,
      fun mode d u => ?_, fun mode d u => ?_, fun h => ?_⟩
    · refine (if_pos ⟨raise, barrierDown_iff.mpr state, barrierDown_iff.mpr other⟩).trans ?_
      rw [raiseExecuted_down (.inl state)]
    · refine if_neg ?_
      rw [barrierDown_iff, barrierDown_iff]
      tauto
    · have done : lowerRequest e s = down := by
        rw [lowerRequest_eq, lowered, if_pos state.symm, if_neg (by simp [clear])]
      refine (if_pos ⟨lower, clear⟩).trans ?_
      rw [withDown_eq (by rcases state with h | h <;> rw [show (s.driver e).state = _ from h] <;> decide), done]
    · rw [driver]
      exact moves h
    · rw [driver]
      exact arrives mode d u
    · rw [driver]
      obtain ⟨state, cause⟩ := fails mode d u
      refine ⟨state, cause, putDriver_entry ?_⟩
      rw [modDriver_driver, modDriver_lines]
      exact state
    · by_cases due : b.pending = .lower ∧ s.safetyOcc e = false
      · have state : b.state = .down ∨ b.state = .lowering ∨ b.state = .fault := by
          obtain ⟨lower, clear⟩ := due
          rcases h with h | h | h
          · exact absurd lower h
          · rw [clear] at h
            cases h
          · exact h
        have idle : lowerRequest e s = s := by
          unfold lowerRequest
          rw [show (s.driver e).pending = .lower from due.1]
          rcases state with h | h | h <;> rw [show (s.driver e).state = _ from h] <;> rfl
        refine (if_pos due).trans ?_
        rw [withDown_same (by rw [idle]), idle]
      · exact if_neg due

end Sys2Proof.Machine
end

section
/-! PROOFS. The barrier command lines and the polarity settings (R58, R62, R63, R76, R77, R79), and the
safety loop's events (R59, R61, R70, R109, R111). -/

namespace Sys2Proof.Machine

-- One declaration after another: at once they ask for more threads than the check's limits allow.
set_option Elab.async false

variable {s t : State} {e : EndId}

/-! ### BARRIER RAISE and LOWER (R76, R77) -/

theorem upward_iff (x : BarrierState) : x.upward = true ↔ x = .raising ∨ x = .up := by
  cases x <;> simp [BarrierState.upward]

theorem exec_barrierRaise_refused
    (h : ¬ ((s.part.run = true ∧ (s.deck e.deck).settings.mode = .closed ∧ (s.driver e).state ≠ .fault)
      ∧ ((s.driver e.other).state = .down ∨ (s.driver e).state = .raising ∨ (s.driver e).state = .up))) :
    exec (.barrierRaise e) s = refuse .state s := by
  refine if_neg ?_
  rw [barrierDown_iff, upward_iff]
  tauto

theorem exec_barrierRaise_taken
    (manual : s.part.run = true ∧ (s.deck e.deck).settings.mode = .closed ∧ (s.driver e).state ≠ .fault)
    (free : (s.driver e.other).state = .down ∨ (s.driver e).state = .raising ∨ (s.driver e).state = .up) :
    exec (.barrierRaise e) s
      = answer (.ok [barrierWord ((raiseExecuted e s).driver e).state]) (raiseExecuted e s) := by
  refine if_pos ?_
  rw [barrierDown_iff, upward_iff]
  tauto

theorem exec_barrierLower_taken
    (manual : s.part.run = true ∧ (s.deck e.deck).settings.mode = .closed ∧ (s.driver e).state ≠ .fault) :
    exec (.barrierLower e) s
      = answer (.ok (barrierWord ((lowered e s).driver e).state
          :: if ((lowered e s).driver e).pending = .lower then ["PENDING"] else [])) (lowered e s) := by
  refine (if_pos manual).trans ?_
  rw [lowerRequest_eq]

theorem lowered_down (h : (s.driver e).state = .down ∨ (s.driver e).state = .lowering) :
    lowered e s = if (s.driver e).pending = .raise then s.modDriver e fun b => { b with pending := .none }
      else s := by
  refine if_neg ?_
  rcases h with h | h <;> simp [h]

theorem lowered_occupied (h : (s.driver e).state = .raising ∨ (s.driver e).state = .up)
    (occ : s.safetyOcc e = true) : lowered e s = s.modDriver e fun b => { b with pending := .lower } := by
  rw [lowered, if_pos h.symm, if_pos occ]

theorem lowered_clear (h : (s.driver e).state = .raising ∨ (s.driver e).state = .up)
    (clear : s.safetyOcc e = false) :
    lowered e s = drivenDown e (s.modDriver e fun b => { b with pending := .none }) := by
  rw [lowered, if_pos h.symm, if_neg (by simp [clear])]

theorem drivenUp_driver (e : EndId) (s : State) :
    (drivenUp e s).driver e = (s.driver e).drivenUp (s.station e).lines := putDriver_driver _ _ _

theorem drivenDown_state_eq (b : Driver) (l : EndReadings) : (b.drivenDown l).state =
    if b.mode ≠ .confirmed ∨ l.down = false then .lowering else if l.up = false then .down else .fault := by
  unfold Driver.drivenDown
  cases up : l.up <;> cases down : l.down <;> by_cases mode : b.mode = .confirmed <;>
    simp [mode, Driver.failed]

/-- A drive down leaves no lower pending where none was. -/
theorem drivenDown_pending (b : Driver) (l : EndReadings) (h : b.pending ≠ .lower) :
    (b.drivenDown l).pending ≠ .lower := by
  unfold Driver.drivenDown
  split
  · split
    · simp [Driver.failed, h]
    · simpa using h
  · simpa using h

/-! ### BARRIER MODE (R62) -/

theorem inMode_eq (b : Driver) (m : DriveMode) : b.inMode m =
    { b with
      mode := m, pulsing := false, lowerOut := false
      raiseOut := decide (m ≠ .pulse ∧ b.commanded = .up) } := by
  cases m <;> simp [Driver.inMode]

section Mode
variable (setup : s.part.run = false) {m : DriveMode}
include setup

theorem exec_barrierMode_busy
    (h : (s.driver e).state = .raising ∨ (s.driver e).state = .up ∨ (s.driver e).state = .lowering) :
    exec (.barrierMode e (some m)) s = refuse .busy s := by
  refine (laneWrite_of_setup setup).trans ?_
  rcases h with h | h | h <;> rw [h]

theorem exec_barrierMode
    (h : (s.driver e).state = .down ∨ (s.driver e).state = .fault) :
    exec (.barrierMode e (some m)) s
      = answer (.ok []) (if (s.driver e).mode = m then s else changeMode e m s) := by
  refine (laneWrite_of_setup setup).trans ?_
  rcases h with h | h <;> rw [h]

end Mode

theorem modDriver_congr {f g : Driver → Driver} (h : f (s.driver e) = g (s.driver e)) :
    s.modDriver e f = s.modDriver e g := by
  rw [modDriver_const e f, modDriver_const e g, h]

theorem changeMode_fault {m : DriveMode} (h : (s.driver e).state = .fault) :
    changeMode e m s = barrierCondition e (s.modDriver e fun b => b.inMode m) := by
  rw [changeMode, h]

theorem changeMode_down {m : DriveMode} (h : (s.driver e).state = .down) :
    changeMode e m s =
      if m = .confirmed ∧ ¬ ((s.station e).lines.down = true ∧ (s.station e).lines.up = false) then
        enterBarrierFault e .notDown (s.modDriver e fun b => b.inMode m)
      else s.modDriver e fun b => b.inMode m := by
  rw [changeMode, h]
  dsimp only
  refine if_congr (and_congr_right fun _ => ?_) rfl rfl
  rw [← Bool.not_eq_true, Bool.and_eq_true, Bool.not_eq_true']

/-- The condition of a driver in FAULT whose mode was changed. -/
theorem barPresent_inMode {m : DriveMode} (h : (s.driver e).state = .fault) :
    barPresent e (s.modDriver e fun b => b.inMode m) = true ↔
      ¬ (m ≠ .confirmed ∨ if (s.driver e).commanded = .up
          then (s.station e).lines.up = true ∧ (s.station e).lines.down = false
          else (s.station e).lines.down = true ∧ (s.station e).lines.up = false) := by
  rw [barPresent_iff, modDriver_driver, modDriver_lines, inMode_eq, not_or, not_not]
  exact ⟨fun k => k.2, fun k => ⟨h, k⟩⟩

theorem barrierQuery_lamp (e : EndId) (s : State) : lampWord (s.lamp e) =
    if (s.driver e).state = .up ∧ (s.deck e.deck).seq.passage = some e then "GREEN"
    else if (s.deck e.deck).capture.drawForward = true ∧ (s.deck e.deck).seq.approach = some e.other
      then "FLASH"
    else "RED" := by
  have departs : (s.deck e.deck).seq.departure = some e ↔ (s.deck e.deck).seq.approach = some e.other := by
    unfold Sequencer.departure
    cases (s.deck e.deck).seq.approach with
    | none => simp
    | some a => cases a <;> cases e <;> decide
  unfold State.lamp
  simp only [departs]
  split_ifs <;> rfl

theorem feedbackWord_eq (l : EndReadings) : feedbackWord l =
    if l.up = true ∧ l.down = true then "BOTH" else if l.up then "UP" else if l.down then "DOWN"
    else "NONE" := by
  unfold feedbackWord
  cases l.up <;> cases l.down <;> rfl

/-- Settles O18. -/
theorem barrierCommandsAndPolarity : Obligations.BarrierCommandsAndPolarity := by
  refine ⟨fun e s => ?barrier, fun e d s => ?polarity⟩
  case barrier =>
    intro b l u put manual
    have cleared : (put fun b => { b with pending := .none }).driver e = { b with pending := .none } :=
      modDriver_driver _ _ _
    have sameLines (f : Driver → Driver) : ((put f).station e).lines = l := modDriver_lines _ _ _
    refine ⟨exec_barrierRaise_refused, fun hand up => ?_, fun hand other state => ?_, fun no => if_neg no,
      fun hand => ⟨fun state => ?_, fun state occ => ?_, fun state clear => ?_⟩,
      fun run m v => ⟨laneWrite_of_run run, laneWrite_of_run run⟩, fun setup => ?setup, rfl, fun v => rfl,
      rfl, rfl, rfl, ?query⟩
    · refine (exec_barrierRaise_taken hand (.inr up)).trans ?_
      rw [raiseExecuted_up up, modDriver_driver]
      rfl
    · refine (exec_barrierRaise_taken hand (.inl other)).trans ?_
      rw [raiseExecuted_down state, drivenUp_driver, cleared, sameLines, drivenUp_state]
      by_cases moves : b.mode ≠ .confirmed ∨ l.up = false
      · rw [if_pos moves, if_pos moves]
        rfl
      · rw [if_neg moves, if_neg moves]
        cases l.down <;> rfl
    · refine (exec_barrierLower_taken hand).trans ?_
      rw [lowered_down state]
      by_cases raise : b.pending = .raise
      · have other : ¬ b.pending = .lower := by rw [raise]; decide
        rw [if_pos raise, modDriver_driver, if_neg other]
        rfl
      · rw [if_neg raise]
        rfl
    · refine (exec_barrierLower_taken hand).trans ?_
      rw [lowered_occupied state occ, modDriver_driver]
      rfl
    · refine (exec_barrierLower_taken hand).trans ?_
      rw [lowered_clear state clear, drivenDown_driver, cleared, sameLines,
        if_neg (drivenDown_pending _ _ (by simp)), drivenDown_state_eq]
      by_cases moves : b.mode ≠ .confirmed ∨ l.down = false
      · rw [if_pos moves, if_pos moves]
        rfl
      · rw [if_neg moves, if_neg moves]
        cases l.up <;> rfl
    case query =>
      change execBarrierQuery e s = _
      have occupied : loopWord (s.safetyOcc e) = if l.safety = true ∨ l.loopfault = true then "OCC" else "CLEAR" := by
        change (if (l.safety || l.loopfault) = true then _ else _) = _
        cases l.safety <;> cases l.loopfault <;> rfl
      unfold execBarrierQuery
      dsimp only
      rw [barrierQuery_lamp, feedbackWord_eq, occupied]
      rfl
    case setup =>
      refine ⟨laneWrite_of_setup setup, fun m state => exec_barrierMode_busy setup state, fun state => ?_,
        fun m state other calm => ?_, fun m other => ?turned, laneWrite_of_setup setup,
        fun v => laneWrite_of_setup setup⟩
      · exact (exec_barrierMode setup state).trans (congrArg (answer _) (if_pos rfl))
      · refine (exec_barrierMode setup (.inl state)).trans (congrArg (answer _) ?_)
        rw [if_neg other.symm, changeMode_down state, if_neg (by tauto)]
        exact modDriver_congr (inMode_eq b m)
      case turned =>
        intro turned agree quiet
        have changed (state : b.state = .down ∨ b.state = .fault) :
            exec (.barrierMode e (some m)) s = answer (.ok []) (changeMode e m s) :=
          (exec_barrierMode setup state).trans (congrArg (answer _) (if_neg (Ne.symm other)))
        have driver : (s.modDriver e fun b => b.inMode m).driver e = turned b.condition := by
          rw [modDriver_driver, inMode_eq]
        have lit (c : Bool) : ((s.modDriver e fun b => b.inMode m).modDriver e fun b => { b with condition := c })
            = put fun _ => turned c := by
          rw [modDriver_modDriver]
          exact modDriver_congr (by rw [inMode_eq])
        refine ⟨fun state calm was => ?_, fun state loud was => ?_, fun state same => ?_,
          fun state mode bad => ?failed⟩
        · have absent : barPresent e (s.modDriver e fun b => b.inMode m) = false := by
            rw [← Bool.not_eq_true, barPresent_inMode state]
            exact not_not.mpr calm
          refine (changed (.inr state)).trans (congrArg (answer _) ?_)
          rw [changeMode_fault state, barrierCondition_ends (by rw [driver]; exact was) absent, lit]
        · have present := (barPresent_inMode (m := m) state).mpr loud
          refine (changed (.inr state)).trans (congrArg (answer _) ?_)
          rw [changeMode_fault state, barrierCondition_arises (by rw [driver]; exact was) present, lit]
        · refine (changed (.inr state)).trans (congrArg (answer _) ?_)
          rw [changeMode_fault state, barrierCondition_stays]
          · exact modDriver_congr (inMode_eq b m)
          · rw [driver, Bool.eq_iff_iff, barPresent_inMode state]
            change b.condition = true ↔ ¬ quiet
            rw [same, Bool.not_eq_false]
        case failed =>
          intro failed
          have fails : changeMode e m s = faultSafety e (putDriver e failed s) := by
            rw [changeMode_down state, if_pos ⟨mode, bad⟩, enterBarrierFault_eq, driver, putDriver_modDriver]
            rfl
          have arises : putDriver e failed s = condArises (.bar e) (put fun _ => failed) := by
            rw [putDriver, if_pos (show failed.state = .fault from rfl)]
          have has : (putDriver e failed s).driver e = failed := putDriver_driver e failed s
          refine ⟨fun free => ?_, fun down occ => ?_⟩
          · refine (changed (.inl state)).trans (congrArg (answer _) ?_)
            rw [fails, faultSafety_fine, arises]
            rw [has, putDriver_safetyOcc]
            exact free
          · have only : DriverOnly e s (changeMode e m s) := by
              rw [changeMode_down state, if_pos ⟨mode, bad⟩]
              exact (modDriver_driverOnly e _ s).trans (enterBarrierFault_driverOnly e _ _)
            have occ' : (putDriver e failed s).safetyOcc e = true := (putDriver_safetyOcc e failed s).trans occ
            have faultNow : ((putDriver e failed s).driver e).state = .fault := by rw [has]
            have downNow : ((putDriver e failed s).driver e).commanded = .down := by rw [has]; exact down
            refine ⟨_, changed (.inl state), ?_, ?_, fun e' ne => only.station_of_ne ne, only.frame⟩
            · have up : failed.outputsUp = { failed with commanded := .up, raiseOut := true } := by
                have confirmed : failed.mode = .confirmed := mode
                unfold Driver.outputsUp
                rw [confirmed]
              have lines : (((putDriver e failed s).modDriver e Driver.outputsUp).station e).lines = l := by
                rw [modDriver_lines, arises]
                exact (condArises_driverOnly e _).lines e |>.trans (modDriver_lines e _ s)
              have present : barPresent e ((putDriver e failed s).modDriver e Driver.outputsUp)
                  = decide (¬ (l.up = true ∧ l.down = false)) := by
                rw [Bool.eq_iff_iff, barPresent_iff, decide_eq_true_iff, modDriver_driver, has, lines, up]
                exact ⟨fun h => (by simpa using h.2.2), fun h => ⟨rfl, mode, by simpa using h⟩⟩
              rw [fails, faultSafety_driver faultNow downNow occ', present, has, up]
            · rw [fails, faultSafety_driven faultNow downNow occ']
              exact barrierCondition_entry (by rw [State.modDriver_faults, putDriver_entry rfl]; decide)
  case polarity =>
    refine ⟨fun run a b c => ⟨laneWrite_of_run run, laneWrite_of_run run, laneWrite_of_run run⟩,
      fun setup => ⟨laneWrite_of_setup setup, laneWrite_of_setup setup, laneWrite_of_setup setup,
        fun l v => ?_, fun l v => laneWrite_of_setup setup,
        fun v => ⟨laneWrite_of_setup setup, laneWrite_of_setup setup⟩⟩, rfl, rfl, rfl, fun l => rfl,
      fun l => rfl, rfl, rfl⟩
    intro t
    refine ⟨fun same => (laneWrite_of_setup setup).trans (if_pos same), fun other => ?_⟩
    refine ((laneWrite_of_setup setup).trans (if_neg other)).trans (congrArg (answer _) ?_)
    change polarityEffect e l t = _
    have reading : (t.station e).lines.safety = (s.station e).lines.safety := by cases e <;> rfl
    unfold polarityEffect
    rw [reading]
    cases l <;> cases (s.station e).lines.safety <;> rfl

end Sys2Proof.Machine
end

section
/-! PROOFS. The safety loop and its detector's fault line (R59, R61, R70, R71, R109, R111). -/

namespace Sys2Proof.Machine

-- One declaration after another: at once they ask for more threads than the check's limits allow.
set_option Elab.async false

variable {s t : State} {e : EndId} {f : EndReadings → EndReadings}

/-! ### The sequencer and the safety reading (R109, R111) -/

theorem passageEnd_iff (q : Sequencer) (e : EndId) : q.passageEnd = some e ↔
    ((q.state = .entering ∨ q.state = .ejecting) ∧ q.approach = some e)
      ∨ (q.state = .departing ∧ q.approach = some e.other) := by
  have departs : q.departure = some e ↔ q.approach = some e.other := by
    unfold Sequencer.departure
    cases q.approach with
    | none => simp
    | some a => cases a <;> cases e <;> decide
  unfold Sequencer.passageEnd
  cases h : q.state <;> simp [departs]

theorem seqSafety_elsewhere (h : (s.deck e.deck).seq.passageEnd ≠ some e) (occ : Bool) :
    seqSafety e occ s = s := if_neg h

theorem seqSafety_clear (h : (s.deck e.deck).seq.passageEnd = some e) :
    seqSafety e false s = s.modSeq e.deck fun q => { q with tailgate := .stopped } := if_pos h

theorem seqSafety_occupied (h : (s.deck e.deck).seq.passageEnd = some e) :
    seqSafety e true s = s.modSeq e.deck fun q => { q with
      passageMark := true
      tailgate := if q.state = .ejecting then q.tailgate
        else .running (s.deck e.deck).settings.tailgateTime } := by
  refine (if_pos h).trans ((if_pos rfl).trans (State.modDeck_congr ?_))
  have states := (passageEnd_iff _ _).mp h
  rcases states with ⟨state | state, -⟩ | ⟨state, -⟩ <;> simp [state, SeqState.tailgated]

/-- The sequencer's part touches its deck alone. -/
theorem seqSafety_frame (e : EndId) (occ : Bool) (s : State) :
    seqSafety e occ s = { s with decks := (seqSafety e occ s).decks } := by
  unfold seqSafety
  dsimp only
  split
  · cases occ <;> rfl
  · rfl

/-! ### The driver and the safety reading (R70, R73) -/

theorem drivenUp_congr {l l' : EndReadings} (b : Driver) (up : l'.up = l.up) (down : l'.down = l.down) :
    b.drivenUp l' = b.drivenUp l := by
  unfold Driver.drivenUp
  rw [up, down]

theorem driverSafetyOccupied_stays (h : (s.driver e).state = .down ∨ (s.driver e).state = .raising
    ∨ (s.driver e).state = .up) : driverSafetyOccupied e s = s := by
  unfold driverSafetyOccupied
  rcases h with h | h | h <;> rw [h]

theorem driverSafetyOccupied_reverses (h : (s.driver e).state = .lowering) :
    driverSafetyOccupied e s = drivenUp e (setPending e .lower s) := by
  unfold driverSafetyOccupied
  rw [h]
  exact startUp_eq _ _

theorem driverSafetyOccupied_fault (h : (s.driver e).state = .fault) :
    driverSafetyOccupied e s = faultSafety e s := by
  unfold driverSafetyOccupied
  rw [h]

/-! ### A change of the lines that make the reading (R61) -/

theorem safetyChange_rises (before : s.safetyOcc e = false) (after : (s.modLines e f).safetyOcc e = true) :
    safetyChange e f s = seqSafety e true (driverSafetyOccupied e (s.modLines e f)) := by
  unfold safetyChange
  dsimp only
  rw [before, after]

theorem safetyChange_falls (before : s.safetyOcc e = true) (after : (s.modLines e f).safetyOcc e = false) :
    safetyChange e f s = seqSafety e false (s.modLines e f) := by
  unfold safetyChange
  dsimp only
  rw [before, after]

theorem safetyChange_same (same : (s.modLines e f).safetyOcc e = s.safetyOcc e) :
    safetyChange e f s = s.modLines e f := by
  unfold safetyChange
  dsimp only
  rw [same]
  cases s.safetyOcc e <;> rfl

theorem modLines_safetyOcc (e : EndId) (f : EndReadings → EndReadings) (s : State) :
    (s.modLines e f).safetyOcc e = safetyReading (f (s.station e).lines) := by
  rw [State.safetyOcc, State.modLines_station]

/-- The driver once the reading is occupied. -/
theorem safetyChange_driver (e : EndId) (f : EndReadings → EndReadings) (s : State)
    (before : s.safetyOcc e = false) (after : (s.modLines e f).safetyOcc e = true) :
    (safetyChange e f s).driver e = (driverSafetyOccupied e (s.modLines e f)).driver e := by
  rw [safetyChange_rises before after, seqSafety_frame]
  rfl

/-- A change of the reading leaves the rest alone. -/
theorem safetyChange_frame (e : EndId) (f : EndReadings → EndReadings) (s : State) :
    let t := safetyChange e f s
    t = { s with decks := t.decks, ends := t.ends, faults := t.faults, reports := t.reports }
      ∧ (∀ e', e' ≠ e → t.station e' = s.station e') ∧ (t.station e).machine = (s.station e).machine
      ∧ (t.station e).lines = f (s.station e).lines ∧ ∀ g, g ≠ .bar e → t.faults.get g = s.faults.get g := by
  have moved : let t := s.modLines e f
      t = { s with decks := t.decks, ends := t.ends, faults := t.faults, reports := t.reports }
        ∧ (∀ e', e' ≠ e → t.station e' = s.station e') ∧ (t.station e).machine = (s.station e).machine
        ∧ (t.station e).lines = f (s.station e).lines
        ∧ ∀ g, g ≠ .bar e → t.faults.get g = s.faults.get g := by
    refine ⟨rfl, fun e' ne => State.modLines_station_of_ne s f ne, ?_, ?_, fun g _ => rfl⟩ <;>
      rw [State.modLines_station]
  have told (occ : Bool) (u : State) (only : DriverOnly e (s.modLines e f) u) :
      let t := seqSafety e occ u
      t = { s with decks := t.decks, ends := t.ends, faults := t.faults, reports := t.reports }
        ∧ (∀ e', e' ≠ e → t.station e' = s.station e') ∧ (t.station e).machine = (s.station e).machine
        ∧ (t.station e).lines = f (s.station e).lines
        ∧ ∀ g, g ≠ .bar e → t.faults.get g = s.faults.get g := by
    obtain ⟨-, others, machine, lines, faults⟩ := moved
    have ends : (seqSafety e occ u).ends = u.ends := by rw [seqSafety_frame]
    have kept : (seqSafety e occ u).faults = u.faults := by rw [seqSafety_frame]
    have station (x : EndId) : (seqSafety e occ u).station x = u.station x := congrArg (PerEnd.get · x) ends
    refine ⟨?_, fun e' ne => ?_, ?_, ?_, fun g hg => ?_⟩
    · rw [seqSafety_frame, only.frame]
      rfl
    · rw [station, only.station_of_ne ne, others e' ne]
    · rw [station]
      exact (only.machine e).trans machine
    · rw [station, only.lines, lines]
    · rw [kept, only.fault_of_ne hg, faults g hg]
  intro t
  cases before : s.safetyOcc e <;> cases after : (s.modLines e f).safetyOcc e
  · rw [show t = s.modLines e f from safetyChange_same (after.trans before.symm)]
    exact moved
  · rw [show t = _ from safetyChange_rises before after]
    exact told _ _ (driverSafetyOccupied_driverOnly e _)
  · rw [show t = _ from safetyChange_falls before after]
    exact told _ _ (.refl e _)
  · rw [show t = s.modLines e f from safetyChange_same (after.trans before.symm)]
    exact moved

theorem safetyChange_decks (e : EndId) (f : EndReadings → EndReadings) (s : State) :
    let u := s.deck e.deck
    (s.safetyOcc e = false → (s.modLines e f).safetyOcc e = true → u.seq.passageEnd = some e →
        (safetyChange e f s).decks = s.decks.set e.deck { u with seq := { u.seq with
          passageMark := true
          tailgate := if u.seq.state = .ejecting then u.seq.tailgate
            else .running u.settings.tailgateTime } })
      ∧ (s.safetyOcc e = true → (s.modLines e f).safetyOcc e = false → u.seq.passageEnd = some e →
        (safetyChange e f s).decks = s.decks.set e.deck { u with seq := { u.seq with tailgate := .stopped } })
      ∧ ((s.modLines e f).safetyOcc e = s.safetyOcc e ∨ u.seq.passageEnd ≠ some e →
        (safetyChange e f s).decks = s.decks) := by
  intro u
  have only := driverSafetyOccupied_driverOnly e (s.modLines e f)
  have deck : (driverSafetyOccupied e (s.modLines e f)).deck e.deck = u := only.deck _
  refine ⟨fun before after through => ?_, fun before after through => ?_, fun h => ?_⟩
  · rw [safetyChange_rises before after, seqSafety_occupied (by rw [deck]; exact through), deck]
    rw [State.modSeq, State.modDeck_decks, only.decks]
    rfl
  · rw [safetyChange_falls before after, seqSafety_clear (s := s.modLines e f) through]
    rfl
  · rcases h with same | elsewhere
    · rw [safetyChange_same same]
      rfl
    · cases before : s.safetyOcc e <;> cases after : (s.modLines e f).safetyOcc e
      · rw [safetyChange_same (after.trans before.symm)]
        rfl
      · rw [safetyChange_rises before after, seqSafety_elsewhere (by rw [deck]; exact elsewhere)]
        exact only.decks
      · rw [safetyChange_falls before after, seqSafety_elsewhere (s := s.modLines e f) elsewhere]
        rfl
      · rw [safetyChange_same (after.trans before.symm)]
        rfl

/-- Clearing a line leaves the driver and the fault table alone. -/
theorem safetyChange_falling (h : (s.modLines e f).safetyOcc e = true → s.safetyOcc e = true) :
    (safetyChange e f s).driver e = s.driver e ∧ (safetyChange e f s).faults = s.faults := by
  cases before : s.safetyOcc e <;> cases after : (s.modLines e f).safetyOcc e
  · rw [safetyChange_same (after.trans before.symm)]
    exact ⟨modLines_driver e e f s, rfl⟩
  · exact absurd (h after) (by rw [before]; decide)
  · rw [safetyChange_falls before after, seqSafety_frame]
    exact ⟨modLines_driver e e f s, rfl⟩
  · rw [safetyChange_same (after.trans before.symm)]
    exact ⟨modLines_driver e e f s, rfl⟩

/-! ### The loop's events -/

/-- What a reading that becomes occupied calls for at the driver (R70, R73). -/
theorem safetyChange_driver_spec (up : (f (s.station e).lines).up = (s.station e).lines.up)
    (down : (f (s.station e).lines).down = (s.station e).lines.down)
    (after : (s.modLines e f).safetyOcc e = true) :
    let b := s.driver e
    let t := safetyChange e f s
    (b.state = .down ∨ b.state = .raising ∨ b.state = .up ∨ s.safetyOcc e = true → t.driver e = b)
      ∧ (s.safetyOcc e = false → b.state = .lowering →
          t.driver e = Driver.drivenUp { b with pending := .lower } (s.station e).lines
            ∧ ((t.driver e).state = .fault → (t.faults.get (.bar e)).state = .active))
      ∧ (s.safetyOcc e = false → b.state = .fault → b.commanded = .down →
          (t.driver e).state = .fault ∧ (t.driver e).commanded = .up ∧ (t.driver e).raiseOut = true) := by
  intro b t
  have moved : (s.modLines e f).driver e = b := modLines_driver e e f s
  refine ⟨fun h => ?_, fun before lowering => ?_, fun before fault commanded => ?_⟩
  · cases before : s.safetyOcc e with
    | true =>
      rw [show t = _ from safetyChange_same (after.trans before.symm)]
      exact moved
    | false =>
      rw [before] at h
      rw [show t.driver e = _ from safetyChange_driver e f s before after,
        driverSafetyOccupied_stays (by rw [moved]; tauto), moved]
  · have reversed : driverSafetyOccupied e (s.modLines e f)
        = drivenUp e (setPending e .lower (s.modLines e f)) :=
      driverSafetyOccupied_reverses (by rw [moved]; exact lowering)
    have driver : t.driver e = Driver.drivenUp { b with pending := .lower } (s.station e).lines := by
      rw [show t.driver e = _ from safetyChange_driver e f s before after, reversed, drivenUp_driver,
        setPending, modDriver_driver, modDriver_lines, moved, State.modLines_station,
        drivenUp_congr _ up down]
    refine ⟨driver, fun fault => ?_⟩
    have faults : t.faults = (drivenUp e (setPending e .lower (s.modLines e f))).faults := by
      rw [show t = _ from safetyChange_rises before after, seqSafety_frame, reversed]
    rw [faults]
    refine putDriver_entry ?_
    rw [setPending, modDriver_driver, modDriver_lines, moved, State.modLines_station,
      drivenUp_congr _ up down, ← driver]
    exact fault
  · rw [show t.driver e = _ from safetyChange_driver e f s before after,
      driverSafetyOccupied_fault (by rw [moved]; exact fault),
      faultSafety_driver (by rw [moved]; exact fault) (by rw [moved]; exact commanded) after, moved]
    exact ⟨(Driver.outputsUp_state b).trans fault, Driver.outputsUp_commanded b, Driver.outputsUp_raiseOut b⟩

theorem condArises_loop (e : EndId) (s : State) : ∃ v r,
    condArises (.loop e) s = { s with faults := s.faults.set (.loop e) v, reports := r }
      ∧ v.state = .active := by
  obtain ⟨v, r, h, active, -⟩ := condArises_spec s (.loop e)
  exact ⟨v, r, h, active⟩

theorem ends_not_active (x : EntryState) : x.after .ends ≠ .active := by
  cases x <;> decide

theorem exec_loopfaultActive_on (on : (s.station e).lines.loopfault = true) :
    exec (.loopfaultActive e) s = .next s := congrArg Host.Outcome.next (if_pos on)

theorem exec_loopfaultActive_off (off : (s.station e).lines.loopfault = false) :
    exec (.loopfaultActive e) s =
      .next (condArises (.loop e) (safetyChange e (fun l => { l with loopfault := true }) s)) :=
  congrArg Host.Outcome.next (if_neg (by rw [off]; decide))

theorem exec_loopfaultInactive_off (off : (s.station e).lines.loopfault = false) :
    exec (.loopfaultInactive e) s = .next s := if_neg (by rw [off]; decide)

theorem exec_loopfaultInactive_on (on : (s.station e).lines.loopfault = true) :
    exec (.loopfaultInactive e) s =
      .next (condEnds (.loop e) (safetyChange e (fun l => { l with loopfault := false }) s)) := if_pos on

/-- Settles O15: each event is a change of the lines that make the reading, the fault line's with its own
signal after it. -/
theorem safetyLoopEvents : Obligations.SafetyLoopEvents := by
  intro e s l b only u q through cleared becomesOccupied
  have passes : through ↔ q.passageEnd = some e := (passageEnd_iff q e).symm
  have frame (f : EndReadings → EndReadings) : only (safetyChange e f s) := by
    obtain ⟨frame, others, machine, -⟩ := safetyChange_frame e f s
    exact ⟨frame, others, machine⟩
  have lines (f : EndReadings → EndReadings) : ((safetyChange e f s).station e).lines = f l :=
    (safetyChange_frame e f s).2.2.2.1
  have reads (f : EndReadings → EndReadings) : (safetyChange e f s).safetyOcc e = safetyReading (f l) := by
    rw [State.safetyOcc, lines f]
  have occupied (f : EndReadings → EndReadings) (up : (f l).up = l.up) (down : (f l).down = l.down)
      (occ : safetyReading (f l) = true) : becomesOccupied (safetyChange e f s) := by
    have after : (s.modLines e f).safetyOcc e = true := (modLines_safetyOcc e f s).trans occ
    obtain ⟨rises, -, stays⟩ := safetyChange_decks e f s
    obtain ⟨still, reversed, driven⟩ := safetyChange_driver_spec (s := s) up down after
    refine ⟨frame f, (reads f).trans occ, fun before pass => rises before after (passes.mp pass), fun no => ?_,
      still, reversed, driven⟩
    refine stays ?_
    cases before : s.safetyOcc e with
    | true => exact .inl after
    | false => exact .inr fun pass => no ⟨before, passes.mpr pass⟩
  have clears (f : EndReadings → EndReadings) (now : Bool) (reading : safetyReading (f l) = now)
      (before : s.safetyOcc e = false → now = false) : cleared (safetyChange e f s) now := by
    have after : (s.modLines e f).safetyOcc e = now := (modLines_safetyOcc e f s).trans reading
    obtain ⟨-, falls, stays⟩ := safetyChange_decks e f s
    refine ⟨fun occ free pass => falls occ (after.trans free) (passes.mp pass), fun no => stays ?_⟩
    by_cases pass : q.passageEnd = some e
    · left
      rw [after]
      cases occ : s.safetyOcc e with
      | false => exact before occ
      | true =>
        cases free : now with
        | true => rfl
        | false => exact absurd ⟨occ, free, passes.mpr pass⟩ no
    · exact .inr pass
  have reading : s.safetyOcc e = (l.safety || l.loopfault) := rfl
  have falling (f : EndReadings → EndReadings) (h : safetyReading (f l) = true → s.safetyOcc e = true) :=
    safetyChange_falling (s := s) (e := e) (f := f) fun occ => h ((modLines_safetyOcc e f s).symm.trans occ)
  refine ⟨⟨_, rfl, occupied _ rfl rfl rfl, lines _⟩, ⟨_, rfl, frame _, ?_⟩, fun on => exec_loopfaultActive_on on,
    fun off => ⟨_, exec_loopfaultActive_off off, ?_⟩, fun off => exec_loopfaultInactive_off off,
    fun on => ⟨_, exec_loopfaultInactive_on on, ?_⟩⟩
  · have line : safetyReading { l with safety := false } = l.loopfault := Bool.false_or _
    obtain ⟨driver, faults⟩ := falling (fun l => { l with safety := false }) fun occ => by
      rw [reading, ← line, occ, Bool.or_true]
    refine ⟨driver, faults, lines _, (reads _).trans line, clears _ _ line fun before => ?_⟩
    rw [reading, Bool.or_eq_false_iff] at before
    exact before.2
  · have line : safetyReading { l with loopfault := true } = true := Bool.or_true _
    obtain ⟨⟨frame, others, machine⟩, occ, rises, stays, still, reversed, driven⟩ :=
      occupied (fun l => { l with loopfault := true }) rfl rfl line
    obtain ⟨v, r, signalled, active⟩ := condArises_loop e (safetyChange e (fun l => { l with loopfault := true }) s)
    rw [signalled]
    refine ⟨⟨⟨?_, others, machine⟩, occ, rises, stays, still, fun before lowering => ?_, driven⟩, lines _, ?_⟩
    · rw [frame]
    · obtain ⟨driver, entry⟩ := reversed before lowering
      refine ⟨driver, fun fault => ?_⟩
      change ((FaultTable.set _ _ v).get (.bar e)).state = _
      rw [FaultTable.get_set_of_ne _ _ (by simp)]
      exact entry fault
    · change ((FaultTable.set _ _ v).get (.loop e)).state = _
      rw [FaultTable.get_set, active]
  · have line : safetyReading { l with loopfault := false } = l.safety := Bool.or_false _
    obtain ⟨driver, -⟩ := falling (fun l => { l with loopfault := false }) fun occ => by
      rw [reading, ← line, occ, Bool.true_or]
    have counted : cleared (safetyChange e (fun l => { l with loopfault := false }) s) l.safety :=
      clears _ _ line fun before => by
        rw [reading, Bool.or_eq_false_iff] at before
        exact before.1
    have after := signal_entry (.loop e) .ends (safetyChange e (fun l => { l with loopfault := false }) s)
    obtain ⟨v, r, signalled⟩ := signal_frame (safetyChange e (fun l => { l with loopfault := false }) s)
      (.loop e) .ends
    obtain ⟨framed, others, machine⟩ := frame fun l => { l with loopfault := false }
    change condEnds _ _ = _ at signalled
    refine ⟨⟨?_, ?_, ?_⟩, ?_, ?_, ?_, fun active => ?_, ?_⟩
    · rw [signalled, framed]
    · rw [signalled]
      exact others
    · rw [signalled]
      exact machine
    · rw [signalled]
      exact driver
    · rw [signalled]
      exact lines _
    · rw [signalled]
      exact (reads _).trans line
    · rw [show (signal (.loop e) .ends _) = condEnds (.loop e) _ from rfl, active] at after
      exact absurd after.symm (ends_not_active _)
    · rw [signalled]
      exact counted

end Sys2Proof.Machine
end

section
/-! PROOFS. The end machines' rules (R85, R90 to R94): referral, refusal, holds and waking as one update
each, and the approach loop's events. -/

namespace Sys2Proof.Machine

-- One declaration after another: at once they ask for more threads than the check's limits allow.
set_option Elab.async false

variable {s t : State} {e : EndId} {r : Reason}

/-! ### The machine after each update -/

theorem modMachine_machine (e : EndId) (f : EndMachine → EndMachine) (s : State) :
    (s.modMachine e f).machine e = f (s.machine e) := by
  rw [State.machine_eq, State.modMachine_station]
  rfl

theorem modMachine_modMachine (e : EndId) (f g : EndMachine → EndMachine) (s : State) :
    (s.modMachine e f).modMachine e g = s.modMachine e fun m => g (f m) := by
  cases e <;> rfl

theorem modMachine_congr {f g : EndMachine → EndMachine} (h : f (s.machine e) = g (s.machine e)) :
    s.modMachine e f = s.modMachine e g :=
  congrArg (fun m => { s with ends := s.ends.set e { s.ends.get e with machine := m } }) h

theorem offer_machine (k : ReportKind) (subj : Subject) (ps : List String) (s : State) (e : EndId) :
    (offer k subj ps s).machine e = s.machine e := by
  rw [State.machine_eq, offer_station]
  rfl

theorem removeVisit?_machine (n : Option Nat) (s : State) (e : EndId) :
    (s.removeVisit? n).machine e = s.machine e := by
  cases n <;> rfl

theorem removeVisit?_modMachine (n : Option Nat) (f : EndMachine → EndMachine) (s : State) (e : EndId) :
    (s.modMachine e f).removeVisit? n = (s.removeVisit? n).modMachine e f := by
  cases n <;> rfl

/-! ### Return to idle, refusal and referral (R92, R94) -/

theorem expiredToIdle_live (h : (s.machine e).clearTimer ≠ .expired) : expiredToIdle e s = s :=
  if_neg fun k => h k.1

theorem expiredToIdle_expired (h : (s.machine e).clearTimer = .expired)
    (leaves : (s.machine e).state.leavesOnClear = true) : expiredToIdle e s = endIdle e s := if_pos ⟨h, leaves⟩

/-- An end refused over a clear timer that has not expired (R92). -/
theorem refuseEnd_live (r prior : Reason) (h : (s.machine e).clearTimer ≠ .expired) :
    refuseEnd e r prior s =
      offer .refused (.atEnd e) [reasonWord r, reasonWord prior, dash tagText (s.machine e).tag]
        ((s.removeVisit? (s.machine e).visit).modMachine e fun x =>
          { x with
            state := .refused, reason := r, prior := prior, visit := none, idTimer := .stopped
            decideTimer := .stopped }) := by
  rw [refuseEnd_eq, sentAway, if_neg h]

/-- The machine of an end that was referred (R92). -/
def EndMachine.referred (m : EndMachine) (r : Reason) : EndMachine :=
  { m with state := .referred, reason := r, prior := .none, idTimer := .stopped
           decideTimer := .running m.decideTime }

/-- The machine of an end that was refused (R92). -/
def EndMachine.refused (m : EndMachine) (r prior : Reason) : EndMachine :=
  { m with state := .refused, reason := r, prior := prior, visit := none, idTimer := .stopped
           decideTimer := .stopped }

/-- An ATTENDED end referred (R92). -/
theorem refer_attended (r : Reason) (link : s.link.attended = true)
    (h : (s.machine e).clearTimer ≠ .expired) :
    refer e r s = offer .refer (.atEnd e) [reasonWord r, dash tagText (s.machine e).tag]
      (s.modMachine e fun m => m.referred r) := by
  unfold refer
  dsimp only
  rw [if_pos link]
  exact expiredToIdle_live (by rw [offer_machine, modMachine_machine]; exact h)

/-- A DETACHED end referred is refused (R92). -/
theorem refer_detached (r : Reason) (link : s.link.attended = false)
    (h : (s.machine e).clearTimer ≠ .expired) :
    refer e r s = offer .refused (.atEnd e) ["DETACHED", reasonWord r, dash tagText (s.machine e).tag]
      ((s.removeVisit? (s.machine e).visit).modMachine e fun m => m.refused .detached r) := by
  unfold refer
  dsimp only
  rw [if_neg (by rw [link]; decide), refuseEnd_live _ _ (by rw [modMachine_machine]; exact h),
    modMachine_machine, removeVisit?_modMachine, modMachine_modMachine]
  rfl

/-! ### Holds and admission (R90, R91) -/

/-- The machine of an end that is held (R90). -/
def EndMachine.holding (m : EndMachine) (r : Reason) : EndMachine :=
  { m with state := .held, reason := r, idTimer := .stopped, decideTimer := .stopped }

/-- The machine of an end that is READY with a visit (R90). -/
def EndMachine.readied (m : EndMachine) (n : Option Nat) : EndMachine :=
  { m with state := .ready, reason := .none, visit := n, idTimer := .stopped, decideTimer := .stopped }

theorem holdEnd_live (r : Reason) (h : (s.machine e).clearTimer ≠ .expired) :
    holdEnd e r s = offer .held (.atEnd e) [reasonWord r, dash tagText (s.machine e).tag]
      (s.modMachine e fun m => m.holding r) :=
  expiredToIdle_live (by rw [offer_machine, modMachine_machine]; exact h)

theorem readyEnd_live (n : Option Nat) (h : (s.machine e).clearTimer ≠ .expired) :
    expiredToIdle e (readyEnd e n s) = s.modMachine e fun m => m.readied n :=
  expiredToIdle_live (by rw [readyEnd, modMachine_machine]; exact h)

theorem firstHold_eq (s : State) (has : Bool) : s.firstHold has =
    if s.metro.switchOn = true then some .cal
    else if has = false ∧ 64 ≤ s.visits.table.length then some .yardFull
    else if s.journal.pages.countP (·.state == .erased) ≤ s.journal.low then some .journalLow
    else if s.outcomes.high ≤ s.outcomes.queue.length then some .outcomeHigh
    else none := by
  unfold State.firstHold Config.visitCapacity Journal.erasedCount
  cases has <;> simp

theorem holdCheck_held {r : Reason} (h : s.firstHold (s.machine e).visit.isSome = some r) :
    holdCheck e s = holdEnd e r s := by
  rw [holdCheck, h]

theorem holdCheck_free (h : s.firstHold (s.machine e).visit.isSome = none) :
    holdCheck e s = admitNow e s := by
  rw [holdCheck, h]

theorem admitNow_visit {n : Nat} (h : (s.machine e).visit = some n) :
    admitNow e s = expiredToIdle e (readyEnd e (some n) s) := by
  unfold admitNow
  dsimp only
  rw [h]

theorem admitNow_open {g : Tag} {ad : Admission} (none : (s.machine e).visit = none)
    (tag : (s.machine e).tag = some g) (admitted : (s.machine e).admission = some ad) :
    admitNow e s = openAtEnd e g ad s := by
  unfold admitNow
  dsimp only
  rw [none, tag, admitted]

theorem openAtEnd_duplicate {g : Tag} {ad : Admission} (h : (s.visitOf? g).isSome = true) :
    openAtEnd e g ad s = refer e .duplicate s := if_pos h

/-- The visit opened for an admission (R90, R125). -/
def State.opening (s : State) (e : EndId) (g : Tag) (ad : Admission) : Visit :=
  { number := s.visits.assign, tag := g, account := ad.account, cls := ad.cls
    kind := (s.visitTerms g ad).1, state := .admitted, holder := .atEnd e, opened := s.clock.now
    manual := ad.manual, note := (s.visitTerms g ad).2.1, first := none
    tare := (s.visitTerms g ad).2.2, overstay := false }

theorem openAtEnd_new {g : Tag} {ad : Admission} (h : (s.visitOf? g).isSome = false) :
    openAtEnd e g ad s = expiredToIdle e (offer .admitted (.atEnd e)
      [nat s.visits.assign, tagText g, nat ad.account, nat ad.cls, kindWord (s.visitTerms g ad).1,
        yn ad.manual, noteWord (s.visitTerms g ad).2.1]
      ({ s with visits := { s.visits with
          table := s.visits.table ++ [s.opening e g ad]
          next := wrapNext 999999 s.visits.assign } }.modMachine e fun m =>
            m.readied (some s.visits.assign))) :=
  if_neg (by rw [h]; decide)

/-! ### Waking (R85) -/

theorem wakeTest_stays (h : ¬ (s.part.run = true ∧ (s.machine e).state = .idle
    ∧ (s.station e).lines.approach = true)) : wakeTest e s = s := if_neg h

section Waking
variable (run : s.part.run = true) (idle : (s.machine e).state = .idle)
  (occ : (s.station e).lines.approach = true)
include run idle occ

theorem wakeTest_wrongWay (h : s.isApproach e = false) : wakeTest e s =
    if (s.machine e).wrongWay = true then s
    else offer .wrongWay (.atEnd e) [] (s.modMachine e fun m => { m with wrongWay := true }) := by
  refine (if_pos ⟨run, idle, occ⟩).trans (if_neg ?_)
  rw [h]
  decide

theorem wakeTest_approach (h : s.isApproach e = true) : wakeTest e s = wake e s :=
  (if_pos ⟨run, idle, occ⟩).trans (if_pos h)

end Waking

/-- The machine of an end that wakes (R85). -/
def EndMachine.woken (m : EndMachine) (mv : Movement) : EndMachine :=
  { m with state := .identifying, movement := some mv, idTimer := .running m.idTime }

theorem wake_conflict (h : (s.machine e).conflict = true) : wake e s =
    refer e .tagConflict (s.modMachine e fun m =>
      { m.woken (s.movementAt e) with tag := m.heldRead, idTimer := .stopped }) := by
  refine (if_pos h).trans ?_
  rw [modMachine_modMachine]
  rfl

theorem wake_none (conflict : (s.machine e).conflict = false) (none : (s.machine e).heldRead = none) :
    wake e s = expiredToIdle e (s.modMachine e fun m => m.woken (s.movementAt e)) := by
  unfold wake
  dsimp only
  rw [conflict, none]
  rfl

theorem wake_held {g : Tag} (conflict : (s.machine e).conflict = false)
    (held : (s.machine e).heldRead = some g) :
    wake e s = acceptTag e g (s.modMachine e fun m => m.woken (s.movementAt e)) := by
  unfold wake
  dsimp only
  rw [conflict, held]
  rfl

/-- Settles O19. -/
theorem approachLoopEvents : Obligations.ApproachLoopEvents := by
  intro e s l m came
  have clear (h : l.approach = false) : ¬ (s.station e).lines.approach = true := by
    rw [show (s.station e).lines.approach = false from h]
    decide
  have machine : came.machine e = { m with clearTimer := .stopped } := by
    rw [modMachine_machine]
    cases e <;> rfl
  have occ : (came.station e).lines.approach = true := by
    cases e <;> rfl
  have live (f : EndMachine → EndMachine) (h : (f { m with clearTimer := .stopped }).clearTimer = .stopped) :
      ((came.modMachine e f).machine e).clearTimer ≠ .expired := by
    rw [modMachine_machine, machine, h]
    decide
  refine ⟨fun off => if_neg (clear off), fun on => ⟨if_pos on, if_pos on⟩, fun off => ?_⟩
  have comes : exec (.approachOccupied e) s = .next (wakeTest e came) := if_neg (clear off)
  have runs : came.part.run = s.part.run := rfl
  have attended : came.link.attended = s.link.attended := rfl
  have approaches : came.isApproach e = s.isApproach e := rfl
  have moves : came.movementAt e = s.movementAt e := rfl
  clear_value came
  have wakes (run : s.part.run = true) (idle : m.state = .idle) (approach : s.isApproach e = true) :
      wakeTest e came = wake e came :=
    wakeTest_approach (runs.trans run) (by rw [machine]; exact idle) occ (approaches.trans approach)
  refine ⟨comes, fun quiet => ?_, fun run idle other => ?_, fun run idle approach none conflict => ?_,
    fun run idle approach conflict => ⟨fun link => ?_, fun link => ?_⟩,
    fun g run idle approach conflict held => ?_⟩ <;> rw [comes]
  · rw [wakeTest_stays]
    rw [machine, runs]
    exact fun ⟨run, idle, _⟩ => quiet.elim (fun h => by rw [h] at run; cases run) fun h => h idle
  · rw [wakeTest_wrongWay (runs.trans run) (by rw [machine]; exact idle) occ (approaches.trans other), machine]
  · rw [wakes run idle approach, wake_none (by rw [machine]; exact conflict) (by rw [machine]; exact none),
      expiredToIdle_live (live _ rfl), moves]
    rfl
  · rw [wakes run idle approach, wake_conflict (by rw [machine]; exact conflict),
      refer_attended, modMachine_modMachine, modMachine_machine, machine, moves]
    · rfl
    · exact attended.trans link
    · exact live _ rfl
  · rw [wakes run idle approach, wake_conflict (by rw [machine]; exact conflict),
      refer_detached, modMachine_machine, removeVisit?_modMachine, modMachine_modMachine, machine, moves]
    · rfl
    · exact attended.trans link
    · exact live _ rfl
  · rw [wakes run idle approach, wake_held (by rw [machine]; exact conflict) (by rw [machine]; exact held), moves]
    rfl

end Sys2Proof.Machine
end

section
/-! PROOFS. The admission table's commands and an end's settings (R97 to R99); the host's decisions, the
end's timers and the retest of a hold (R86, R90 to R92, R94). -/

namespace Sys2Proof.Machine

-- One declaration after another: at once they ask for more threads than the check's limits allow.
set_option Elab.async false

variable {s t : State} {e : EndId} {r : Reason} {g mask : Tag}

/-! ### The admission table (R88, R97) -/

theorem inRange_of_mem {lo hi : Nat} {n : Int} (low : (lo : Int) ≤ n) (high : n ≤ hi) :
    inRange lo hi n = some n.toNat := if_pos ⟨low, high⟩

theorem inRange_of_not_mem {lo hi : Nat} {n : Int} (h : n < lo ∨ (hi : Int) < n) : inRange lo hi n = none :=
  if_neg (by omega)

theorem decides_iff (x : AdmitEntry) (g : Tag) :
    x.decides g = true ↔ x.action ≠ .empty ∧ g &&& x.mask = x.pattern &&& x.mask := by
  simp [AdmitEntry.decides, AdmitEntry.matchesTag]

theorem not_decides_iff (x : AdmitEntry) (g : Tag) :
    x.decides g = false ↔ x.action = .empty ∨ g &&& x.mask ≠ x.pattern &&& x.mask := by
  rw [← Bool.not_eq_true, decides_iff, not_and_or, not_not]

theorem decidingEntry_none (h : ∀ x ∈ s.admission.entries, x.decides g = false) :
    s.decidingEntry g = none := by
  rw [State.decidingEntry, List.findIdx?_eq_none_iff.mpr h]

theorem decidingEntry_first {n : Nat} {x : AdmitEntry} (at_n : s.admission.entries[n]? = some x)
    (decides : x.decides g = true)
    (first : ∀ j y, j < n → s.admission.entries[j]? = some y → y.decides g = false) :
    s.decidingEntry g = some (n, x) := by
  obtain ⟨small, entry⟩ := List.getElem?_eq_some_iff.mp at_n
  have found : s.admission.entries.findIdx? (AdmitEntry.decides g) = some n := by
    refine List.findIdx?_eq_some_iff_getElem.mpr ⟨small, by rw [entry]; exact decides, fun j hj => ?_⟩
    rw [first j _ hj (List.getElem?_eq_getElem (hj.trans small))]
    decide
  rw [State.decidingEntry, found]
  dsimp only
  rw [List.getD_eq_getElem?_getD, at_n]
  rfl

theorem entry_refused {n c : Int} (one : Bool) (h : n < 1 ∨ 999999 < n ∨ c < 0 ∨ 15 < c) :
    TagSetArgs.entry ⟨g, mask, .allow n c one⟩ = none := by
  have none : inRange 1 999999 n = none ∨ inRange 0 15 c = none := by
    rcases or_assoc.mpr h with h | h
    · exact .inl (inRange_of_not_mem h)
    · exact .inr (inRange_of_not_mem h)
  unfold TagSetArgs.entry
  dsimp only
  rcases none with h | h <;> rw [h]
  cases inRange 1 999999 n <;> rfl

theorem entry_allowed {n c : Int} (one : Bool) (h : ¬ (n < 1 ∨ 999999 < n ∨ c < 0 ∨ 15 < c)) :
    TagSetArgs.entry ⟨g, mask, .allow n c one⟩ = some ⟨g, mask, .allow, n.toNat, c.toNat, one⟩ := by
  have account : inRange 1 999999 n = some n.toNat := inRange_of_mem (by omega) (by omega)
  have cls : inRange 0 15 c = some c.toNat := inRange_of_mem (by omega) (by omega)
  unfold TagSetArgs.entry
  dsimp only
  rw [account, cls]

/-- Settles O23. -/
theorem admissionTableAndEndSettings : Obligations.AdmissionTableAndEndSettings := by
  refine ⟨fun i g mask s => ?table, fun e s => ?ends⟩
  case ends =>
    refine ⟨rfl, rfl, rfl, fun v => ⟨rfl, rfl, rfl⟩, rfl, rfl, rfl, ?_⟩
    change answer (.ok (s.station e).endFields) s = _
    unfold Station.endFields EndMachine.secondsField
    dsimp only
    rw [show (s.station e).machine = s.machine e from rfl]
    cases (s.machine e).idTimer <;> rfl
  case table =>
    intro k en write
    have tagSet (p : Option TagSetArgs) : exec (.tagSet i p) s = execTagSet i p s := rfl
    have tagClear : exec (.tagClear i) s = execTagClear i s := rfl
    have tagQuery : exec (.tagQuery i) s = execTagQuery i s := rfl
    unfold Refused Answers AnswersWith
    refine ⟨fun outside => ?_, fun low high => ?_, rfl, fun v => rfl, rfl, rfl, fun none => ?_,
      fun n x at_n filled same first => ?_⟩
    · have none : inRange 0 31 i = none := inRange_of_not_mem outside
      simp only [tagSet, tagClear, tagQuery, execTagSet, execTagClear, execTagQuery, none]
      exact ⟨fun p => rfl, rfl, rfl⟩
    · have index : inRange 0 31 i = some k := inRange_of_mem low high
      simp only [tagSet, tagClear, tagQuery, execTagSet, execTagClear, execTagQuery, index]
      refine ⟨rfl, fun n c one => ?_, rfl, rfl, rfl, rfl⟩
      by_cases outside : n < 1 ∨ 999999 < n ∨ c < 0 ∨ 15 < c
      · rw [if_pos outside]
        rw [Option.bind_some, entry_refused one outside]
        rfl
      · rw [if_neg outside, Option.bind_some, entry_allowed one outside]
        rfl
    · change execTagMatchQuery (some g) s = _
      rw [execTagMatchQuery, decidingEntry_none fun x hx => (not_decides_iff x g).mpr (none x hx)]
      rfl
    · change execTagMatchQuery (some g) s = _
      rw [execTagMatchQuery, decidingEntry_first at_n ((decides_iff x g).mpr ⟨filled, same⟩)
        fun j y hj hy => (not_decides_iff y g).mpr (first j y hj hy)]
      rfl

/-! ### END xn ADMIT (R92) -/

theorem exec_endAdmit_state {p : Option AdmitArgs}
    (h : (s.machine e).state ≠ .referred ∨ (s.machine e).movement ≠ some .inbound ∨ (s.machine e).tag = none) :
    exec (.endAdmit e p) s = refuse .state s := by
  change execEndAdmit e p s = _
  unfold execEndAdmit
  dsimp only
  by_cases state : (s.machine e).state ≠ .referred
  · rw [if_pos state]
  · rw [if_neg state]
    by_cases movement : (s.machine e).movement ≠ some .inbound
    · rw [if_pos movement]
    · rw [if_neg movement, (h.resolve_left state).resolve_left movement]

section Admit
variable (state : (s.machine e).state = .referred) (movement : (s.machine e).movement = some .inbound)
  (tag : (s.machine e).tag = some g)
include state movement tag

theorem exec_endAdmit_none : exec (.endAdmit e none) s = refuse .param s := by
  change execEndAdmit e none s = _
  simp [execEndAdmit, state, movement, tag]

theorem exec_endAdmit_param {n c : Int} (one : Bool) (h : n < 1 ∨ 999999 < n ∨ c < 0 ∨ 15 < c) :
    exec (.endAdmit e (some ⟨n, c, one⟩)) s = refuse .param s := by
  have none : inRange 1 999999 n = none ∨ inRange 0 15 c = none := by
    rcases or_assoc.mpr h with h | h
    · exact .inl (inRange_of_not_mem h)
    · exact .inr (inRange_of_not_mem h)
  change execEndAdmit e (some ⟨n, c, one⟩) s = _
  simp only [execEndAdmit, state, movement, tag, ne_eq, not_true_eq_false, if_false]
  rcases none with h | h <;> rw [h]
  cases inRange 1 999999 n <;> rfl

theorem exec_endAdmit_given {n c : Nat} (one : Bool) (h : ¬ (n < 1 ∨ 999999 < n ∨ 15 < c)) :
    exec (.endAdmit e (some ⟨n, c, one⟩)) s =
      if s.account? n = none then refuse .notFound s
      else if (s.visitOf? g).isSome = true then refuse .busy s
      else
        let t := holdCheck e (s.modMachine e fun m => { m with
          admission := some ⟨n, c, if one then .onePass else .twoPass, true⟩ })
        answer (.ok [endStateWord (t.machine e).state]) t := by
  have account : inRange 1 999999 (n : Int) = some n := inRange_of_mem (by omega) (by omega)
  have cls : inRange 0 15 (c : Int) = some c := inRange_of_mem (by omega) (by omega)
  change execEndAdmit e (some ⟨n, c, one⟩) s = _
  simp only [execEndAdmit, state, movement, tag, ne_eq, not_true_eq_false, if_false, account, cls,
    Option.isNone_iff_eq_none]
  rfl

end Admit

/-! ### END xn REFUSE and the timers (R86, R92, R94) -/

theorem exec_endRefuse_state (referred : (s.machine e).state ≠ .referred) (held : (s.machine e).state ≠ .held)
    (ready : (s.machine e).state ≠ .ready) : exec (.endRefuse e) s = refuse .state s := by
  change execEndRefuse e s = _
  unfold execEndRefuse
  cases h : (s.machine e).state <;> simp_all

theorem exec_endRefuse
    (h : (s.machine e).state = .referred ∨ (s.machine e).state = .held ∨ (s.machine e).state = .ready) :
    exec (.endRefuse e) s = answer (.ok []) (refuseEnd e .host (s.machine e).reason s) := by
  change execEndRefuse e s = _
  unfold execEndRefuse
  rcases h with h | h | h <;> rw [h]

theorem leavesOnClear_iff (x : EndState) : x.leavesOnClear = true ↔ x ≠ .idle ∧ x ≠ .active := by
  cases x <;> simp [EndState.leavesOnClear]

/-- An end refused over an expired clear timer is IDLE (R94). -/
theorem refuseEnd_expired (r prior : Reason) (h : (s.machine e).clearTimer = .expired) :
    ((refuseEnd e r prior s).machine e).state = .idle ∧ ((refuseEnd e r prior s).machine e).visit = none
      ∧ ((refuseEnd e r prior s).machine e).tag = none
      ∧ ((refuseEnd e r prior s).machine e).movement = none := by
  rw [refuseEnd_eq, sentAway, if_pos h, modMachine_machine, offer_machine, modMachine_machine]
  exact ⟨rfl, rfl, rfl, rfl⟩

/-- The end's return to IDLE (R94). -/
theorem exec_clearTimer_leaves (running : (s.machine e).clearTimer.isRunning = true)
    (leaves : (s.machine e).state.leavesOnClear = true) :
    exec (.clearTimerExpiry e) s = .next ((s.removeVisit? (s.machine e).visit).modMachine e fun x =>
      { x with state := .idle, movement := none, tag := none, reason := .none, prior := .none
               admission := none, visit := none, idTimer := .stopped, decideTimer := .stopped
               clearTimer := .expired }) := by
  refine (if_pos running).trans ?_
  rw [expiredToIdle_expired (by rw [modMachine_machine]) (by rw [modMachine_machine]; exact leaves), endIdle,
    modMachine_machine, removeVisit?_modMachine, modMachine_modMachine]
  rfl

/-! ### The holds and the visit opened (R90, R91, R125) -/

/-- The terms of a visit (R90). -/
theorem visitTerms_eq (s : State) (g : Tag) (ad : Admission) :
    let may : Bool := ad.kind == .onePass && (s.cls ad.cls).onePassOk
    s.visitTerms g ad =
      (if may = true ∧ (s.validTare g).isSome = true then .onePass else .twoPass,
       if ad.kind = .twoPass then .none
       else if (s.cls ad.cls).onePassOk = false then .classTwoPass
       else if (s.validTare g).isSome = true then .none else .tareMissing,
       if may then s.validTare g else none) := by
  unfold State.visitTerms
  cases ad.kind <;> cases (s.cls ad.cls).onePassOk <;> cases s.validTare g <;> rfl

theorem exec_holdRetest_free (held : (s.machine e).state = .held)
    (free : s.firstHold (s.machine e).visit.isSome = none) :
    exec (.holdRetest e) s = .next (admitNow e s) := by
  refine (if_pos held).trans ?_
  rw [free]

theorem exec_holdRetest_hold (held : (s.machine e).state = .held)
    (h : s.firstHold (s.machine e).visit.isSome = some r) :
    exec (.holdRetest e) s = .next (s.modMachine e fun m => { m with reason := r }) := by
  refine (if_pos held).trans ?_
  rw [h]

/-- Settles O22. -/
theorem endDecisionsAndTimers : Obligations.EndDecisionsAndTimers := by
  intro e s m refused detached idle
  have refuses (r : Reason) (live : m.clearTimer ≠ .expired) : refuseEnd e r m.reason s = refused r :=
    refuseEnd_live r m.reason live
  have detaches (r : Reason) (link : s.link.attended = false) (live : m.clearTimer ≠ .expired) :
      refer e r s = detached r := refer_detached r link live
  have duplicate (g : Tag) (live : m.clearTimer ≠ .expired) (tag : m.tag = some g) :
      refer e .duplicate s = if s.link.attended = true then
          offer .refer (.atEnd e) ["DUPLICATE", tagText g] (s.modMachine e fun m =>
            { m with state := .referred, reason := .duplicate, prior := .none
                     idTimer := .stopped, decideTimer := .running m.decideTime })
        else detached .duplicate := by
    cases link : s.link.attended with
    | true =>
      rw [refer_attended _ link live, show (s.machine e).tag = some g from tag]
      rfl
    | false => exact detaches _ link live
  refine ⟨fun state p => exec_endAdmit_state (.inl state), fun _ other p => exec_endAdmit_state (.inr other),
    fun g state movement tag => ⟨exec_endAdmit_none state movement tag, fun n c one => ?hostAdmits⟩,
    fun referred held ready => exec_endRefuse_state referred held ready, fun state live => ?refuse,
    fun state running link live => ?identify, fun state running link live => ?identifyDetached,
    fun h => if_neg ?_, fun state running live => ?decide, fun h => if_neg ?_, fun h => if_neg ?_,
    fun running state => ?_, fun running notIdle notActive => exec_clearTimer_leaves running
      ((leavesOnClear_iff _).mpr ⟨notIdle, notActive⟩),
    fun other => if_neg other, fun held r hold => exec_holdRetest_hold held hold,
    fun held free has live => ?ready, fun held free none => ?retest,
    fun g free none tag admitted found live => ?duplicate,
    fun state movement tag n c one outside => ?param, fun state expired => ?expired, firstHold_eq s,
    fun r hold live => ?hold, fun n free visit live => ?visit,
    fun g ad free none tag admitted unknown live => ?opens⟩
  case hostAdmits =>
    intro i
    by_cases outside : n < 1 ∨ 999999 < n ∨ 15 < c
    · rw [if_pos outside]
      exact exec_endAdmit_param state movement tag one (by omega)
    · rw [if_neg outside]
      have given := exec_endAdmit_given state movement tag one outside
      by_cases account : s.account? n = none
      · rw [if_pos account] at given ⊢
        exact given
      · rw [if_neg account] at given ⊢
        by_cases busy : (s.visitOf? g).isSome = true
        · rw [if_pos busy] at given ⊢
          exact given
        · rw [if_neg busy] at given ⊢
          exact ⟨_, given, rfl⟩
  case refuse =>
    refine (exec_endRefuse state).trans ?_
    rw [refuses _ live]
    rfl
  case identify =>
    refine (if_pos ⟨state, running⟩).trans ?_
    rw [refer_attended _ link live]
    rfl
  case identifyDetached =>
    refine (if_pos ⟨state, running⟩).trans ?_
    rw [detaches _ link live]
  case decide =>
    refine (if_pos ⟨state, running⟩).trans ?_
    rw [refuses _ live]
  case ready =>
    obtain ⟨n, visit⟩ := Option.ne_none_iff_exists'.mp has
    rw [exec_holdRetest_free held free, admitNow_visit visit, readyEnd_live _ live]
    exact congrArg Host.Outcome.next (modMachine_congr (by
      rw [EndMachine.readied, show (s.machine e).visit = some n from visit]))
  case retest =>
    have free' : s.firstHold (s.machine e).visit.isSome = Option.none := by
      rw [show (s.machine e).visit = Option.none from none]
      exact free
    rw [exec_holdRetest_free held free', holdCheck_free free']
  case duplicate =>
    intro duplicate'
    have free' : s.firstHold (s.machine e).visit.isSome = Option.none := by
      rw [show (s.machine e).visit = Option.none from none]
      exact free
    obtain ⟨ad, admission⟩ := Option.ne_none_iff_exists'.mp admitted
    have done : admitNow e s = duplicate' := by
      rw [admitNow_open none tag admission, openAtEnd_duplicate found, duplicate g live tag]
    exact ⟨(holdCheck_free free').trans done,
      fun held => (exec_holdRetest_free held free').trans (congrArg Host.Outcome.next done)⟩
  case param =>
    obtain ⟨g, tag⟩ := Option.ne_none_iff_exists'.mp tag
    exact exec_endAdmit_param state movement tag one outside
  case expired =>
    obtain ⟨away, gone, -⟩ := refuseEnd_expired .host (s.machine e).reason expired
    exact ⟨_, exec_endRefuse state, away, gone⟩
  case hold =>
    rw [holdCheck_held hold, holdEnd_live r live]
    rfl
  case visit =>
    have free' : s.firstHold (s.machine e).visit.isSome = none := by
      rw [show (s.machine e).visit = some n from visit]
      exact free
    rw [holdCheck_free free', admitNow_visit visit, readyEnd_live _ live]
    exact modMachine_congr (by rw [EndMachine.readied, show (s.machine e).visit = some n from visit])
  case opens =>
    intro n may kind note v
    have free' : s.firstHold (s.machine e).visit.isSome = Option.none := by
      rw [show (s.machine e).visit = Option.none from none]
      exact free
    rw [holdCheck_free free', admitNow_open none tag admitted,
      openAtEnd_new (by rw [unknown]; rfl), expiredToIdle_live]
    · rw [State.opening, visitTerms_eq]
      rfl
    · rw [offer_machine, modMachine_machine]
      exact live
  · exact fun ⟨state, running⟩ => h.elim (fun k => k state) fun k => by
      rw [show (s.machine e).idTimer.isRunning = false from k] at running
      cases running
  · exact fun ⟨state, running⟩ => h.elim (fun k => k state) fun k => by
      rw [show (s.machine e).decideTimer.isRunning = false from k] at running
      cases running
  · rw [show (s.machine e).clearTimer.isRunning = false from h]
    decide
  · refine (if_pos running).trans (congrArg Host.Outcome.next (if_neg fun ⟨_, leaves⟩ => ?_))
    rw [modMachine_machine, leavesOnClear_iff] at leaves
    exact state.elim leaves.1 leaves.2

end Sys2Proof.Machine
end

section
/-! PROOFS. Reader ports (R83, R84, R93): what a read is, and what it does at its port. -/

namespace Sys2Proof.Machine

-- One declaration after another: at once they ask for more threads than the check's limits allow.
set_option Elab.async false

variable {s t : State} {e : EndId} {cs : List RxChar} {g : Tag}

/-! ### What a read is (R83) -/

/-- A hexadecimal digit in capitals or small letters, by its place among the digits. -/
def hexPlace (c : Char) : Option Nat :=
  ("0123456789ABCDEF".toList.idxOf? c).or ("0123456789abcdef".toList.idxOf? c)

theorem hexPlace_of_value {c : Char} {n : Nat} (h : c = Char.ofNat n) (small : n < 128) :
    hexPlace c = hexValue c := by
  subst h
  revert n
  decide

theorem idxOf?_none_of_large {c : Char} (l : List Char) (small : l.all (·.toNat < 128) = true)
    (h : 128 ≤ c.toNat) : l.idxOf? c = none :=
  List.idxOf?_eq_none_iff.mpr fun mem =>
    absurd (of_decide_eq_true (List.all_eq_true.mp small c mem)) (not_lt.mpr h)

/-- The place of a digit is its value (R83). -/
theorem hexPlace_eq (c : Char) : hexPlace c = hexValue c := by
  rcases lt_or_ge c.toNat 128 with small | large
  · exact hexPlace_of_value (Char.ofNat_toNat c).symm small
  · have value : hexValue c = none := by
      unfold hexValue
      dsimp only
      rw [if_neg (by omega), if_neg (by omega), if_neg (by omega)]
    rw [value, hexPlace, idxOf?_none_of_large _ rfl large, idxOf?_none_of_large _ rfl large]
    rfl

/-- The good characters of a read, line feeds left out. -/
def keptChars (cs : List RxChar) : Text :=
  cs.filterMap fun x =>
    match x with
    | .good c => if c = '\n' then none else some c
    | .error => none

theorem readChars_error (h : RxChar.error ∈ cs) : readChars cs = none := by
  induction cs with
  | nil => cases h
  | cons x cs ih =>
    cases x with
    | error => rfl
    | good c =>
      have rest : readChars cs = none := ih ((List.mem_cons.mp h).resolve_left (by simp))
      rw [readChars, rest]
      split <;> rfl

theorem readChars_good (h : RxChar.error ∉ cs) : readChars cs = some (keptChars cs) := by
  induction cs with
  | nil => rfl
  | cons x cs ih =>
    cases x with
    | error => exact absurd (by simp) h
    | good c =>
      rw [readChars, ih fun mem => h (by simp [mem])]
      by_cases lf : c = '\n' <;> simp [keptChars, lf]

theorem hexNumber_none {l : Text} (a : Nat) (h : ∃ c ∈ l, hexValue c = none) : hexNumber a l = none := by
  induction l generalizing a with
  | nil => simp at h
  | cons x l ih =>
    rw [hexNumber]
    cases v : hexValue x with
    | none => rfl
    | some n =>
      refine ih _ ?_
      obtain ⟨c, mem, bad⟩ := h
      rcases List.mem_cons.mp mem with rfl | mem
      · rw [v] at bad
        cases bad
      · exact ⟨c, mem, bad⟩

theorem hexNumber_some {l : Text} (a : Nat) (h : ∀ c ∈ l, hexValue c ≠ none) :
    hexNumber a l = some (l.foldl (fun n c => 16 * n + (hexValue c).getD 0) a) := by
  induction l generalizing a with
  | nil => rfl
  | cons x l ih =>
    obtain ⟨v, value⟩ := Option.ne_none_iff_exists'.mp (h x (by simp))
    rw [hexNumber, value, List.foldl_cons, value]
    exact ih _ fun c hc => h c (by simp [hc])

theorem readTag_invalid (h : RxChar.error ∈ cs ∨ (keptChars cs).length ≠ 10
    ∨ ∃ c ∈ keptChars cs, hexValue c = none) : readTag cs = none := by
  by_cases bad : RxChar.error ∈ cs
  · rw [readTag, readChars_error bad]
    rfl
  · rw [readTag, readChars_good bad, Option.bind_some, tagOf]
    by_cases ten : (keptChars cs).length = 10
    · rw [if_pos ten, hexNumber_none 0 ((h.resolve_left bad).resolve_left (not_not.mpr ten))]
      rfl
    · rw [if_neg ten]

theorem readTag_valid (good : RxChar.error ∉ cs) (ten : (keptChars cs).length = 10)
    (digits : ∀ c ∈ keptChars cs, hexValue c ≠ none) :
    readTag cs = some (BitVec.ofNat 40
      ((keptChars cs).foldl (fun n c => 16 * n + (hexValue c).getD 0) 0)) := by
  rw [readTag, readChars_good good, Option.bind_some, tagOf, if_pos ten, hexNumber_some 0 digits]
  rfl

/-! ### A read at its port (R83, R84, R93) -/

theorem readerConditionEnds_absent (h : (s.machine e).rdrCondition = false) :
    readerConditionEnds e s = s := if_neg (by rw [h]; decide)

theorem readerConditionEnds_present (h : (s.machine e).rdrCondition = true) :
    readerConditionEnds e s
      = condEnds (.rdr e) (s.modMachine e fun m => { m with rdrCondition := false }) := if_pos h

theorem condEnds_machine (f : FaultSource) (s : State) (e : EndId) :
    (condEnds f s).machine e = s.machine e := by
  obtain ⟨v, r, h⟩ := signal_frame s f .ends
  change (signal f .ends s).machine e = _
  rw [h]
  rfl

theorem exec_readReceived_none (h : readTag cs = none) : exec (.readReceived e cs) s = .next s := by
  change execReadReceived e cs s = _
  rw [execReadReceived, h]

theorem exec_readReceived (h : readTag cs = some g) :
    exec (.readReceived e cs) s = .next (portRead e g (readerConditionEnds e s)) := by
  change execReadReceived e cs s = _
  rw [execReadReceived, h]

theorem portRead_same (h : (s.station e).lines.approach = false ∨ (s.machine e).comparison = some g) :
    portRead e g s = s := by
  unfold portRead
  rcases h with off | same
  · rw [off]
    rfl
  · rw [same]
    simp

theorem portRead_arrival (on : (s.station e).lines.approach = true) (none : (s.machine e).comparison = none) :
    portRead e g s = arrival e g s := by
  unfold portRead
  rw [if_pos on, none]

theorem portRead_conflict {c : Tag} (on : (s.station e).lines.approach = true)
    (other : (s.machine e).comparison = some c) (ne : c ≠ g) : portRead e g s = conflict e s := by
  unfold portRead
  rw [if_pos on, other]
  exact if_neg ne

theorem conflict_admitted (h : (s.machine e).state = .held ∨ (s.machine e).state = .ready) :
    conflict e s = refer e .tagConflict ((s.removeVisit? (s.machine e).visit).modMachine e fun m =>
      { m with conflict := true, visit := none }) := by
  unfold conflict
  rcases h with h | h <;>
  · rw [h]
    dsimp only
    rw [removeVisit?_modMachine, modMachine_modMachine]

/-- Settles O20. -/
theorem readerPortReads : Obligations.ReaderPortReads := by
  refine ⟨fun cs => ⟨fun h => ?invalid, fun good ten digits => ?valid⟩, fun e g s identifying => ?present,
    fun e cs s => ?port⟩
  case invalid =>
    refine readTag_invalid (h.imp_right (Or.imp_right ?_))
    rintro ⟨c, mem, bad⟩
    exact ⟨c, mem, (hexPlace_eq c).symm.trans bad⟩
  case valid =>
    refine (readTag_valid good ten fun c hc => ?_).trans ?_
    · rw [← hexPlace_eq]
      exact digits c hc
    · rw [← funext hexPlace_eq]
      rfl
  case present => exact if_pos identifying
  case port =>
    intro l m seen
    refine ⟨exec_readReceived_none, fun present => ⟨if_pos present,
      congrArg Host.Outcome.next (readerConditionEnds_present present)⟩,
      fun absent => ⟨congrArg Host.Outcome.next (readerConditionEnds_absent absent), if_neg ?_⟩,
      fun t read => ⟨fun present => ?_, fun absent => ?_⟩⟩
    · rw [show (s.machine e).rdrCondition = false from absent]
      decide
    · rw [exec_readReceived read, exec_readReceived read, readerConditionEnds_present present,
        readerConditionEnds_absent]
      rw [condEnds_machine, modMachine_machine]
    · have ran : exec (.readReceived e cs) s = .next (portRead e t s) := by
        rw [exec_readReceived read, readerConditionEnds_absent absent]
      refine ⟨fun h => ?_, fun on none notIdentifying notReferred => ?_, fun on none referred => ?_,
        fun on none identifying => ?_, fun c other ne on => ⟨fun state => ?_, fun referred => ?_,
          fun state link live => ?_, fun state link live => ?_⟩⟩ <;> rw [ran]
      · rw [portRead_same h]
      · rw [portRead_arrival on none]
        unfold arrival
        cases state : (s.machine e).state with
        | identifying => exact absurd state notIdentifying
        | referred => exact absurd state notReferred
        | _ => rfl
      · rw [portRead_arrival on none]
        unfold arrival
        rw [show (s.machine e).state = _ from referred]
        dsimp only
        rw [modMachine_modMachine]
      · rw [portRead_arrival on none]
        unfold arrival
        rw [show (s.machine e).state = _ from identifying]
      · rw [portRead_conflict on other ne]
        unfold conflict
        rcases state with h | h | h <;> rw [show (s.machine e).state = _ from h]
      · rw [portRead_conflict on other ne]
        unfold conflict
        rw [show (s.machine e).state = _ from referred]
        dsimp only
        rw [modMachine_modMachine]
        rfl
      · rw [portRead_conflict on other ne, conflict_admitted state, refer_attended, modMachine_modMachine,
          modMachine_machine, removeVisit?_machine]
        · rfl
        · cases h : (s.machine e).visit <;> exact link
        · rw [modMachine_machine, removeVisit?_machine]
          exact live
      · rw [portRead_conflict on other ne, conflict_admitted state, refer_detached, modMachine_machine,
          removeVisit?_modMachine, modMachine_modMachine, removeVisit?_machine]
        · rfl
        · cases h : (s.machine e).visit <;> exact link
        · rw [modMachine_machine, removeVisit?_machine]
          exact live

end Sys2Proof.Machine
end

section
/-! PROOFS. The admission decision (R86 to R90): what is decided of a tag, apart from how it is carried
out, and the decision of an ATTENDED, a DETACHED and an expired end. -/

namespace Sys2Proof.Machine

-- One declaration after another: at once they ask for more threads than the check's limits allow.
set_option Elab.async false

variable {s t u : State} {e : EndId} {g : Tag} {r : Reason}

/-! ### The verdict on a tag -/

/-- What the admission decision comes to (R87 to R90). -/
inductive Verdict where
  | refer (r : Reason)
  | refuse (r : Reason)
  | hold (r : Reason) (ad : Admission)
  | ready (n : Option Nat)
  | readyAdmitted (n : Nat) (ad : Admission)
  | opens (ad : Admission)

/-- The verdict on an admission by its holds (R90). -/
def State.holdVerdict (s : State) (visit : Option Nat) (ad : Admission) : Verdict :=
  match s.firstHold visit.isSome with
  | some r => .hold r ad
  | none =>
    match visit with
    | some n => .readyAdmitted n ad
    | none => .opens ad

/-- The admission an entry of the table gives (R89). -/
def AdmitEntry.admission (en : AdmitEntry) : Admission :=
  { account := en.account, cls := en.cls, kind := askedKind en.onePass, manual := false }

/-- The verdict on an inbound movement (R88 to R90). -/
def State.inboundVerdict (s : State) (visit : Option Nat) (g : Tag) : Verdict :=
  if (s.visitOf? g).isSome then .refer .duplicate
  else
    match s.decidingEntry g with
    | none =>
      match s.admission.policy with
      | .refer => .refer .unknown
      | .refuse => .refuse .unknown
    | some (_, en) =>
      match en.action with
      | .allow =>
        match s.admissionFailure en.account en.cls with
        | some r => .refer r
        | none => s.holdVerdict visit en.admission
      | .refer => .refer .listed
      | .refuse | .empty => .refuse .listed

/-- The verdict on an outbound movement (R87). -/
def State.outboundVerdict (s : State) (g : Tag) : Verdict :=
  match s.visitOf? g with
  | none => .refer .noVisit
  | some v =>
    match v.state with
    | .onSite | .settled => .ready none
    | .admitted | .leaving => .refer .visitBusy

/-- A verdict is carried out at an end that has accepted the tag. -/
def Verdict.carry (e : EndId) (g : Tag) : Verdict → State → State
  | .refer r, s => Machine.refer e r s
  | .refuse r, s => refuseEnd e r .none s
  | .hold r ad, s => holdEnd e r (recordAdmission e ad s)
  | .ready n, s => expiredToIdle e (readyEnd e n s)
  | .readyAdmitted n ad, s => expiredToIdle e (readyEnd e (some n) (recordAdmission e ad s))
  | .opens ad, s => openAtEnd e g ad (recordAdmission e ad s)

/-- The end with its tag accepted (R86). -/
def accepted (e : EndId) (g : Tag) (s : State) : State :=
  s.modMachine e fun m => { m with tag := some g, idTimer := .stopped }

theorem accepted_machine (e : EndId) (g : Tag) (s : State) :
    (accepted e g s).machine e = { s.machine e with tag := some g, idTimer := .stopped } :=
  modMachine_machine e _ s

theorem recordAdmission_machine (e : EndId) (ad : Admission) (s : State) :
    (recordAdmission e ad s).machine e = { s.machine e with admission := some ad } :=
  modMachine_machine e _ s

theorem holdCheck_carry (e : EndId) (g : Tag) (ad : Admission) (s : State) :
    holdCheck e (recordAdmission e ad (accepted e g s))
      = (s.holdVerdict (s.machine e).visit ad).carry e g (accepted e g s) := by
  have machine : (recordAdmission e ad (accepted e g s)).machine e
      = { s.machine e with tag := some g, idTimer := .stopped, admission := some ad } := by
    rw [recordAdmission_machine, accepted_machine]
  have hold : (recordAdmission e ad (accepted e g s)).firstHold
      ((recordAdmission e ad (accepted e g s)).machine e).visit.isSome
      = s.firstHold (s.machine e).visit.isSome := by
    rw [machine]
    rfl
  unfold State.holdVerdict
  cases h : s.firstHold (s.machine e).visit.isSome with
  | some r => exact holdCheck_held (hold.trans h)
  | none =>
    rw [holdCheck_free (hold.trans h)]
    cases v : (s.machine e).visit with
    | some n => exact admitNow_visit (by rw [machine]; exact v)
    | none => exact admitNow_open (by rw [machine]; exact v) (by rw [machine]) (by rw [machine])

theorem acceptTag_inbound (h : (s.machine e).movement = some .inbound) :
    acceptTag e g s = (s.inboundVerdict (s.machine e).visit g).carry e g (accepted e g s) := by
  have inbound : acceptTag e g s = decideInbound e g (accepted e g s) := by
    unfold acceptTag
    rw [h]
    rfl
  have known : (accepted e g s).visitOf? g = s.visitOf? g := rfl
  have deciding : (accepted e g s).decidingEntry g = s.decidingEntry g := rfl
  have policy : (accepted e g s).admission = s.admission := rfl
  have fails (a c : Nat) : (accepted e g s).admissionFailure a c = s.admissionFailure a c := rfl
  rw [inbound, decideInbound, State.inboundVerdict, known, deciding, policy]
  split
  · rfl
  · cases s.decidingEntry g with
    | none => cases s.admission.policy <;> rfl
    | some p =>
      dsimp only
      cases p.2.action with
      | allow =>
        dsimp only
        rw [fails]
        cases s.admissionFailure p.2.account p.2.cls with
        | some r => rfl
        | none => exact holdCheck_carry e g p.2.admission s
      | _ => rfl

theorem acceptTag_outbound (h : (s.machine e).movement = some .outbound) :
    acceptTag e g s = (s.outboundVerdict g).carry e g (accepted e g s) := by
  have outbound : acceptTag e g s = decideOutbound e g (accepted e g s) := by
    unfold acceptTag
    rw [h]
    rfl
  have known : (accepted e g s).visitOf? g = s.visitOf? g := rfl
  rw [outbound, decideOutbound, State.outboundVerdict, known]
  cases s.visitOf? g with
  | none => rfl
  | some v => cases h : v.state <;> simp only [h] <;> rfl

/-- A verdict that opens a visit found none for the tag. -/
theorem inboundVerdict_opens {n : Option Nat} {ad : Admission} (h : s.inboundVerdict n g = .opens ad) :
    (s.visitOf? g).isSome = false := by
  cases known : (s.visitOf? g).isSome with
  | false => rfl
  | true =>
    rw [State.inboundVerdict, if_pos known] at h
    cases h

/-! ### The verdict's table (R87 to R90) -/

theorem outboundVerdict_known {v : Visit} (h : s.visitOf? g = some v) : s.outboundVerdict g =
    if v.state = .onSite ∨ v.state = .settled then .ready none else .refer .visitBusy := by
  rw [State.outboundVerdict, h]
  dsimp only
  cases v.state <;> rfl

theorem outboundVerdict_opens (ad : Admission) : s.outboundVerdict g ≠ .opens ad := by
  cases known : s.visitOf? g with
  | none =>
    rw [State.outboundVerdict, known]
    simp
  | some v =>
    rw [outboundVerdict_known known]
    split <;> simp

section Inbound
variable {n : Option Nat} (new : (s.visitOf? g).isSome = false)
include new

theorem inboundVerdict_unlisted (h : s.decidingEntry g = none) : s.inboundVerdict n g =
    if s.admission.policy = .refer then .refer .unknown else .refuse .unknown := by
  rw [State.inboundVerdict, if_neg (by rw [new]; decide), h]
  dsimp only
  cases s.admission.policy <;> rfl

theorem inboundVerdict_listed {i : Nat} {en : AdmitEntry} (h : s.decidingEntry g = some (i, en)) :
    (en.action = .refer → s.inboundVerdict n g = .refer .listed)
      ∧ (en.action = .refuse → s.inboundVerdict n g = .refuse .listed)
      ∧ (en.action = .allow → s.inboundVerdict n g =
          match s.admissionFailure en.account en.cls with
          | some r => .refer r
          | none => s.holdVerdict n en.admission) := by
  refine ⟨fun action => ?_, fun action => ?_, fun action => ?_⟩ <;>
  · rw [State.inboundVerdict, if_neg (by rw [new]; decide), h]
    dsimp only
    rw [action]

end Inbound

theorem admissionFailure_known {a : Account} {n c : Nat} (h : s.account? n = some a) :
    s.admissionFailure n c =
      if a.status ≠ .open then some .accountStopped
      else if c ∉ a.classes then some .classDenied
      else if a.balance + a.limit < ((s.cls c).minimum : Int) then some .funds
      else none := by
  rw [State.admissionFailure, h]
  simp

theorem holdVerdict_new (s : State) (ad : Admission) : s.holdVerdict none ad =
    if s.metro.switchOn = true then .hold .cal ad
    else if 64 ≤ s.visits.table.length then .hold .yardFull ad
    else if s.journal.erasedCount ≤ s.journal.low then .hold .journalLow ad
    else if s.outcomes.high ≤ s.outcomes.queue.length then .hold .outcomeHigh ad
    else .opens ad := by
  rw [State.holdVerdict, Option.isSome_none, firstHold_eq]
  unfold Journal.erasedCount
  simp only [true_and]
  split_ifs <;> rfl

/-! ### What a verdict leaves at an end that does not return to IDLE -/

section Live
variable (live : (s.machine e).clearTimer ≠ .expired)
include live

theorem carry_hold (r : Reason) (ad : Admission) :
    ((Verdict.hold r ad).carry e g s).machine e = { s.machine e with admission := some ad }.holding r
      ∧ ((Verdict.hold r ad).carry e g s).visits = s.visits := by
  rw [Verdict.carry, holdEnd_live _ (by rw [recordAdmission_machine]; exact live), offer_machine, offer_visits,
    modMachine_machine, recordAdmission_machine]
  exact ⟨rfl, rfl⟩

theorem carry_ready (n : Option Nat) :
    ((Verdict.ready n).carry e g s).machine e = (s.machine e).readied n
      ∧ ((Verdict.ready n).carry e g s).visits = s.visits := by
  rw [Verdict.carry, readyEnd_live _ live, modMachine_machine]
  exact ⟨rfl, rfl⟩

theorem carry_readyAdmitted (n : Nat) (ad : Admission) :
    ((Verdict.readyAdmitted n ad).carry e g s).machine e
        = { s.machine e with admission := some ad }.readied (some n)
      ∧ ((Verdict.readyAdmitted n ad).carry e g s).visits = s.visits := by
  rw [Verdict.carry, readyEnd_live _ (by rw [recordAdmission_machine]; exact live), modMachine_machine,
    recordAdmission_machine]
  exact ⟨rfl, rfl⟩

theorem carry_opens (ad : Admission) (new : (s.visitOf? g).isSome = false) :
    ((Verdict.opens ad).carry e g s).machine e
        = { s.machine e with admission := some ad }.readied (some s.visits.assign)
      ∧ ((Verdict.opens ad).carry e g s).visits =
        { s.visits with
          table := s.visits.table ++ [s.opening e g ad]
          next := wrapNext 999999 s.visits.assign } := by
  have opened := openAtEnd_new (e := e) (g := g) (ad := ad) (s := recordAdmission e ad s) new
  rw [Verdict.carry, opened, expiredToIdle_live]
  · rw [offer_machine, offer_visits, modMachine_machine]
    refine ⟨congrArg (EndMachine.readied · _) (recordAdmission_machine e ad s), rfl⟩
  · rw [offer_machine, modMachine_machine]
    exact (congrArg EndMachine.clearTimer (recordAdmission_machine e ad s)).trans_ne live

section NoVisit
variable (none : (s.machine e).visit = none)
include none

theorem carry_refuse (r : Reason) :
    ((Verdict.refuse r).carry e g s).machine e = (s.machine e).refused r .none
      ∧ ((Verdict.refuse r).carry e g s).visits = s.visits := by
  rw [Verdict.carry, refuseEnd_live _ _ live, offer_machine, offer_visits, none, modMachine_machine]
  exact ⟨rfl, rfl⟩

theorem carry_refer_detached (link : s.link.attended = false) (r : Reason) :
    ((Verdict.refer r).carry e g s).machine e = (s.machine e).refused .detached r
      ∧ ((Verdict.refer r).carry e g s).visits = s.visits := by
  rw [Verdict.carry, refer_detached _ link live, offer_machine, offer_visits, none, modMachine_machine]
  exact ⟨rfl, rfl⟩

end NoVisit

theorem carry_refer_attended (link : s.link.attended = true) (r : Reason) :
    ((Verdict.refer r).carry e g s).machine e = (s.machine e).referred r
      ∧ ((Verdict.refer r).carry e g s).visits = s.visits := by
  rw [Verdict.carry, refer_attended _ link live, offer_machine, offer_visits, modMachine_machine]
  exact ⟨rfl, rfl⟩

end Live

/-- The state with its link ATTENDED. -/
def attended (s : State) : State := { s with link := { s.link with attended := true } }

theorem attended_machine (s : State) (e : EndId) : (attended s).machine e = s.machine e := rfl

/-- A DETACHED end takes the same verdict, but for a referral, which refuses it (R92). -/
theorem carry_detached (v : Verdict) (live : (s.machine e).clearTimer ≠ .expired)
    (none : (s.machine e).visit = none) (link : s.link.attended = false)
    (new : ∀ ad, v = .opens ad → (s.visitOf? g).isSome = false) :
    let t := v.carry e g (attended s)
    let t' := v.carry e g s
    ((t.machine e).state ≠ .referred → t'.machine e = t.machine e ∧ t'.visits = t.visits)
      ∧ ((t.machine e).state = .referred →
          t'.machine e = (s.machine e).refused .detached (t.machine e).reason ∧ t'.visits = s.visits) := by
  intro t t'
  have same (x : EndMachine) (machine : t.machine e = x) (machine' : t'.machine e = x)
      (visits : t'.visits = t.visits) (state : x.state ≠ .referred) :
      ((t.machine e).state ≠ .referred → t'.machine e = t.machine e ∧ t'.visits = t.visits)
        ∧ ((t.machine e).state = .referred →
            t'.machine e = (s.machine e).refused .detached (t.machine e).reason ∧ t'.visits = s.visits) := by
    rw [machine, machine']
    exact ⟨fun _ => ⟨rfl, visits⟩, fun no => absurd no state⟩
  cases v with
  | refer r =>
    have machine : t.machine e = (s.machine e).referred r :=
      (carry_refer_attended (s := attended s) (g := g) live rfl r).1
    obtain ⟨machine', visits⟩ := carry_refer_detached (g := g) live none link r
    rw [machine]
    exact ⟨fun no => absurd rfl no, fun _ => ⟨machine', visits⟩⟩
  | refuse r =>
    obtain ⟨machine, visits⟩ := carry_refuse (s := attended s) (g := g) live none r
    obtain ⟨machine', visits'⟩ := carry_refuse (g := g) live none r
    exact same _ machine machine' (visits'.trans visits.symm) (by simp [EndMachine.refused])
  | hold r ad =>
    obtain ⟨machine, visits⟩ := carry_hold (s := attended s) (g := g) live r ad
    obtain ⟨machine', visits'⟩ := carry_hold (g := g) live r ad
    exact same _ machine machine' (visits'.trans visits.symm) (by simp [EndMachine.holding])
  | ready n =>
    obtain ⟨machine, visits⟩ := carry_ready (s := attended s) (g := g) live n
    obtain ⟨machine', visits'⟩ := carry_ready (g := g) live n
    exact same _ machine machine' (visits'.trans visits.symm) (by simp [EndMachine.readied])
  | readyAdmitted n ad =>
    obtain ⟨machine, visits⟩ := carry_readyAdmitted (s := attended s) (g := g) live n ad
    obtain ⟨machine', visits'⟩ := carry_readyAdmitted (g := g) live n ad
    exact same _ machine machine' (visits'.trans visits.symm) (by simp [EndMachine.readied])
  | opens ad =>
    obtain ⟨machine, visits⟩ := carry_opens (s := attended s) (g := g) live ad (new ad rfl)
    obtain ⟨machine', visits'⟩ := carry_opens (g := g) live ad (new ad rfl)
    exact same _ machine machine' (visits'.trans visits.symm) (by simp [EndMachine.readied])

theorem EndOnly.frame (h : EndOnly e s t) :
    t = { s with ends := t.ends, visits := t.visits, reports := t.reports } := by
  obtain ⟨m, v, r, rfl⟩ := h
  rfl

/-! ### What a verdict leaves at an end whose clear timer has expired (R94) -/

/-- The end is IDLE, and every visit left was there. -/
def IdleWithin (e : EndId) (s t : State) : Prop :=
  (t.machine e).state = .idle ∧ (t.machine e).tag = none ∧ (t.machine e).visit = none
    ∧ (t.machine e).movement = none ∧ ∀ v ∈ t.visits.table, v ∈ s.visits.table

theorem removeVisit?_mem {n : Option Nat} {v : Visit} (h : v ∈ (s.removeVisit? n).visits.table) :
    v ∈ s.visits.table ∧ n ≠ some v.number := by
  cases n with
  | none => exact ⟨h, by simp⟩
  | some n =>
    obtain ⟨mem, other⟩ := List.mem_filter.mp (show v ∈ s.visits.table.filter _ from h)
    refine ⟨mem, fun same => ?_⟩
    simp only [Option.some.injEq] at same
    simp [same] at other

/-- An end that leaves is IDLE, its own visit removed. -/
theorem expiredToIdle_idles (expired : (u.machine e).clearTimer = .expired)
    (leaves : (u.machine e).state.leavesOnClear = true)
    (visits : ∀ v ∈ u.visits.table, (u.machine e).visit ≠ some v.number → v ∈ s.visits.table) :
    IdleWithin e s (expiredToIdle e u) := by
  have machine : (expiredToIdle e u).machine e = (u.machine e).cleared := by
    rw [expiredToIdle_expired expired leaves, endIdle, modMachine_machine, removeVisit?_machine]
  refine ⟨by rw [machine]; rfl, by rw [machine]; rfl, by rw [machine]; rfl, by rw [machine]; rfl,
    fun v hv => ?_⟩
  rw [expiredToIdle_expired expired leaves] at hv
  obtain ⟨mem, other⟩ := removeVisit?_mem hv
  exact visits v mem other

theorem carry_idles {v : Verdict} (expired : (s.machine e).clearTimer = .expired)
    (new : ∀ ad, v = .opens ad → (s.visitOf? g).isSome = false) : IdleWithin e s (v.carry e g s) := by
  have refuses (r p : Reason) (u : State) (exp : (u.machine e).clearTimer = .expired)
      (within : ∀ v ∈ u.visits.table, v ∈ s.visits.table) : IdleWithin e s (refuseEnd e r p u) := by
    refine expiredToIdle_idles ?_ ?_ fun v hv _ => ?_
    · rw [offer_machine, modMachine_machine, removeVisit?_machine]
      exact exp
    · rw [offer_machine, modMachine_machine]
      rfl
    · rw [offer_visits] at hv
      exact within v (removeVisit?_mem hv).1
  cases v with
  | refer r =>
    cases link : s.link.attended with
    | true =>
      refine Eq.mpr (congrArg (IdleWithin e s) (if_pos link)) (expiredToIdle_idles ?_ ?_ fun v hv _ => ?_)
      · rw [offer_machine, modMachine_machine]
        exact expired
      · rw [offer_machine, modMachine_machine]
        rfl
      · rw [offer_visits] at hv
        exact hv
    | false =>
      refine Eq.mpr (congrArg (IdleWithin e s) (if_neg (by rw [link]; decide))) (refuses _ _ _ ?_ fun v hv => hv)
      rw [modMachine_machine]
      exact expired
  | refuse r => exact refuses _ _ _ expired fun v hv => hv
  | hold r ad =>
    refine expiredToIdle_idles ?_ ?_ fun v hv _ => ?_
    · rw [offer_machine, modMachine_machine, recordAdmission_machine]
      exact expired
    · rw [offer_machine, modMachine_machine]
      rfl
    · rw [offer_visits] at hv
      exact hv
  | ready n =>
    refine expiredToIdle_idles ?_ ?_ fun v hv _ => hv
    · rw [readyEnd, modMachine_machine]
      exact expired
    · rw [readyEnd, modMachine_machine]
      rfl
  | readyAdmitted n ad =>
    refine expiredToIdle_idles ?_ ?_ fun v hv _ => hv
    · rw [readyEnd, modMachine_machine, recordAdmission_machine]
      exact expired
    · rw [readyEnd, modMachine_machine]
      rfl
  | opens ad =>
    have opened := openAtEnd_new (e := e) (g := g) (ad := ad) (s := recordAdmission e ad s) (new ad rfl)
    rw [Verdict.carry, opened]
    refine expiredToIdle_idles ?_ ?_ fun v hv other => ?_
    · rw [offer_machine, modMachine_machine]
      exact (congrArg EndMachine.clearTimer (recordAdmission_machine e ad s)).trans expired
    · rw [offer_machine, modMachine_machine]
      rfl
    · rw [offer_visits] at hv
      rw [offer_machine, modMachine_machine] at other
      rcases List.mem_append.mp hv with mem | last
      · exact mem
      · refine absurd ?_ other
        rw [List.mem_singleton.mp last]
        rfl

/-- Settles O21: the verdict on the tag, carried out at the end. -/
theorem admissionDecision : Obligations.AdmissionDecision := by
  intro e g s m i ends
  have taken (identifying : m.state = .identifying) : exec i s =
      answer (.ok [endStateWord ((acceptTag e g s).machine e).state, reasonWord ((acceptTag e g s).machine e).reason])
        (acceptTag e g s) := if_pos identifying
  have only := acceptTag_endOnly e g s
  refine ⟨rfl, fun other => if_neg other, fun identifying link live none => ?attended,
    fun identifying link live none t ran => ?detached, fun identifying expired moves => ?expired⟩
  case attended =>
    have alive : ((accepted e g s).machine e).clearTimer ≠ .expired := by
      rw [accepted_machine]
      exact live
    have unvisited : ((accepted e g s).machine e).visit = Option.none := by
      rw [accepted_machine]
      exact none
    have finish (st : EndState) (r : Reason) (x : EndMachine) (machine : (acceptTag e g s).machine e = x)
        (state : x.state = st) (reason : x.reason = r) (tag : x.tag = some g) (timer : x.idTimer = .stopped)
        (visits : st ≠ .ready → (acceptTag e g s).visits = s.visits) :
        ends st r [endStateWord st, reasonWord r] := by
      refine ⟨acceptTag e g s, ?_, ?_, ?_, ?_, ?_, only.frame, fun e' ne => only.station_of_ne ne, visits⟩
      · rw [AnswersWith, taken identifying, machine, state, reason]
        rfl
      all_goals rw [machine]
      exacts [state, reason, tag, timer]
    have refers (r : Reason) (h : acceptTag e g s = (Verdict.refer r).carry e g (accepted e g s)) :
        ends .referred r ["REFERRED", reasonWord r] := by
      obtain ⟨machine, visits⟩ := carry_refer_attended (g := g) alive link r
      rw [← h, accepted_machine] at machine
      exact finish _ _ _ machine rfl rfl rfl rfl fun _ => (congrArg State.visits h).trans visits
    have refuses (r : Reason) (h : acceptTag e g s = (Verdict.refuse r).carry e g (accepted e g s)) :
        ends .refused r ["REFUSED", reasonWord r] := by
      obtain ⟨machine, visits⟩ := carry_refuse (g := g) alive unvisited r
      rw [← h, accepted_machine] at machine
      exact finish _ _ _ machine rfl rfl rfl rfl fun _ => (congrArg State.visits h).trans visits
    have holds (r : Reason) (ad : Admission)
        (h : acceptTag e g s = (Verdict.hold r ad).carry e g (accepted e g s)) :
        ends .held r ["HELD", reasonWord r] := by
      obtain ⟨machine, visits⟩ := carry_hold (g := g) alive r ad
      rw [← h, accepted_machine] at machine
      exact finish _ _ _ machine rfl rfl rfl rfl fun _ => (congrArg State.visits h).trans visits
    refine ⟨fun outbound => ?outbound, fun inbound => ?inbound⟩
    case outbound =>
      have decided := acceptTag_outbound (g := g) outbound
      cases known : s.visitOf? g with
      | none =>
        rw [State.outboundVerdict, known] at decided
        exact refers _ decided
      | some v =>
        rw [outboundVerdict_known known] at decided
        dsimp only
        by_cases state : v.state = .onSite ∨ v.state = .settled
        · rw [if_pos state] at decided ⊢
          obtain ⟨machine, -⟩ := carry_ready (g := g) alive Option.none
          rw [← decided, accepted_machine] at machine
          exact finish _ _ _ machine rfl rfl rfl rfl fun no => absurd rfl no
        · rw [if_neg state] at decided ⊢
          exact refers _ decided
    case inbound =>
      have decided := acceptTag_inbound (g := g) inbound
      rw [show (s.machine e).visit = Option.none from none] at decided
      cases known : (s.visitOf? g).isSome with
      | true =>
        rw [if_pos rfl]
        rw [State.inboundVerdict, if_pos known] at decided
        exact refers _ decided
      | false =>
        rw [if_neg (by decide)]
        rcases listed : s.decidingEntry g with _ | ⟨j, en⟩
        · rw [inboundVerdict_unlisted known listed] at decided
          dsimp only
          by_cases policy : s.admission.policy = .refer
          · rw [if_pos policy] at decided ⊢
            exact refers _ decided
          · rw [if_neg policy] at decided ⊢
            exact refuses _ decided
        · obtain ⟨refer, refuse, allow⟩ := inboundVerdict_listed (n := Option.none) known listed
          refine ⟨fun action => refers .listed (by rw [decided, refer action]),
            fun action => refuses .listed (by rw [decided, refuse action]), fun action => ?_⟩
          rw [allow action] at decided
          cases account : s.account? en.account with
          | none =>
            rw [State.admissionFailure, account] at decided
            exact refers _ decided
          | some a =>
            rw [admissionFailure_known account] at decided
            dsimp only
            by_cases status : a.status ≠ .open
            · rw [if_pos status] at decided ⊢
              exact refers _ decided
            rw [if_neg status] at decided ⊢
            by_cases cls : en.cls ∉ a.classes
            · rw [if_pos cls] at decided ⊢
              exact refers _ decided
            rw [if_neg cls] at decided ⊢
            by_cases funds : a.balance + a.limit < ((s.cls en.cls).minimum : Int)
            · rw [if_pos funds] at decided ⊢
              exact refers _ decided
            rw [if_neg funds] at decided ⊢
            dsimp only at decided
            rw [holdVerdict_new] at decided
            by_cases cal : s.metro.switchOn = true
            · rw [if_pos cal] at decided ⊢
              exact holds _ _ decided
            rw [if_neg cal] at decided ⊢
            by_cases yard : 64 ≤ s.visits.table.length
            · rw [if_pos yard] at decided ⊢
              exact holds _ _ decided
            rw [if_neg yard] at decided ⊢
            by_cases low : s.journal.erasedCount ≤ s.journal.low
            · rw [if_pos low] at decided ⊢
              exact holds _ _ decided
            rw [if_neg low] at decided ⊢
            by_cases high : s.outcomes.high ≤ s.outcomes.queue.length
            · rw [if_pos high] at decided ⊢
              exact holds _ _ decided
            rw [if_neg high] at decided ⊢
            obtain ⟨machine, visits⟩ := carry_opens (g := g) alive en.admission known
            rw [← decided, accepted_machine] at machine
            rw [← decided] at visits
            refine ⟨finish _ _ _ machine rfl rfl rfl rfl fun no => absurd rfl no, acceptTag e g s, ?_, ?_,
              (accepted e g s).opening e g en.admission, ?_, rfl, rfl, rfl, rfl, rfl, rfl, rfl, rfl, rfl, rfl,
              ?_⟩
            · rw [AnswersWith, taken identifying, machine]
              rfl
            · rw [machine]
              rfl
            · rw [visits]
              rfl
            · have kind : ((accepted e g s).opening e g en.admission).kind = (s.visitTerms g en.admission).1 := rfl
              rw [kind, visitTerms_eq]
              cases one : en.onePass <;> simp [AdmitEntry.admission, one, askedKind, Option.isSome_iff_ne_none]
  case detached =>
    have ran' : exec i (attended s) = answer (.ok [endStateWord ((acceptTag e g (attended s)).machine e).state,
        reasonWord ((acceptTag e g (attended s)).machine e).reason]) (acceptTag e g (attended s)) :=
      if_pos identifying
    cases ran'.symm.trans ran
    have alive : ((accepted e g s).machine e).clearTimer ≠ .expired := by
      rw [accepted_machine]
      exact live
    have unvisited : ((accepted e g s).machine e).visit = Option.none := by
      rw [accepted_machine]
      exact none
    have conclude (v : Verdict) (here : acceptTag e g s = v.carry e g (accepted e g s))
        (there : acceptTag e g (attended s) = v.carry e g (attended (accepted e g s)))
        (new : ∀ ad, v = .opens ad → (s.visitOf? g).isSome = false) :
        (((acceptTag e g (attended s)).machine e).state ≠ .referred →
            (acceptTag e g s).machine e = (acceptTag e g (attended s)).machine e
              ∧ (acceptTag e g s).visits = (acceptTag e g (attended s)).visits)
          ∧ (((acceptTag e g (attended s)).machine e).state = .referred →
              ((acceptTag e g s).machine e).state = .refused ∧ ((acceptTag e g s).machine e).reason = .detached
                ∧ ((acceptTag e g s).machine e).prior = ((acceptTag e g (attended s)).machine e).reason
                ∧ ((acceptTag e g s).machine e).tag = some g ∧ (acceptTag e g s).visits = s.visits) := by
      obtain ⟨same, refused⟩ := carry_detached (g := g) v alive unvisited link new
      rw [← here, ← there] at same refused
      refine ⟨same, fun referred => ?_⟩
      obtain ⟨machine, visits⟩ := refused referred
      rw [machine, accepted_machine]
      exact ⟨rfl, rfl, rfl, rfl, visits⟩
    refine ⟨_, taken identifying, ?_⟩
    cases mv : m.movement with
    | none =>
      have idle (u : State) (h : u.machine e = m) : acceptTag e g u = accepted e g u := by
        unfold acceptTag
        rw [h, mv]
        rfl
      have here := idle s rfl
      have there := idle (attended s) rfl
      have machine : (accepted e g (attended s)).machine e = (accepted e g s).machine e := by
        rw [accepted_machine, accepted_machine, attended_machine]
      rw [here, there]
      refine ⟨fun _ => ⟨machine.symm, rfl⟩, fun referred => ?_⟩
      have state : ((accepted e g (attended s)).machine e).state = .identifying := by
        rw [machine, accepted_machine]
        exact identifying
      exact absurd (state.symm.trans referred) (by decide)
    | some x =>
      cases x with
      | inbound =>
        exact conclude (s.inboundVerdict m.visit g) (acceptTag_inbound mv) (acceptTag_inbound mv)
          fun ad h => inboundVerdict_opens h
      | outbound =>
        refine conclude (s.outboundVerdict g) (acceptTag_outbound mv) (acceptTag_outbound mv) fun ad h => ?_
        exact absurd h (outboundVerdict_opens ad)
  case expired =>
    have idles : IdleWithin e s (acceptTag e g s) := by
      have expired' : ((accepted e g s).machine e).clearTimer = .expired := by
        rw [accepted_machine]
        exact expired
      cases mv : m.movement with
      | none => exact absurd mv moves
      | some x =>
        cases x with
        | inbound =>
          rw [acceptTag_inbound mv]
          exact carry_idles expired' fun ad h => inboundVerdict_opens h
        | outbound =>
          rw [acceptTag_outbound mv]
          exact carry_idles expired' fun ad h => absurd h (outboundVerdict_opens ad)
    obtain ⟨idle, tag, visit, movement, within⟩ := idles
    exact ⟨_, taken identifying, idle, tag, visit, movement, within⟩

end Sys2Proof.Machine
end

section
/-! PROOFS. Chapter 6, the commands and timers of a transaction: a report queue that only grows, what a
cancel makes of the visit, and the place a settlement takes (R39, R111 to R118, R127). -/

namespace Sys2Proof.Machine

-- One declaration after another: at once they ask for more threads than the check's limits allow.
set_option Elab.async false

variable {s t u : State} {d : Deck} {e : EndId}

/-! ### The report queue grows -/

/-- The reports of `t` are those of `s` and perhaps more behind them. -/
def Reported (s t : State) : Prop := ∃ rest, t.reports.queue = s.reports.queue ++ rest

theorem Reported.of_eq (h : t.reports = s.reports) : Reported s t := ⟨[], by rw [h, List.append_nil]⟩

theorem Reported.trans (h : Reported s t) (k : Reported t u) : Reported s u := by
  obtain ⟨p, hp⟩ := h
  obtain ⟨q, hq⟩ := k
  exact ⟨p ++ q, by rw [hq, hp, List.append_assoc]⟩

theorem reported_offer (k : ReportKind) (x : Subject) (ps : List String) (s : State) :
    Reported s (offer k x ps s) := by
  rcases offer_cases s k x ps with ⟨-, h⟩ | ⟨-, -, h⟩ | ⟨-, -, h⟩
  · exact .of_eq (by rw [h])
  · rw [h]
    exact ⟨_, rfl⟩
  · rw [h]
    exact ⟨[], (List.append_nil _).symm⟩

theorem Reported.offer (h : Reported s t) (k : ReportKind) (x : Subject) (ps : List String) :
    Reported s (offer k x ps t) := h.trans (reported_offer k x ps t)

theorem reported_condArises (f : FaultSource) (s : State) : Reported s (condArises f s) := by
  unfold condArises
  dsimp only
  split
  · exact reported_offer _ _ _ (s.setFault f _)
  · exact .of_eq rfl
  · exact .of_eq rfl

theorem reported_condEnds (f : FaultSource) (s : State) : Reported s (condEnds f s) := by
  unfold condEnds
  dsimp only
  split
  · exact reported_offer _ _ _ (s.setFault f _)
  · exact .of_eq rfl
  · exact .of_eq rfl

theorem reported_putDriver (e : EndId) (b : Driver) (s : State) : Reported s (putDriver e b s) := by
  unfold putDriver
  dsimp only
  split
  · exact reported_condArises _ (s.modDriver e _)
  · exact .of_eq rfl

theorem reported_drivenUp (e : EndId) (s : State) : Reported s (drivenUp e s) := reported_putDriver e _ s

theorem reported_raiseRequest (e : EndId) (s : State) : Reported s (raiseRequest e s) := by
  unfold raiseRequest raiseExecuted
  split
  · split <;> first
    | exact .of_eq rfl
    | (rw [startUp_eq]; exact reported_drivenUp e (setPending e .none s))
  · exact .of_eq rfl

theorem reported_enterPassage (d : Deck) (st : SeqState) (e : EndId) (s : State) :
    Reported s (enterPassage d st e s) := reported_raiseRequest e (s.modSeq d _)

theorem reported_enterDeparting (d : Deck) (s : State) : Reported s (enterDeparting d s) := by
  unfold enterDeparting
  split
  · exact reported_enterPassage d _ _ s
  · exact .of_eq rfl

/-! ### Settling (R115, R140) -/

theorem settlementOf_second {v : Visit} {f g : Committed} (visit : s.visit? (s.deck d).seq.visit = some v)
    (weighing : (s.deck d).seq.weighing = some g) (role : (s.deck d).seq.role = some .second)
    (first : v.first = some f) : s.settlementOf d = some (settleTwoPass s v f g) := by
  unfold State.settlementOf
  dsimp only
  rw [visit, weighing, role]
  dsimp only
  rw [first]
  rfl

theorem settlementOf_onePass {v : Visit} {x : TareUsed} {g : Committed}
    (visit : s.visit? (s.deck d).seq.visit = some v)
    (weighing : (s.deck d).seq.weighing = some g) (role : (s.deck d).seq.role = some .onePass)
    (tare : v.tare = some x) : s.settlementOf d = some (settleOnePass s v x g) := by
  unfold State.settlementOf
  dsimp only
  rw [visit, weighing, role]
  dsimp only
  rw [tare]
  rfl

/-- Settles O29: the place is taken exactly under R115's four conditions, and the settlement of the role
is the one whose append is requested. -/
theorem settleReserveTakesPlace : Obligations.SettleReserveTakesPlace := by
  unfold Obligations.SettleReserveTakesPlace
  intro d s q room i
  refine ⟨fun no => ?_, fun v g c state free clear fits visit weighing role => ?_⟩
  · refine if_neg fun yes => ?_
    obtain ⟨state, free, clear, fits⟩ := mayReserve_iff.mp yes
    rcases no with no | no | no | no
    · exact no state
    · exact Bool.false_ne_true (free.symm.trans no)
    · exact Bool.false_ne_true (clear.symm.trans no)
    · exact no fits
  · have settlement : s.settlementOf d = some c := by
      rcases role with ⟨role, f, first, rfl⟩ | ⟨role, x, tare, rfl⟩
      · exact settlementOf_second visit weighing role first
      · exact settlementOf_onePass visit weighing role tare
    change execSettleReserve d s = _
    unfold execSettleReserve
    rw [if_pos (mayReserve_iff.mpr ⟨state, free, clear, fits⟩), settlement]
    simp only [raisePending, State.modAccount, beq_iff_eq]
    rfl

/-! ### Cancel, release and timers (R111 to R113, R117, R118) -/

theorem departure_of_approach {q : Sequencer} (h : q.approach = some e) : q.departure = some e.other := by
  unfold Sequencer.departure
  rw [h]
  rfl

/-- Turning the visit back leaves every block but the visits. -/
theorem turnBackVisit_frame (q : Sequencer) (s : State) :
    ∃ v, turnBackVisit q s = { s with visits := v } := by
  unfold turnBackVisit
  split
  · exact ⟨_, rfl⟩
  · exact ⟨_, rfl⟩
  · exact ⟨_, rfl⟩
  · exact ⟨s.visits, rfl⟩
  · exact ⟨s.visits, rfl⟩

theorem turnBackVisit_removes {q : Sequencer} (h : q.role = some .first ∨ q.role = some .onePass) (s : State) :
    (turnBackVisit q s).visits.table = s.visits.table.filter fun x => x.number ≠ q.visit := by
  unfold turnBackVisit State.removeVisit
  rcases h with h | h <;> rw [h] <;>
    exact List.filter_congr fun x _ => by simp [bne, Bool.beq_eq_decide_eq]

theorem turnBackVisit_reverts {q : Sequencer} (h : q.role = some .second) (s : State) :
    (turnBackVisit q s).visits.table = s.visits.table.map fun x =>
      if x.number = q.visit then { x with state := .onSite, holder := .none } else x := by
  unfold turnBackVisit State.modVisit
  rw [h]
  simp only [beq_iff_eq]
  rfl

theorem turnBackVisit_pass {q : Sequencer} (h : q.role = some .pass) (s : State) : turnBackVisit q s = s := by
  unfold turnBackVisit
  rw [h]

/-- A cancel sends the vehicle back through its approach end, from a state whose record is `s`'s but for
the mark of R113 (R113). -/
theorem cancelled_spec {q : Sequencer} (h : (s.deck d).seq.approach = some e) :
    ((enterEjecting d (turnBackVisit q s)).deck d)
        = { s.deck d with
            seq := passageRecord .ejecting e (s.safetyOcc e) (s.deck d).settings.tailgateTime (s.deck d).seq }
      ∧ (enterEjecting d (turnBackVisit q s)).visits = (turnBackVisit q s).visits
      ∧ (enterEjecting d (turnBackVisit q s)).journal = s.journal := by
  obtain ⟨v, turned⟩ := turnBackVisit_frame q s
  have approach : ((turnBackVisit q s).deck d).seq.approach = some e := by rw [turned]; exact h
  rw [enterEjecting_eq _ _ _ approach]
  refine ⟨?_, enterPassage_visits _ _ _ _, ?_⟩
  · rw [enterPassage_deck, turned]
    rfl
  · rw [enterPassage_journal, turned]

theorem withdraw_orphan_iff (c : Capture) : c.withdraw.orphan = true ↔
    c.orphan = true ∨ c.state = .stageWrite ∨ c.state = .weighWrite := by
  unfold Capture.withdraw Capture.toIdle Capture.writing
  cases c.state <;> simp

/-- DEPARTING through the departure end, with the visits kept. -/
theorem departing_spec (h : (s.deck d).seq.approach = some e) :
    let t := enterDeparting d s
    (t.deck d).seq.state = .departing ∧ (t.deck d).seq.passage = (s.deck d).seq.departure
      ∧ (t.deck d).seq.take = .stopped ∧ t.visits = s.visits := by
  dsimp only
  rw [enterDeparting_eq _ _ _ h, enterPassage_deck, enterPassage_visits, departure_of_approach h]
  exact ⟨rfl, rfl, rfl, rfl⟩

theorem exec_takeTimer (state : (s.deck d).seq.state = .ticketing)
    (running : (s.deck d).seq.take.isRunning = true) :
    exec (.takeTimerExpiry d) s = .next (enterDeparting d (offer .ticketNotTaken (.deck d)
      [dash (fun t : Ticket => nat t.seq) (s.deck d).seq.ticket, nat (s.deck d).seq.visit] s)) :=
  if_pos ⟨state, running⟩

/-- A report that its group's mode selects is placed while the queue has room (R206). -/
theorem offer_placed (k : ReportKind) (x : Subject) (ps : List String)
    (selected : s.reports.selects k = true) (room : s.reports.queue.length < 48) :
    ∃ p, (offer k x ps s).reports.queue = s.reports.queue ++ [p] ∧ p.kind = k ∧ p.subject = x
      ∧ p.params = ps := by
  rcases offer_cases s k x ps with ⟨no, -⟩ | ⟨-, -, placed⟩ | ⟨-, full, -⟩
  · exact absurd selected (by simp [no])
  · exact ⟨_, by rw [placed], rfl, rfl, rfl⟩
  · omega

theorem selects_ticketNotTaken (h : s.reports.weighing ≠ .none) : s.reports.selects .ticketNotTaken = true := by
  unfold Reports.selects
  cases mode : s.reports.weighing <;> simp_all [ReportKind.group, Reports.mode, ReportKind.exceptional]

/-- Settles O28: by the state the sequencer stands in; a cancel turns the visit back by its role. -/
theorem cancelReleaseAndTimers : Obligations.CancelReleaseAndTimers := by
  unfold Obligations.CancelReleaseAndTimers
  intro d s u q depart
  refine ⟨fun notEntering notWeighing => ?_, fun e state approach => ?_,
    fun no => if_neg no, fun state approach => ?_, fun no => ?_, fun state running approach => ?_,
    fun no => ?_, fun state running => if_pos ⟨state, running⟩, fun no => ?_, fun e ends running => ?_⟩
  · change execDeckCancel d s = refuse .state s
    unfold execDeckCancel
    dsimp only
    split <;> first
    | rfl
    | (exfalso; simp_all [q, u])
  · have taken : ∃ w : State, AnswersWith (.deckCancel d) (.ok []) s (enterEjecting d (turnBackVisit q w))
        ∧ w.visits = s.visits ∧ w.journal = s.journal
        ∧ (w.deck d).seq = { q with unmarked := decide (q.state = .entering ∧ q.passageMark = false) }
        ∧ (q.state = .weighing → (w.deck d).capture = u.capture.withdraw) := by
      rcases state with state | state
      · refine ⟨s.modSeq d fun q => { q with unmarked := !q.passageMark }, ?_, rfl, rfl, ?_, ?_⟩
        · change execDeckCancel d s = _
          unfold execDeckCancel
          dsimp only
          rw [show (s.deck d).seq.state = .entering from state]
          rfl
        · rw [State.modSeq_deck]
          simp [state, q, u]
        · intro no
          exact absurd (state.symm.trans no) (by decide)
      · refine ⟨(s.modCapture d Capture.withdraw).modSeq d fun q => { q with unmarked := false }, ?_, rfl, rfl,
          ?_, fun _ => ?_⟩
        · change execDeckCancel d s = _
          unfold execDeckCancel
          dsimp only
          rw [show (s.deck d).seq.state = .weighing from state]
          rfl
        · rw [State.modSeq_deck, State.modCapture_deck]
          simp [state, q, u]
        · rw [State.modSeq_deck, State.modCapture_deck]
    obtain ⟨w, answered, visits, journal, seq, capture⟩ := taken
    have approach' : (w.deck d).seq.approach = some e := by rw [seq]; exact approach
    obtain ⟨deck, visits', journal'⟩ := cancelled_spec (q := q) approach'
    refine ⟨_, answered, ?_, ?_, ?_, ?_, ?_, fun weighing => ?_, fun role => ?_, fun role => ?_, fun role => ?_,
      journal'.trans journal⟩
    · rw [deck]; rfl
    · rw [deck]; rfl
    · rw [deck]; rfl
    · rw [deck]; simp [passageRecord, SeqState.tailgated]
    · rw [deck]
      simp only [passageRecord, seq, decide_eq_true_eq]
    · rw [deck]
      dsimp only
      rw [capture weighing]
      exact ⟨rfl, rfl, rfl, withdraw_orphan_iff _⟩
    · rw [visits', turnBackVisit_removes role, visits]
    · rw [visits', turnBackVisit_reverts role, visits]
    · rw [visits', turnBackVisit_pass role, visits]
  · obtain ⟨e, approach⟩ := Option.ne_none_iff_exists'.mp approach
    exact ⟨enterDeparting d s, if_pos state, departing_spec approach⟩
  · refine if_neg fun yes => ?_
    rcases no with no | no
    · exact no yes.1
    · exact Bool.false_ne_true (no.symm.trans yes.2)
  · obtain ⟨e, approach⟩ := Option.ne_none_iff_exists'.mp approach
    refine ⟨_, exec_takeTimer state running, ?_, fun mode room => ?_⟩
    · have departs := departing_spec (s := offer .ticketNotTaken (.deck d)
        [dash (fun t : Ticket => nat t.seq) q.ticket, nat q.visit] s) (d := d) (e := e)
        (by rw [offer_deck]; exact approach)
      simpa only [offer_deck, offer_visits] using departs
    · obtain ⟨p, placed, kind, -⟩ := offer_placed .ticketNotTaken (.deck d)
        [dash (fun t : Ticket => nat t.seq) q.ticket, nat q.visit] (selects_ticketNotTaken mode) room
      obtain ⟨rest, grown⟩ := reported_enterDeparting d (offer .ticketNotTaken (.deck d)
        [dash (fun t : Ticket => nat t.seq) q.ticket, nat q.visit] s)
      exact ⟨p, rest, by rw [grown, placed, List.append_assoc]; rfl, kind⟩
  · refine if_neg fun yes => ?_
    rcases no with no | no
    · exact no yes.1
    · exact Bool.false_ne_true (no.symm.trans yes.2)
  · change execTailgateTimerExpiry d s = _
    unfold execTailgateTimerExpiry
    dsimp only
    rcases no with no | no
    · rw [show (s.deck d).seq.passageEnd = none from no]
    · cases (s.deck d).seq.passageEnd with
      | none => rfl
      | some e => exact if_neg (by rw [show (s.deck d).seq.tailgate.isRunning = false from no]; decide)
  · intro t
    change execTailgateTimerExpiry d s = _
    unfold execTailgateTimerExpiry
    dsimp only
    rw [show (s.deck d).seq.passageEnd = some e from ends]
    exact if_pos running

end Sys2Proof.Machine
end

section
/-! PROOFS. Chapter 6, the deck modes: closing a deck and opening it, end by end (R78, R96, R101 to
R103), with the sequencer's settings and its query (R121, R122). -/

namespace Sys2Proof.Machine

-- One declaration after another: at once they ask for more threads than the check's limits allow.
set_option Elab.async false

variable {s t u y : State} {d : Deck} {e x : EndId}

/-! ### The two ends of a deck -/

theorem endAt_cases (h : e.deck = d) : e = d.endAt .one ∨ e = d.endAt .two := by
  subst h
  cases e <;> simp [EndId.deck, Deck.endAt]

theorem endAt_deck (d : Deck) (n : EndNo) : (d.endAt n).deck = d := by cases d <;> cases n <;> rfl

theorem endAt_one_ne_two (d : Deck) : d.endAt .one ≠ d.endAt .two := by cases d <;> decide

theorem DriverOnly.safetyOcc (h : DriverOnly x s t) (e : EndId) : t.safetyOcc e = s.safetyOcc e := by
  unfold State.safetyOcc
  rw [h.lines]

theorem EndOnly.machine_of_ne (h : EndOnly x s t) (ne : e ≠ x) : t.machine e = s.machine e :=
  congrArg Station.machine (h.station_of_ne ne)

theorem lowered_driverOnly (e : EndId) (s : State) : DriverOnly e s (lowered e s) := by
  rw [← lowerRequest_eq]
  exact lowerRequest_driverOnly e s

/-- What a test at an end reads stands in `t` as it stands in `s`. -/
structure SameAtEnd (e : EndId) (s t : State) : Prop where
  decks : t.decks = s.decks
  part : t.part = s.part
  machine : t.machine e = s.machine e
  lines : (t.station e).lines = (s.station e).lines

theorem SameAtEnd.refl (e : EndId) (s : State) : SameAtEnd e s s := ⟨rfl, rfl, rfl, rfl⟩

theorem SameAtEnd.trans (h : SameAtEnd e s t) (k : SameAtEnd e t u) : SameAtEnd e s u where
  decks := k.decks.trans h.decks
  part := k.part.trans h.part
  machine := k.machine.trans h.machine
  lines := k.lines.trans h.lines

theorem DriverOnly.sameAtEnd (h : DriverOnly x s t) (e : EndId) : SameAtEnd e s t :=
  ⟨h.decks, h.part, h.machine e, h.lines e⟩

theorem EndOnly.sameAtEnd (h : EndOnly x s t) (ne : e ≠ x) : SameAtEnd e s t :=
  ⟨h.decks, h.part, h.machine_of_ne ne, h.lines e⟩

theorem SameAtEnd.isApproach (h : SameAtEnd e s t) : t.isApproach e = s.isApproach e := by
  unfold State.isApproach State.movementAt State.deck
  rw [h.decks]

theorem SameAtEnd.movementAt (h : SameAtEnd e s t) : t.movementAt e = s.movementAt e := by
  unfold State.movementAt State.deck
  rw [h.decks]

/-! ### Closing (R96, R102) -/

/-- The states in which an end waits (R96). -/
@[reducible] def EndState.waits (st : EndState) : Prop :=
  st = .identifying ∨ st = .referred ∨ st = .held ∨ st = .ready

theorem closeEnd_waits (h : (s.machine e).state.waits) :
    closeEnd s e = refuseEnd e .closed (s.machine e).reason s := by
  unfold closeEnd
  rcases h with h | h | h | h <;> rw [h]

theorem closeEnd_stays (h : ¬ (s.machine e).state.waits) : closeEnd s e = s := by
  unfold closeEnd
  split
  case h_5 | h_6 | h_7 => rfl
  all_goals exact absurd (by simp [EndState.waits, *]) h

theorem closeEnd_machine (live : (s.machine e).clearTimer ≠ .expired) (h : (s.machine e).state.waits) :
    (closeEnd s e).machine e = (s.machine e).refused .closed (s.machine e).reason := by
  rw [closeEnd_waits h, refuseEnd_live _ _ live, offer_machine, modMachine_machine, removeVisit?_machine]
  rfl

/-- Each end of the deck is closed over what it reads before the close (R96). -/
theorem closeEnds_machine (within : e.deck = d) (s : State) : ∃ y, SameAtEnd e s y
    ∧ (closeEnds d s).machine e = (closeEnd y e).machine e := by
  rcases endAt_cases within with rfl | rfl
  · exact ⟨s, .refl _ s, (closeEnd_endOnly _ _).machine_of_ne (endAt_one_ne_two d)⟩
  · exact ⟨closeEnd s (d.endAt .one), (closeEnd_endOnly _ _).sameAtEnd (endAt_one_ne_two d).symm, rfl⟩

theorem closeEnds_machine_stays (within : e.deck = d) (h : ¬ (s.machine e).state.waits) :
    (closeEnds d s).machine e = s.machine e := by
  obtain ⟨y, same, closed⟩ := closeEnds_machine within s
  rw [closed, closeEnd_stays (by rwa [same.machine]), same.machine]

theorem closeEnds_machine_waits (within : e.deck = d) (h : (s.machine e).state.waits)
    (live : (s.machine e).clearTimer ≠ .expired) :
    (closeEnds d s).machine e = (s.machine e).refused .closed (s.machine e).reason := by
  obtain ⟨y, same, closed⟩ := closeEnds_machine within s
  rw [closed, closeEnd_machine (by rwa [same.machine]) (by rwa [same.machine]), same.machine]

theorem closeEnds_station_of_ne (outside : e.deck ≠ d) (s : State) :
    (closeEnds d s).station e = s.station e := by
  have ne (n : EndNo) : e ≠ d.endAt n := fun h => outside (h ▸ endAt_deck d n)
  exact ((closeEnd_endOnly _ _).station_of_ne (ne .two)).trans ((closeEnd_endOnly _ _).station_of_ne (ne .one))

theorem becomeClosed_deck (d : Deck) (s : State) : (becomeClosed d s).deck d = { s.deck d with
    settings := { (s.deck d).settings with mode := .closed, closePending := false } } :=
  (((closeEnd_endOnly _ _).deck d).trans ((closeEnd_endOnly _ _).deck d)).trans (State.modSettings_deck s d _)

/-- One end closed, said of the end as it stood before. -/
theorem closeEnd_eq (same : y.machine e = s.machine e) [Decidable (s.machine e).state.waits] :
    closeEnd y e = if (s.machine e).state.waits then sentAway e .closed (s.machine e).reason y else y := by
  split
  next h => rw [closeEnd_waits (by rwa [same]), refuseEnd_eq, same]
  next h => exact closeEnd_stays (by rwa [same])

/-- Closing a deck, end 1 before end 2, said of the ends as they stood before (log entry 45). -/
theorem closeEnds_eq (same : ∀ e, y.machine e = s.machine e) [∀ e, Decidable (s.machine e).state.waits] :
    closeEnds d y = [d.endAt .one, d.endAt .two].foldl
      (fun y e => if (s.machine e).state.waits then sentAway e .closed (s.machine e).reason y else y) y := by
  have second : (closeEnd y (d.endAt .one)).machine (d.endAt .two) = s.machine (d.endAt .two) :=
    ((closeEnd_endOnly _ _).machine_of_ne (endAt_one_ne_two d).symm).trans (same _)
  unfold closeEnds
  rw [closeEnd_eq second, closeEnd_eq (same _)]
  rfl

/-! ### Opening (R78, R85, R103) -/

/-- A barrier upward after a lower request (R66, R70). -/
theorem lowered_driver (up : (s.driver e).state = .up ∨ (s.driver e).state = .raising) :
    (lowered e s).driver e =
      if s.safetyOcc e then { s.driver e with pending := .lower }
      else Driver.drivenDown { s.driver e with pending := .none } (s.station e).lines := by
  by_cases occ : s.safetyOcc e = true
  · rw [lowered_occupied up.symm occ, modDriver_driver, if_pos occ]
  · rw [lowered_clear up.symm (by simpa using occ), if_neg occ, drivenDown, putDriver_driver, modDriver_driver,
      modDriver_lines]

theorem lowerBoth_eq (d : Deck) (s : State) :
    lowerBoth d s = [d.endAt .one, d.endAt .two].foldl (fun y e => lowered e y) s := by
  unfold lowerBoth
  rw [lowerRequest_eq, lowerRequest_eq]
  rfl

theorem lowerBoth_sameAtEnd (d : Deck) (s : State) (e : EndId) : SameAtEnd e s (lowerBoth d s) :=
  ((lowerRequest_driverOnly _ _).sameAtEnd e).trans ((lowerRequest_driverOnly _ _).sameAtEnd e)

theorem lowerBoth_driver (within : e.deck = d)
    (up : (s.driver e).state = .up ∨ (s.driver e).state = .raising) :
    (lowerBoth d s).driver e =
      if s.safetyOcc e then { s.driver e with pending := .lower }
      else Driver.drivenDown { s.driver e with pending := .none } (s.station e).lines := by
  rw [lowerBoth_eq]
  dsimp only [List.foldl]
  rcases endAt_cases within with rfl | rfl
  · rw [(lowered_driverOnly _ _).driver_of_ne (endAt_one_ne_two d), lowered_driver up]
  · have only := lowered_driverOnly (d.endAt .one) s
    have same := only.driver_of_ne (endAt_one_ne_two d).symm
    rw [lowered_driver (by rwa [same]), only.safetyOcc, only.lines, same]

/-- The tests of R85 at both ends, end 1 first (log entry 45). -/
def wakeBoth (d : Deck) (s : State) : State := wakeTest (d.endAt .two) (wakeTest (d.endAt .one) s)

theorem wakeBoth_driver (d : Deck) (s : State) (e : EndId) : (wakeBoth d s).driver e = s.driver e :=
  ((wakeTest_endOnly _ _).driver e).trans ((wakeTest_endOnly _ _).driver e)

theorem wakeBoth_decks (d : Deck) (s : State) : (wakeBoth d s).decks = s.decks :=
  (wakeTest_endOnly _ _).decks.trans (wakeTest_endOnly _ _).decks

/-- Each end of the deck is tested over what it reads before the tests. -/
theorem wakeBoth_machine (within : e.deck = d) (s : State) : ∃ y, SameAtEnd e s y
    ∧ (wakeBoth d s).machine e = (wakeTest e y).machine e := by
  rcases endAt_cases within with rfl | rfl
  · exact ⟨s, .refl _ s, (wakeTest_endOnly _ _).machine_of_ne (endAt_one_ne_two d)⟩
  · exact ⟨wakeTest (d.endAt .one) s, (wakeTest_endOnly _ _).sameAtEnd (endAt_one_ne_two d).symm, rfl⟩

theorem wakeBoth_stays (h : e.deck ≠ d ∨ s.part.run = false ∨ (s.machine e).state ≠ .idle
    ∨ (s.station e).lines.approach = false) : (wakeBoth d s).machine e = s.machine e := by
  by_cases within : e.deck = d
  · obtain ⟨y, same, woken⟩ := wakeBoth_machine within s
    rw [woken, wakeTest_stays, same.machine]
    rw [same.part, same.machine, same.lines]
    rintro ⟨run, idle, occ⟩
    rcases h with h | h | h | h
    · exact h within
    · exact Bool.false_ne_true (h.symm.trans run)
    · exact h idle
    · exact Bool.false_ne_true (h.symm.trans occ)
  · have ne (n : EndNo) : e ≠ d.endAt n := fun h => within (h ▸ endAt_deck d n)
    exact ((wakeTest_endOnly _ _).machine_of_ne (ne .two)).trans ((wakeTest_endOnly _ _).machine_of_ne (ne .one))

section Woken
variable (within : e.deck = d) (run : s.part.run = true) (idle : (s.machine e).state = .idle)
  (occ : (s.station e).lines.approach = true)
include within run idle occ

theorem wakeBoth_wrongWay (h : s.isApproach e = false) :
    (wakeBoth d s).machine e = { s.machine e with wrongWay := true } := by
  obtain ⟨y, same, woken⟩ := wakeBoth_machine within s
  rw [woken, wakeTest_wrongWay (by rwa [same.part]) (by rwa [same.machine]) (by rwa [same.lines])
    (by rwa [same.isApproach]), same.machine]
  split
  next mark => rw [same.machine, ← mark]
  next => rw [offer_machine, modMachine_machine, same.machine]

theorem wakeBoth_woken (h : s.isApproach e = true) (conflict : (s.machine e).conflict = false)
    (unread : (s.machine e).heldRead = none) (live : (s.machine e).clearTimer ≠ .expired) :
    (wakeBoth d s).machine e = (s.machine e).woken (s.movementAt e) := by
  obtain ⟨y, same, woken⟩ := wakeBoth_machine within s
  rw [woken, wakeTest_approach (by rwa [same.part]) (by rwa [same.machine]) (by rwa [same.lines])
    (by rwa [same.isApproach]), wake_none (by rwa [same.machine]) (by rwa [same.machine]),
    expiredToIdle_live, modMachine_machine, same.machine, same.movementAt]
  rw [modMachine_machine, same.machine]
  exact live

end Woken

/-- The deck once an OPEN that is accepted has been carried out (R78, R103). -/
def openedDeck (d : Deck) (m : OpenMode) (s : State) : State :=
  let opened : State := s.modSettings d fun t => { t with mode := openMode m }
  let woken := wakeBoth d (if (s.deck d).settings.mode = .closed then lowerBoth d opened else opened)
  if s.part.run = true then woken.modDeck d fun u => { u with streak := 0 } else woken

theorem exec_deckOpen {m : OpenMode} (h : s.part.run = false
    ∨ (s.deck d).settings.closePending = false ∧ (s.deck d).settings.mode = .closed) :
    exec (.deckOpen d (some m)) s
      = .next ((openedDeck d m s).answered (.ok [deckModeWord (openMode m)])) := by
  change execDeckOpen d (some m) s = _
  unfold execDeckOpen
  dsimp only
  rw [if_neg, if_neg]
  · rfl
  · rintro ⟨run, notClosed⟩
    rcases h with h | ⟨-, closed⟩
    · exact Bool.false_ne_true (h.symm.trans run)
    · exact notClosed closed
  · rintro ⟨run, pending⟩
    rcases h with h | ⟨no, -⟩
    · exact Bool.false_ne_true (h.symm.trans run)
    · exact Bool.false_ne_true (no.symm.trans pending)

/-- The state over which the ends of an opened deck are tested. -/
theorem openedDeck_spec (d : Deck) (m : OpenMode) (s : State) : ∃ y,
    (∀ e, SameAtEnd e (s.modSettings d fun t => { t with mode := openMode m }) y)
      ∧ ((s.deck d).settings.mode = .closed →
          y = lowerBoth d (s.modSettings d fun t => { t with mode := openMode m }))
      ∧ (∀ e, (openedDeck d m s).machine e = (wakeBoth d y).machine e)
      ∧ (∀ e, (openedDeck d m s).driver e = y.driver e)
      ∧ (openedDeck d m s).deck d =
          let u := s.deck d
          { u with
            settings := { u.settings with mode := openMode m }
            streak := if s.part.run = true then 0 else u.streak } := by
  refine ⟨if (s.deck d).settings.mode = .closed then
      lowerBoth d (s.modSettings d fun t => { t with mode := openMode m })
    else s.modSettings d fun t => { t with mode := openMode m }, fun e => ?_, fun closed => if_pos closed,
    fun e => ?_, fun e => ?_, ?_⟩
  · split
    · exact lowerBoth_sameAtEnd d _ e
    · exact .refl e _
  · unfold openedDeck
    dsimp only
    split <;> rfl
  · refine .trans ?_ (wakeBoth_driver d _ e)
    unfold openedDeck
    dsimp only
    split <;> rfl
  · have decks : ∀ y : State, y.decks = (s.modSettings d fun t => { t with mode := openMode m }).decks →
        (wakeBoth d y).deck d = { s.deck d with
          settings := { (s.deck d).settings with mode := openMode m } } := by
      intro y same
      rw [State.deck, wakeBoth_decks, same]
      exact State.modSettings_deck s d _
    unfold openedDeck
    dsimp only
    have at_y := decks (if (s.deck d).settings.mode = .closed then
      lowerBoth d (s.modSettings d fun t => { t with mode := openMode m })
      else s.modSettings d fun t => { t with mode := openMode m }) (by
        split
        · exact (lowerBoth_sameAtEnd d _ (d.endAt .one)).decks
        · rfl)
    split
    · rw [State.modDeck_deck, at_y]
    · rw [at_y]

theorem waitWord_eq (d : Deck) (s : State) : s.waitWord d =
    match (s.deck d).seq.state, (s.deck d).seq.passageEnd with
      | .idle, _ => "NONE"
      | .weighing, _ => "CAPTURE"
      | .committing, _ => "WEIGH"
      | .settling, _ => if (s.deck d).seq.reservation then "SETTLE" else "ROOM"
      | .ticketing, _ => ticketWait (s.deck d).seq.ticket
      | _, some e => s.passageWait d e
      | _, none => "NONE" := by
  unfold State.waitWord
  dsimp only
  cases (s.deck d).seq.state <;> cases (s.deck d).seq.passageEnd <;> rfl

theorem directionWord_eq (x : Direction) : directionWord x = if x = .oneToTwo then "1TO2" else "2TO1" := by
  cases x <;> rfl

theorem activeField_eq (x : SeqState) (word : String) :
    (if (x != .idle) = true then word else "-") = if x = .idle then "-" else word := by
  cases x <;> rfl

/-- Settles O27: the modes end by end, the settings and queries from the words they write and show. -/
theorem deckModesAndSequencerSettings : Obligations.DeckModesAndSequencerSettings := by
  unfold Obligations.DeckModesAndSequencerSettings
  refine ⟨?_, ?_⟩
  · intro d s t idle waiting
    refine ⟨fun closed => if_pos closed, fun open_ at_idle => ?_, fun open_ busy => ?_, rfl,
      fun run pending m => if_pos ⟨run, pending⟩, fun run pending open_ m => ?_, fun may m => ?_, rfl,
      fun run v => laneWrite_of_run run,
      fun setup => ⟨laneWrite_of_setup setup, fun v => laneWrite_of_setup setup⟩, ?_⟩
    · refine ⟨becomeClosed d s, (if_neg open_).trans (if_pos at_idle), ?_, fun e within => ?_, ?_⟩
      · rw [becomeClosed_deck]
      · exact ⟨fun stays => closeEnds_machine_stays within stays,
          fun waits live => closeEnds_machine_waits within waits live⟩
      · exact closeEnds_eq (s := s)
          (y := s.modSettings d fun x => { x with mode := .closed, closePending := false }) fun _ => rfl
    · exact (if_neg open_).trans (if_neg busy)
    · exact (if_neg fun h => Bool.false_ne_true (pending.symm.trans h.2)).trans (if_pos ⟨run, open_⟩)
    · obtain ⟨y, same, lowered, machine, driver, deck⟩ := openedDeck_spec d m s
      refine ⟨openedDeck d m s, exec_deckOpen may, by rw [deck], fun run => ?_, fun closed e within up => ?_,
        fun e within run at_idle occ => ?_, fun e stays => ?_, ?_⟩
      · rw [deck]
        exact if_pos run
      · rw [driver, lowered closed]
        exact lowerBoth_driver (s := s.modSettings d fun t => { t with mode := openMode m }) within up
      · have run' : y.part.run = true := (congrArg Part.run (same e).part).trans run
        have idle' : (y.machine e).state = .idle := (congrArg EndMachine.state (same e).machine).trans at_idle
        have occ' : (y.station e).lines.approach = true :=
          (congrArg EndReadings.approach (same e).lines).trans occ
        refine ⟨fun no => ?_, fun yes unread conflict live => ?_⟩
        · rw [machine, wakeBoth_wrongWay within run' idle' occ' ((same e).isApproach.trans no), (same e).machine]
          rfl
        · rw [machine, wakeBoth_woken within run' idle' occ' ((same e).isApproach.trans yes)
            ((congrArg EndMachine.conflict (same e).machine).trans conflict)
            ((congrArg EndMachine.heldRead (same e).machine).trans unread)
            (by rw [(same e).machine]; exact live), (same e).machine, (same e).movementAt]
          rfl
      · rw [machine, wakeBoth_stays, (same e).machine]
        · rfl
        · rw [(same e).machine, (same e).part, (same e).lines]
          exact stays
      · unfold openedDeck
        dsimp only
        rw [lowerBoth_eq]
        rfl
    · change answer (.ok [directionWord (s.deck d).settings.inbound]) s = _
      rw [directionWord_eq]
      rfl
  · intro d s u q t put
    refine ⟨fun v => ⟨rfl, rfl, rfl, rfl⟩, fun r => rfl, rfl, rfl, rfl, rfl, rfl, rfl, rfl, rfl, rfl, rfl, ?_⟩
    change execDeckQuery d s = _
    unfold execDeckQuery
    dsimp only
    rw [waitWord_eq, activeField_eq, activeField_eq]
    rfl

end Sys2Proof.Machine
end

section
/-! PROOFS. Chapter 6, passages: when a passage is complete, and how the states that move a vehicle end
(R102, R109, R110, R112, R119, R120). -/

namespace Sys2Proof.Machine

-- One declaration after another: at once they ask for more threads than the check's limits allow.
set_option Elab.async false

variable {s t u : State} {d : Deck} {e : EndId}

/-! ### A passage is complete (R109) -/

theorem readsEmpty_iff (u : DeckUnit) :
    u.readsEmpty = true ↔ ∃ p, u.wcu.latest = some p ∧ p.empty = true := by
  unfold DeckUnit.readsEmpty
  cases u.wcu.latest <;> simp

/-- The loop condition in a state with a passage end. -/
theorem loopCondition_iff {q : Sequencer} (h : q.passageEnd = some e) (occ : Bool) :
    q.loopCondition occ = true ↔
      (q.passageMark = true ∨ q.state = .ejecting ∧ q.unmarked = true) ∧ occ = false := by
  unfold Sequencer.loopCondition
  cases state : q.state <;> simp_all [Sequencer.passageEnd]

theorem waitsEmpty_iff {q : Sequencer} (h : q.passageEnd = some e) :
    q.state.waitsEmpty = false ↔ q.state = .entering := by
  unfold SeqState.waitsEmpty
  cases state : q.state <;> simp_all [Sequencer.passageEnd]

theorem passageDone_iff (h : (s.deck d).seq.passageEnd = some e) : s.passageDone d e = true ↔
    (s.deck d).seq.lowerRequested = false
      ∧ ((s.deck d).seq.passageMark = true
          ∨ (s.deck d).seq.state = .ejecting ∧ (s.deck d).seq.unmarked = true)
      ∧ s.safetyOcc e = false
      ∧ ((s.deck d).seq.state = .entering ∨ ∃ p, (s.deck d).wcu.latest = some p ∧ p.empty = true) := by
  unfold State.passageDone
  dsimp only
  rw [Bool.and_eq_true, Bool.and_eq_true, Bool.or_eq_true, Bool.not_eq_true', Bool.not_eq_true',
    loopCondition_iff h, waitsEmpty_iff h, readsEmpty_iff, and_assoc, and_assoc]

theorem exec_passage_none (h : (s.deck d).seq.passageEnd = none) :
    exec (.passageComplete d) s = .next s := by
  change execPassageComplete d s = _
  unfold execPassageComplete
  rw [h]

theorem exec_passage_waits (h : (s.deck d).seq.passageEnd = some e) (no : ¬ s.passageDone d e = true) :
    exec (.passageComplete d) s = .next s := by
  change execPassageComplete d s = _
  unfold execPassageComplete
  rw [h]
  exact if_neg no

/-- Permission withdrawn and the lower requested (R109). -/
def lowerAsked (d : Deck) (s : State) : State :=
  s.modSeq d fun q => { q with passage := none, lowerRequested := true }

theorem exec_passage_done (h : (s.deck d).seq.passageEnd = some e) (yes : s.passageDone d e = true) :
    exec (.passageComplete d) s =
      .next (if ((lowered e (lowerAsked d s)).driver e).state = .down
        then passageEnds d (lowered e (lowerAsked d s)) else lowered e (lowerAsked d s)) := by
  change execPassageComplete d s = _
  unfold execPassageComplete
  rw [h]
  dsimp only
  rw [if_pos yes, lowerRequest_eq]
  simp only [barrierDown_iff]
  rfl

/-- A drive down of a barrier that is not CONFIRMED (R64, R68). -/
theorem drivenDown_unconfirmed {b : Driver} (l : EndReadings) (h : b.mode ≠ .confirmed) :
    Driver.drivenDown { b with pending := .none } l =
      { b.outputsDown with state := .lowering, travel := .running b.travelTime, pending := .none } := by
  refine (if_neg fun k => h k.1).trans ?_
  unfold Driver.outputsDown
  cases b.mode <;> rfl

theorem lowered_unconfirmed (up : (s.driver e).state = .up ∨ (s.driver e).state = .raising)
    (mode : (s.driver e).mode ≠ .confirmed) (clear : s.safetyOcc e = false) :
    lowered e s = s.modDriver e fun b => { b.outputsDown with
      state := .lowering, travel := .running b.travelTime, pending := .none } := by
  rw [lowered_clear up.symm clear, drivenDown, putDriver_modDriver, modDriver_driver, modDriver_lines,
    drivenDown_unconfirmed _ mode, putDriver_fine _ _ (by simp)]
  exact modDriver_congr rfl

/-- Settles O25: by R109's conditions, and by the close's. -/
theorem passageAndCloseComplete : Obligations.PassageAndCloseComplete := by
  unfold Obligations.PassageAndCloseComplete
  intro d s u q i empty waiting
  refine ⟨fun no1 no2 no3 => ?_, fun asked => ?_, fun e ends => ⟨fun occ => ?_, fun unmarked clear => ?_,
    fun state full => ?_, fun unasked clear mark emptied => ⟨?_, fun up mode => ?_⟩⟩, fun no => ?_,
    fun pending idle => ?_⟩
  · refine exec_passage_none ?_
    change q.passageEnd = none
    unfold Sequencer.passageEnd
    cases state : q.state <;> first
    | rfl
    | exact absurd state ‹_›
  · cases ends : q.passageEnd with
    | none => exact exec_passage_none ends
    | some e =>
      refine exec_passage_waits ends fun done => ?_
      obtain ⟨no, -⟩ := (passageDone_iff ends).mp done
      exact Bool.false_ne_true (no.symm.trans asked)
  · refine exec_passage_waits ends fun done => ?_
    obtain ⟨-, -, no, -⟩ := (passageDone_iff ends).mp done
    exact Bool.false_ne_true (no.symm.trans occ)
  · refine exec_passage_waits ends fun done => ?_
    obtain ⟨-, mark | ⟨ejecting, mark⟩, -⟩ := (passageDone_iff ends).mp done
    · exact Bool.false_ne_true (unmarked.symm.trans mark)
    · exact Bool.false_ne_true ((clear ejecting).symm.trans mark)
  · refine exec_passage_waits ends fun done => ?_
    obtain ⟨-, -, -, entering | emptied⟩ := (passageDone_iff ends).mp done
    · exact state entering
    · exact full emptied
  · exact exec_passage_done ends ((passageDone_iff ends).mpr ⟨unasked, mark, clear, emptied⟩)
  · refine (exec_passage_done ends ((passageDone_iff ends).mpr ⟨unasked, mark, clear, emptied⟩)).trans ?_
    rw [lowered_unconfirmed (s := lowerAsked d s) up mode clear, if_neg]
    · rfl
    · rw [modDriver_driver]
      simp
  · refine congrArg _ (if_neg fun yes => ?_)
    rcases no with no | no
    · exact Bool.false_ne_true (no.symm.trans yes.1)
    · exact no yes.2
  · refine ⟨becomeClosed d s, congrArg _ (if_pos ⟨pending, idle⟩), ?_, ?_, fun e outside => ?_, fun e within => ⟨fun stays => ?_, fun waits live => ?_⟩⟩
    · exact closeEnds_eq (s := s)
        (y := s.modSettings d fun x => { x with mode := .closed, closePending := false }) fun _ => rfl
    · rw [becomeClosed_deck]
    · exact closeEnds_station_of_ne outside _
    · exact closeEnds_machine_stays
        (s := s.modSettings d fun x => { x with mode := .closed, closePending := false }) within fun waits => by
          rcases stays with h | h | h <;> rcases waits with k | k | k | k <;> exact nomatch h.symm.trans k
    · have machine : (becomeClosed d s).machine e = (s.machine e).refused .closed (s.machine e).reason :=
        closeEnds_machine_waits
          (s := s.modSettings d fun x => { x with mode := .closed, closePending := false }) within waits live
      rw [machine]
      exact ⟨rfl, rfl, rfl, rfl⟩

/-! ### A passage state ends (R110, R112, R119, R120) -/

theorem other_ne (e : EndId) : e.other ≠ e := by cases e <;> decide

theorem other_other (e : EndId) : e.other.other = e := by cases e <;> rfl

/-- `t` is `s` with the barrier of end `e` at DOWN, but for that end's feedback and the marks of the lower
request in the sequencer. -/
structure Grounded (e : EndId) (s t : State) : Prop where
  down : (t.driver e).state = .down
  frame : t = { s with decks := t.decks, ends := t.ends }
  deck : ∃ p b, t.deck e.deck = { s.deck e.deck with
    seq := { (s.deck e.deck).seq with passage := p, lowerRequested := b } }
  others : ∀ x, x ≠ e → t.station x = s.station x
  machine : ∀ x, t.machine x = s.machine x
  approach : ∀ x, (t.station x).lines.approach = (s.station x).lines.approach

theorem grounded_modDriver {f : Driver → Driver} (h : (f (s.driver e)).state = .down) :
    Grounded e s (s.modDriver e f) where
  down := by rw [modDriver_driver]; exact h
  frame := rfl
  deck := ⟨(s.deck e.deck).seq.passage, (s.deck e.deck).seq.lowerRequested, rfl⟩
  others _ ne := (modDriver_driverOnly e f s).station_of_ne ne
  machine x := (modDriver_driverOnly e f s).machine x
  approach x := congrArg EndReadings.approach ((modDriver_driverOnly e f s).lines x)

theorem Grounded.modSeq {p : Option EndId} {b : Bool} (h : Grounded e
    (s.modSeq e.deck fun q => { q with passage := p, lowerRequested := b }) t) : Grounded e s t where
  down := h.down
  frame := h.frame
  deck := by
    obtain ⟨p', b', deck⟩ := h.deck
    rw [deck, State.modSeq_deck]
    exact ⟨p', b', rfl⟩
  others := h.others
  machine := h.machine
  approach := h.approach

theorem Grounded.fedBack (h : Grounded e (fedBack e .down true s) t) : Grounded e s t where
  down := h.down
  frame := h.frame
  deck := h.deck
  others x ne := (h.others x ne).trans (State.modLines_station_of_ne s _ ne)
  machine x := (h.machine x).trans (by
    unfold Machine.fedBack
    cases x <;> cases e <;> rfl)
  approach x := (h.approach x).trans (by
    unfold Machine.fedBack
    cases x <;> cases e <;> rfl)

theorem seqBarrierDown_ends (h : (s.deck e.deck).seq.passageEnd = some e)
    (asked : (s.deck e.deck).seq.lowerRequested = true) : seqBarrierDown e s = passageEnds e.deck s :=
  (if_pos h).trans (if_pos asked)

/-- The barrier's travel ends at DOWN (R68). -/
def landed (e : EndId) (s : State) : State :=
  s.modDriver e fun b => { b with state := .down, travel := .stopped }

theorem landed_grounded (e : EndId) (s : State) : Grounded e s (landed e s) := grounded_modDriver rfl

theorem landed_ends (h : (s.deck e.deck).seq.passageEnd = some e)
    (asked : (s.deck e.deck).seq.lowerRequested = true) :
    seqBarrierDown e (landed e s) = passageEnds e.deck (landed e s) :=
  seqBarrierDown_ends (s := landed e s) h asked

section Ways
variable (ends : (s.deck e.deck).seq.passageEnd = some e)
include ends

/-- The barrier is DOWN at the end of its travel time (R68, R109). -/
theorem ends_by_timer (running : (s.driver e).travel.isRunning = true) (state : (s.driver e).state = .lowering)
    (mode : (s.driver e).mode ≠ .confirmed) (asked : (s.deck e.deck).seq.lowerRequested = true) :
    ∃ t, Grounded e s t ∧ exec (.travelTimerExpiry e) s = .next (passageEnds e.deck t) :=
  ⟨landed e s, landed_grounded e s,
    (exec_travel_lowering running state mode).trans (congrArg _ (landed_ends ends asked))⟩

/-- The barrier is DOWN by its feedback (R68, R109). -/
theorem ends_by_feedback (state : (s.driver e).state = .lowering) (mode : (s.driver e).mode = .confirmed)
    (up : (s.station e).lines.up = false) (asked : (s.deck e.deck).seq.lowerRequested = true) :
    ∃ t, Grounded e s t ∧ exec (.feedbackChange e .down true) s = .next (passageEnds e.deck t) := by
  have station : (fedBack e .down true s).station e
      = { s.station e with lines := setFeedback (s.station e).lines .down true } := State.modLines_station s e _
  have arrived : ((fedBack e .down true s).station e).watch = .arrived .down := by
    rw [station]
    exact (watch_lowering (t := { s.station e with lines := setFeedback (s.station e).lines .down true })
      mode state up).trans rfl
  exact ⟨landed e (fedBack e .down true s), (landed_grounded e _).fedBack,
    (exec_feedback_arrived (by rw [state]; decide) (by rw [state]; decide) arrived).trans
      (congrArg _ ((if_pos rfl).trans (landed_ends (s := fedBack e .down true s) ends asked)))⟩

/-- The barrier is DOWN at once where its feedback reads so (R68, R109). -/
theorem ends_at_once (up : (s.driver e).state = .up ∨ (s.driver e).state = .raising)
    (mode : (s.driver e).mode = .confirmed) (readsDown : (s.station e).lines.down = true)
    (notUp : (s.station e).lines.up = false) (done : s.passageDone e.deck e = true) :
    ∃ t, Grounded e s t ∧ exec (.passageComplete e.deck) s = .next (passageEnds e.deck t) := by
  obtain ⟨-, -, clear, -⟩ := (passageDone_iff ends).mp done
  have down : lowered e (lowerAsked e.deck s) = (lowerAsked e.deck s).modDriver e fun b =>
      { Driver.outputsDown { b with pending := .none } with state := .down, travel := .stopped } := by
    rw [lowered_clear (s := lowerAsked e.deck s) up.symm clear, drivenDown, putDriver_modDriver, modDriver_driver,
      modDriver_lines]
    unfold Driver.drivenDown
    rw [if_pos ⟨mode, readsDown⟩, if_neg (by rw [show ((lowerAsked e.deck s).station e).lines.up = false from notUp]
                                             decide), putDriver_fine _ _ (by simp)]
    exact modDriver_congr rfl
  refine ⟨lowered e (lowerAsked e.deck s), ?_, ?_⟩
  · rw [down]
    exact (grounded_modDriver (by simp)).modSeq
  · rw [exec_passage_done ends done, if_pos (by rw [down, modDriver_driver])]

end Ways

/-- What the record says of a grounded barrier's deck. -/
theorem Grounded.seq (h : Grounded e s t) :
    (t.deck e.deck).seq.state = (s.deck e.deck).seq.state
      ∧ (t.deck e.deck).seq.role = (s.deck e.deck).seq.role
      ∧ (t.deck e.deck).seq.approach = (s.deck e.deck).seq.approach
      ∧ (t.deck e.deck).seq.visit = (s.deck e.deck).seq.visit
      ∧ (t.deck e.deck).seq.tag = (s.deck e.deck).seq.tag := by
  obtain ⟨p, b, deck⟩ := h.deck
  rw [deck]
  exact ⟨rfl, rfl, rfl, rfl, rfl⟩

/-- The deck's unit in WEIGHING (R112, R27). -/
theorem enterWeighing_spec {r : Role} (role : (s.deck d).seq.role = some r) :
    ∃ cls, enterWeighing d s = s.modDeck d (fun u => { u with
        seq := { u.seq with
          state := .weighing, passage := none, lowerRequested := false, tailgate := .stopped
          weighTimer := .running u.settings.weighingTime }
        capture := { u.capture with
          state := .waiting, request := some ⟨r, u.seq.tag, u.seq.visit, cls⟩
          stageCount := if u.capture.staged then (s.cls cls).stages else 1
          stage := 1, stages := [], motion := false
          blocking := some (if u.capture.orphan then .append else .next), grantDue := none } })
      ∧ ∀ v, s.visit? (s.deck d).seq.visit = some v → cls = v.cls := by
  refine ⟨match s.visit? (s.deck d).seq.visit with
    | some v => v.cls
    | none => 0, ?_, fun v found => by rw [found]⟩
  unfold enterWeighing captureRequest
  dsimp only
  rw [role]
  dsimp only
  rw [State.modCapture, State.modSeq, State.modDeck_modDeck]
  exact State.modDeck_congr rfl

/-- ENTERING ends: the weighing begins (R112). -/
theorem entering_weighs {r : Role} (h : Grounded e s t) (state : (s.deck e.deck).seq.state = .entering)
    (role : (s.deck e.deck).seq.role = some r) (notPass : r ≠ .pass) :
    passageEnds e.deck t = enterWeighing e.deck t := by
  obtain ⟨state', role', -⟩ := h.seq
  unfold passageEnds
  dsimp only
  rw [state', state]
  dsimp only
  rw [if_neg]
  rw [role', role]
  simpa using notPass

/-- ENTERING ends for a PASS: the vehicle departs (R110). -/
theorem entering_passes (h : Grounded e s t) (state : (s.deck e.deck).seq.state = .entering)
    (role : (s.deck e.deck).seq.role = some .pass) :
    passageEnds e.deck t = enterDeparting e.deck t := by
  obtain ⟨state', role', -⟩ := h.seq
  unfold passageEnds
  dsimp only
  rw [state', state]
  dsimp only
  rw [if_pos]
  rw [role', role]

/-- The passage end's barrier, DOWN with the other one DOWN, is driven up (R65, R109). -/
theorem enterPassage_driver {st : SeqState} {pe : EndId} (down : (s.driver pe).state = .down)
    (other : (s.driver pe.other).state = .down) :
    (enterPassage d st pe s).driver pe =
      Driver.drivenUp { s.driver pe with pending := .none } (s.station pe).lines := by
  unfold enterPassage raiseRequest
  dsimp only
  generalize moved : (s.modSeq d fun q => { q with
      state := st, passage := some pe, passageMark := s.safetyOcc pe, lowerRequested := false
      tailgateMark := false
      tailgate := if (s.safetyOcc pe && st.tailgated) = true
        then .running (s.deck d).settings.tailgateTime else .stopped
      weighTimer := .stopped, take := .stopped }) = w
  have driver (x : EndId) : w.driver x = s.driver x := by rw [← moved]; rfl
  have lines : (w.station pe).lines = (s.station pe).lines := by rw [← moved]; rfl
  rw [if_pos, raiseExecuted_down (.inl (by rwa [driver])), drivenUp_driver, modDriver_driver,
    modDriver_lines, driver, lines]
  unfold State.mayRaise
  rw [Bool.and_eq_true, barrierDown_iff, driver, driver, other, down]
  decide

/-- What an offer makes of the report queue turns on the queue and the clock alone. -/
theorem offer_reports_congr (k : ReportKind) (x : Subject) (ps : List String) (reports : t.reports = s.reports)
    (clock : t.clock = s.clock) : (offer k x ps t).reports = (offer k x ps s).reports := by
  unfold offer State.modReports
  rw [reports, clock]
  split
  · rfl
  · exact reports

/-- A return to IDLE of an end without an open visit (R94). -/
theorem endIdle_unvisited (h : (s.machine e).visit = none) : endIdle e s = s.modMachine e EndMachine.cleared := by
  unfold endIdle
  rw [h]
  rfl

/-- A transaction's end with the approach loop clear (R119, R120). -/
theorem endTransaction_eq {ae : EndId} (approach : (s.deck d).seq.approach = some ae)
    (loop : (s.station ae).lines.approach = false) (unvisited : (s.machine ae).visit = none) (word : String) :
    endTransaction d word s =
      ((offer .departed (.atEnd ae.other) [dash roleWord (s.deck d).seq.role, nat (s.deck d).seq.visit, word]
        (releaseHolder d (s.deck d).seq.visit s)).modMachine ae EndMachine.cleared).modSeq d Sequencer.toIdle := by
  unfold endTransaction
  dsimp only
  rw [approach, departure_of_approach approach]
  dsimp only
  rw [endIdle_unvisited (by rw [offer_machine]; exact unvisited), wakeTest_stays]
  rintro ⟨-, -, occ⟩
  refine Bool.false_ne_true (Eq.trans ?_ occ)
  rw [(modMachine_endOnly ae _ _).lines, offer_station]
  exact loop.symm

theorem endTransaction_spec {ae : EndId} (approach : (s.deck d).seq.approach = some ae)
    (loop : (s.station ae).lines.approach = false) (unvisited : (s.machine ae).visit = none) (word : String) :
    let q := (s.deck d).seq
    let t := endTransaction d word s
    t.reports = (offer .departed (.atEnd ae.other) [dash roleWord q.role, nat q.visit, word] s).reports
      ∧ (t.deck d).seq = q.toIdle ∧ t.machine ae = (s.machine ae).cleared
      ∧ t.visits = (releaseHolder d q.visit s).visits := by
  dsimp only
  rw [endTransaction_eq approach loop unvisited]
  refine ⟨?_, ?_, ?_, ?_⟩
  · exact offer_reports_congr _ _ _ rfl rfl
  · rw [State.modSeq_deck, (modMachine_endOnly ae _ _).deck, offer_deck]
    rfl
  · refine (modMachine_machine ae _ _).trans ?_
    rw [offer_machine]
    rfl
  · exact offer_visits (releaseHolder d _ s) _ _ _

theorem departed_gone {x : Visit} {n : Nat} (h : x ∈ (releaseHolder d n (s.removeVisit n)).visits.table) :
    x.number ≠ n := by
  obtain ⟨v, left, rfl⟩ := List.mem_map.mp (show x ∈ (s.removeVisit n).visits.table.map _ from h)
  obtain ⟨-, other⟩ := List.mem_filter.mp (show v ∈ s.visits.table.filter _ from left)
  have : v.number ≠ n := by simpa using other
  split
  · dsimp only
    split <;> exact this
  · exact this

/-- DEPARTING and EJECTING end: the record over which the transaction is closed (R119, R120). -/
theorem passageEnds_leaves {r : Role} {word : String} (role : (s.deck d).seq.role = some r)
    (h : (s.deck d).seq.state = .departing ∧ word = "THROUGH" ∨ (s.deck d).seq.state = .ejecting ∧ word = "EJECTED") :
    ∃ v, passageEnds d s = endTransaction d word { s with visits := v }
      ∧ ((s.deck d).seq.state = .departing → r = .pass → v = (s.removeVisit (s.deck d).seq.visit).visits) := by
  unfold passageEnds
  dsimp only
  rcases h with ⟨state, rfl⟩ | ⟨state, rfl⟩ <;> rw [state, role] <;> dsimp only
  · by_cases pass : r = .pass
    · exact ⟨_, by rw [if_pos (congrArg some pass)]; rfl, fun _ _ => rfl⟩
    · exact ⟨s.visits, by rw [if_neg (by simpa using pass)], fun _ yes => absurd yes pass⟩
  · exact ⟨s.visits, rfl, fun no => absurd no (by decide)⟩

theorem frame_modDeck (h : t = { s with decks := t.decks, ends := t.ends }) (f : DeckUnit → DeckUnit) :
    t.modDeck d f = { s with decks := (t.modDeck d f).decks, ends := (t.modDeck d f).ends } := by
  unfold State.modDeck
  conv_lhs => rw [h]

theorem selects_departed (h : s.reports.traffic = .all) : s.reports.selects .departed = true := by
  unfold Reports.selects
  simp only [ReportKind.group, Reports.mode, h]

/-- Settles O26: each way to DOWN leaves a grounded barrier, over which the state of the passage ends. -/
theorem transactionStatesEndAtBarrierDown : Obligations.TransactionStatesEndAtBarrierDown := by
  unfold Obligations.TransactionStatesEndAtBarrierDown
  intro e s d u q b l byTimer byFeedback atOnce i way
  have landing (ends : q.passageEnd = some e) :
      ∃ t, Grounded e s t ∧ exec i s = .next (passageEnds d t) := by
    rcases way with ⟨rfl, running, state, mode, asked⟩ | ⟨rfl, state, mode, up, asked⟩
      | ⟨rfl, up, mode, down, notUp, clear, unasked, mark, empty⟩
    · exact ends_by_timer ends running state mode asked
    · exact ends_by_feedback ends state mode up asked
    · exact ends_at_once ends up mode down notUp ((passageDone_iff ends).mpr ⟨unasked, mark, clear, empty⟩)
  refine ⟨fun r state approach role notPass => ?_, fun state approach role => ?_,
    fun ae r state role unvisited loop => ?_⟩
  · obtain ⟨t, grounded, ran⟩ := landing ((passageEnd_iff q e).mpr (.inl ⟨.inl state, approach⟩))
    obtain ⟨-, role', -⟩ := grounded.seq
    obtain ⟨cls, weighs, visit⟩ := enterWeighing_spec (s := t) (d := d) (role'.trans role)
    obtain ⟨p, c, deck⟩ := grounded.deck
    have frame := grounded.frame
    refine ⟨enterWeighing d t, by rw [ran, entering_weighs grounded state role notPass], ?_⟩
    rw [weighs, State.modDeck_deck, deck]
    refine ⟨grounded.down, rfl, rfl, rfl, rfl, rfl, rfl, rfl, rfl, fun v found => ?_, ?_⟩
    · have cls_eq : cls = v.cls := visit v (by rw [deck, frame]; exact found)
      subst cls_eq
      refine ⟨rfl, ?_⟩
      rw [frame]
      rfl
    · exact frame_modDeck frame _
  · obtain ⟨t, grounded, ran⟩ := landing ((passageEnd_iff q e).mpr (.inl ⟨.inl state, approach⟩))
    obtain ⟨-, -, approach', -⟩ := grounded.seq
    have departs := enterDeparting_eq t d e (approach'.trans approach)
    refine ⟨enterDeparting d t, by rw [ran, entering_passes grounded state role], ?_⟩
    rw [departs, enterPassage_deck]
    refine ⟨rfl, rfl, fun down => ?_⟩
    have station := grounded.others e.other (other_ne e)
    have driver : t.driver e.other = s.driver e.other := congrArg Station.driver station
    rw [enterPassage_driver (by rw [driver, down]) (by rw [other_other]; exact grounded.down), driver, station]
  · have ends : q.passageEnd = some e := by
      refine (passageEnd_iff q e).mpr ?_
      rcases state with ⟨state, approach, rfl⟩ | ⟨state, approach, rfl⟩
      · exact .inr ⟨state, approach⟩
      · exact .inl ⟨.inr state, approach⟩
    have approach : q.approach = some ae := by
      rcases state with ⟨-, approach, -⟩ | ⟨-, approach, -⟩ <;> exact approach
    obtain ⟨t, grounded, ran⟩ := landing ends
    obtain ⟨state', role', approach', visit', -⟩ := grounded.seq
    have words : (t.deck d).seq.state = .departing ∧ (if q.state = .departing then "THROUGH" else "EJECTED") = "THROUGH"
        ∨ (t.deck d).seq.state = .ejecting
          ∧ (if q.state = .departing then "THROUGH" else "EJECTED") = "EJECTED" := by
      rcases state with ⟨state, -⟩ | ⟨state, -⟩
      · exact .inl ⟨state'.trans state, if_pos state⟩
      · exact .inr ⟨state'.trans state, if_neg (by rw [state]; decide)⟩
    obtain ⟨v, left, removed⟩ := passageEnds_leaves (role'.trans role) words
    obtain ⟨reports, seq, machine, visits⟩ := endTransaction_spec (s := { t with visits := v }) (d := d)
      (approach'.trans approach) ((grounded.approach ae).trans loop)
      ((congrArg EndMachine.visit (grounded.machine ae)).trans unvisited)
      (if q.state = .departing then "THROUGH" else "EJECTED")
    refine ⟨_, ran, ?_⟩
    rw [left, seq, machine]
    refine ⟨rfl, rfl, rfl, rfl, rfl, rfl, fun mode room => ?_, fun x mem number pass => ?_⟩
    · have same : t.reports = s.reports := by rw [grounded.frame]
      obtain ⟨p, placed, kind, subject, params⟩ := offer_placed (s := { t with visits := v }) .departed
        (.atEnd ae.other) [dash roleWord (t.deck d).seq.role, nat (t.deck d).seq.visit,
          if q.state = .departing then "THROUGH" else "EJECTED"]
        (selects_departed (by rw [same]; exact mode)) (by rw [same]; exact room)
      refine ⟨p, ?_, kind, subject, ?_⟩
      · rw [reports, ← same]
        exact placed
      · rw [params, role', visit']
        rw [show (s.deck d).seq.role = some r from role]
        rfl
    · by_contra notEjecting
      have departing : q.state = .departing := by
        rcases state with ⟨state, -⟩ | ⟨state, -⟩
        · exact state
        · exact absurd state notEjecting
      rw [visits, removed (state'.trans departing) pass] at mem
      exact departed_gone mem (number.trans visit'.symm)

end Sys2Proof.Machine
end

section
/-! PROOFS. Chapter 6, the arbiter: when it offers the deck, whom it chooses, and what a grant taken or
declined leaves (R95, R104 to R107). -/

namespace Sys2Proof.Machine

-- One declaration after another: at once they ask for more threads than the check's limits allow.
set_option Elab.async false

variable {s t u : State} {d : Deck} {e : EndId}

/-! ### Service and eligibility (R104, R105) -/

theorem cellCause_iff : s.cellCause d = true ↔ ∃ ch : Chan, (s.faults.get (.cell d ch)).state ≠ .clear := by
  rw [Chan.exists_iff]
  simp only [State.cellCause, PerChan.toList, List.any_cons, List.any_nil, Bool.or_false, Bool.or_eq_true,
    raised_iff]
  rfl

theorem journalCause_iff : s.journalCause = true ↔ s.journal.fault = true
    ∨ (∀ p ∈ s.journal.pages, p.state ≠ .current) ∨ 4294967295 < s.journal.nextSeq := by
  simp only [State.journalCause, Journal.full, Journal.hasCurrent, Journal.spent, Bool.or_eq_true,
    Bool.not_eq_true', List.any_eq_false, beq_iff_eq]
  exact or_congr_right (or_congr_right decide_eq_true_iff)

theorem calibPending_some : s.metro.calibPending = true ↔ s.metro.inProgress ≠ none ∨ s.metro.waiting ≠ none := by
  simp [Metro.calibPending, Option.isSome_iff_ne_none]

/-- R104's five causes. -/
theorem oos_iff : s.oos d = true ↔
    s.metro.switchOn = true ∨ s.metro.inProgress ≠ none ∨ s.metro.waiting ≠ none
      ∨ (∃ ch : Chan, (s.faults.get (.cell d ch)).state ≠ .clear)
      ∨ s.journal.fault = true ∨ (∀ p ∈ s.journal.pages, p.state ≠ .current)
      ∨ 4294967295 < s.journal.nextSeq
      ∨ 10000 * (s.deck d).params.interval < (s.deck d).params.max := by
  have inconsistent : (!(s.deck d).params.consistent) = true ↔
      10000 * (s.deck d).params.interval < (s.deck d).params.max := by
    simp [Params.consistent]
  unfold State.oos
  rw [Bool.or_eq_true, Bool.or_eq_true, Bool.or_eq_true, Bool.or_eq_true, calibPending_some, cellCause_iff,
    journalCause_iff, inconsistent]
  simp only [or_assoc]

theorem tagVisit_iff {v : Visit} : s.tagVisit e = some v ↔
    ∃ g, (s.machine e).tag = some g ∧ s.visitOf? g = some v := by
  unfold State.tagVisit
  cases (s.machine e).tag <;> simp

theorem eligible_iff : s.eligible e = true ↔ (s.machine e).state = .ready ∧
    (s.oos e.deck = false ∨ ((s.machine e).movement = some .outbound
      ∧ ∃ g w, (s.machine e).tag = some g ∧ s.visitOf? g = some w ∧ w.state = .settled)) := by
  have settled : (match s.tagVisit e with
      | some v => v.state == .settled
      | none => false) = true ↔
      ∃ g w, (s.machine e).tag = some g ∧ s.visitOf? g = some w ∧ w.state = .settled := by
    constructor
    · intro h
      split at h
      next v found =>
        obtain ⟨g, tag, visit⟩ := tagVisit_iff.mp found
        exact ⟨g, v, tag, visit, by simpa using h⟩
      next => exact absurd h (by simp)
    · rintro ⟨g, w, tag, visit, state⟩
      rw [tagVisit_iff.mpr ⟨g, tag, visit⟩]
      simpa using state
  unfold State.eligible
  dsimp only
  rw [Bool.and_eq_true, Bool.or_eq_true, Bool.and_eq_true, Bool.not_eq_true', beq_iff_eq, beq_iff_eq]
  exact and_congr_right' (or_congr_right (and_congr_right' settled))

/-! ### The choice (R105, R106) -/

theorem mayOffer_iff : s.mayOffer d = true ↔
    s.part.run = true ∧ (s.deck d).seq.state = .idle ∧ (s.deck d).settings.mode ≠ .closed
      ∧ (s.deck d).settings.closePending = false
      ∧ (∃ p, (s.deck d).wcu.latest = some p ∧ p.empty = true)
      ∧ (s.driver (d.endAt .one)).state = .down ∧ (s.driver (d.endAt .two)).state = .down
      ∧ (s.faults.bar.get (d.endAt .one)).state = .clear
      ∧ (s.faults.bar.get (d.endAt .two)).state = .clear := by
  have clear (x : EndId) : (!(s.faults.get (.bar x)).raised) = true ↔ (s.faults.bar.get x).state = .clear := by
    rw [Bool.not_eq_true', ← Bool.not_eq_true, raised_iff, not_not]
    rfl
  unfold State.mayOffer
  dsimp only
  simp only [Bool.and_eq_true, beq_iff_eq, bne_iff_ne, Bool.not_eq_true', readsEmpty_iff, bothDown_iff,
    ← clear, and_assoc]

theorem exec_arbiter_closed (h : ¬ s.mayOffer d = true) : exec (.arbiterOffer d) s = .next s := if_neg h

theorem exec_arbiter_none (h : s.chosen d = none) : exec (.arbiterOffer d) s = .next s := by
  change execArbiterOffer d s = _
  unfold execArbiterOffer
  rw [h]
  split <;> rfl

theorem exec_arbiter_some (may : s.mayOffer d = true) (h : s.chosen d = some e) :
    exec (.arbiterOffer d) s = .next (offerEnd d e s) := by
  change execArbiterOffer d s = _
  unfold execArbiterOffer
  rw [if_pos may, h]

theorem chosen_mem (h : s.chosen d = some e) : e = d.endAt .one ∨ e = d.endAt .two := by
  unfold State.chosen at h
  dsimp only at h
  split at h
  · exact absurd h (by simp)
  · exact .inl (Option.some.inj h).symm
  · exact .inr (Option.some.inj h).symm
  · split at h <;> split at h <;> first
    | exact .inl (Option.some.inj h).symm
    | exact .inr (Option.some.inj h).symm

theorem chosen_both (one : s.eligible (d.endAt .one) = true) (two : s.eligible (d.endAt .two) = true) :
    s.chosen d = if (s.machine (d.endAt .one)).movement =
        some (if (s.deck d).streak < (s.deck d).settings.streakLimit then .outbound else .inbound)
      then some (d.endAt .one) else some (d.endAt .two) := by
  unfold State.chosen
  dsimp only
  rw [one, two]

/-! ### A grant taken (R107) -/

theorem condArises_congr (f : FaultSource) (faults : t.faults = s.faults) (reports : t.reports = s.reports)
    (clock : t.clock = s.clock) :
    (condArises f t).faults = (condArises f s).faults ∧ (condArises f t).reports = (condArises f s).reports := by
  unfold condArises
  dsimp only
  rw [faults]
  cases (s.faults.get f).state with
  | clear =>
    dsimp only
    rw [offer_faults, offer_faults]
    refine ⟨?_, offer_reports_congr _ _ _ reports clock⟩
    unfold State.setFault
    rw [faults, clock]
  | active => exact ⟨by simp only [State.setFault, faults], reports⟩
  | latched => exact ⟨by simp only [State.setFault, faults], reports⟩

/-- A drive up turns on the driver, its feedback, the fault table, the reports and the clock alone. -/
theorem drivenUp_reads (driver : t.driver e = s.driver e) (lines : (t.station e).lines = (s.station e).lines)
    (faults : t.faults = s.faults) (reports : t.reports = s.reports) (clock : t.clock = s.clock) :
    (drivenUp e t).driver e = (drivenUp e s).driver e ∧ (drivenUp e t).faults = (drivenUp e s).faults
      ∧ (drivenUp e t).reports = (drivenUp e s).reports := by
  refine ⟨by rw [drivenUp_driver, drivenUp_driver, driver, lines], ?_⟩
  unfold drivenUp putDriver
  dsimp only
  rw [driver, lines]
  split
  · exact condArises_congr (.bar e) (s := s.modDriver e _) (t := t.modDriver e _) faults reports clock
  · exact ⟨faults, reports⟩

/-- The state with a grant recorded, before the barrier is driven up (R95, R107). -/
def grantRecorded (d : Deck) (e : EndId) (mv : Movement) (v : Visit) (r : Role) (s : State) : State :=
  ((s.modVisit v.number fun v =>
    { v with holder := .deck d, state := if r = .second then .leaving else v.state }).modMachine e fun m =>
    { m with state := .active, reason := .none, tag := none, visit := none }).modDeck d fun u =>
    { u with
      streak := nextStreak mv (s.machine e.other) u.streak
      seq := { u.seq.toIdle with role := some r, approach := some e, tag := v.tag, visit := v.number } }

theorem takeGrant_eq (d : Deck) (e : EndId) (mv : Movement) (v : Visit) (r : Role) (s : State) :
    takeGrant d e mv v r s = enterPassage d .entering e (grantRecorded d e mv v r s) := by
  unfold takeGrant grantRecorded
  dsimp only
  rfl

theorem grantRecorded_ends (mv : Movement) (v : Visit) (r : Role) :
    (grantRecorded d e mv v r s).ends = (s.modMachine e fun m =>
      { m with state := .active, reason := .none, tag := none, visit := none }).ends := rfl

theorem grantRecorded_driver (mv : Movement) (v : Visit) (r : Role) (x : EndId) :
    (grantRecorded d e mv v r s).driver x = s.driver x :=
  (congrArg (fun ends => (ends.get x).driver) (grantRecorded_ends mv v r)).trans
    ((modMachine_endOnly e _ s).driver x)

theorem grantRecorded_lines (mv : Movement) (v : Visit) (r : Role) (x : EndId) :
    ((grantRecorded d e mv v r s).station x).lines = (s.station x).lines :=
  (congrArg (fun ends => (ends.get x).lines) (grantRecorded_ends mv v r)).trans
    ((modMachine_endOnly e _ s).lines x)

theorem grantRecorded_station_of_ne (mv : Movement) (v : Visit) (r : Role) {x : EndId} (ne : x ≠ e) :
    (grantRecorded d e mv v r s).station x = s.station x :=
  (congrArg (fun ends => ends.get x) (grantRecorded_ends mv v r)).trans
    ((modMachine_endOnly e _ s).station_of_ne ne)

theorem grantRecorded_machine (mv : Movement) (v : Visit) (r : Role) :
    (grantRecorded d e mv v r s).machine e =
      { s.machine e with state := .active, reason := .none, tag := none, visit := none } :=
  (congrArg (fun ends => (ends.get e).machine) (grantRecorded_ends mv v r)).trans (modMachine_machine e _ s)

theorem grantRecorded_deck (mv : Movement) (v : Visit) (r : Role) :
    (grantRecorded d e mv v r s).deck d = { s.deck d with
      streak := nextStreak mv (s.machine e.other) (s.deck d).streak
      seq := { (s.deck d).seq.toIdle with
        role := some r, approach := some e, tag := v.tag, visit := v.number } } := by
  rw [grantRecorded, State.modDeck_deck]
  rfl

/-- A raise request over two barriers DOWN is executed (R65). -/
theorem raiseRequest_down (down : (s.driver e).state = .down) (other : (s.driver e.other).state = .down) :
    raiseRequest e s = drivenUp e (s.modDriver e fun b => { b with pending := .none }) := by
  unfold raiseRequest
  rw [if_pos, raiseExecuted_down (.inl down)]
  unfold State.mayRaise
  rw [Bool.and_eq_true, barrierDown_iff, other, down]
  decide

/-- The barrier's part of a grant taken with both barriers DOWN (R65, R107). -/
theorem enterPassage_raises {st : SeqState} (down : (s.driver e).state = .down)
    (other : (s.driver e.other).state = .down) :
    let up := drivenUp e (s.modDriver e fun b => { b with pending := .none })
    let t := enterPassage d st e s
    t.driver e = up.driver e ∧ t.faults = up.faults ∧ t.reports = up.reports := by
  dsimp only
  rw [show enterPassage d st e s = drivenUp e
    ((s.modSeq d (passageRecord st e (s.safetyOcc e) (s.deck d).settings.tailgateTime)).modDriver e fun b =>
      { b with pending := .none }) from
    raiseRequest_down (s := s.modSeq d (passageRecord st e (s.safetyOcc e) (s.deck d).settings.tailgateTime))
      down other]
  exact drivenUp_reads (by rw [modDriver_driver, modDriver_driver]; rfl) (by rw [modDriver_lines, modDriver_lines]; rfl)
    rfl rfl rfl

/-- A grant taken with both barriers DOWN (R95, R107). -/
theorem takeGrant_spec (mv : Movement) (v : Visit) (r : Role) (down : (s.driver e).state = .down)
    (other : (s.driver e.other).state = .down) :
    let t := takeGrant d e mv v r s
    (t.deck d).seq.state = .entering ∧ (t.deck d).seq.role = some r
      ∧ (t.deck d).seq.approach = some e ∧ (t.deck d).seq.tag = v.tag
      ∧ (t.deck d).seq.visit = v.number ∧ (t.deck d).seq.passage = some e
      ∧ (t.deck d).seq.passageMark = s.safetyOcc e
      ∧ (t.deck d).seq.lowerRequested = false
      ∧ (t.machine e).state = .active ∧ (t.machine e).tag = none
      ∧ (t.machine e).visit = none
      ∧ (let up := drivenUp e (s.modDriver e fun b => { b with pending := .none })
         t.driver e = up.driver e ∧ t.faults = up.faults ∧ t.reports = up.reports)
      ∧ (∀ e', e' ≠ e → t.station e' = s.station e')
      ∧ (t.station e).lines = (s.station e).lines
      ∧ t.visits.table = s.visits.table.map (fun x =>
          if x.number = v.number then
            { x with holder := .deck d, state := if r = .second then .leaving else x.state }
          else x)
      ∧ (t.deck d).streak =
          (if mv = .inbound then 0
           else if (s.machine e.other).state = .ready
              ∧ (s.machine e.other).movement = some .inbound then min 8 ((s.deck d).streak + 1)
           else (s.deck d).streak)
      ∧ (∀ d', d' ≠ d → t.deck d' = s.deck d')
      ∧ t = { s with
          decks := t.decks, ends := t.ends, visits := t.visits, faults := t.faults
          reports := t.reports } := by
  dsimp only
  rw [takeGrant_eq]
  have only := enterPassage_driverOnly (grantRecorded d e mv v r s) d e .entering
  refine ⟨?_, ?_, ?_, ?_, ?_, ?_, ?_, ?_, ?_, ?_, ?_, ?_, fun x ne => ?_, ?_, ?_, ?_, fun d' ne => ?_, ?_⟩
  iterate 6 (rw [enterPassage_deck, grantRecorded_deck]; rfl)
  · rw [enterPassage_deck]
    dsimp only [passageRecord]
    rw [State.safetyOcc, grantRecorded_lines]
    rfl
  · rw [enterPassage_deck]
    rfl
  iterate 3 (rw [enterPassage_machine, grantRecorded_machine])
  · obtain ⟨driver, faults, reports⟩ := enterPassage_raises (s := grantRecorded d e mv v r s) (d := d) (e := e)
      (st := .entering) (by rwa [grantRecorded_driver]) (by rwa [grantRecorded_driver])
    obtain ⟨driver', faults', reports'⟩ := drivenUp_reads (e := e)
      (s := s.modDriver e fun b => { b with pending := .none })
      (t := (grantRecorded d e mv v r s).modDriver e fun b => { b with pending := .none })
      (by rw [modDriver_driver, modDriver_driver, grantRecorded_driver])
      (by rw [modDriver_lines, modDriver_lines, grantRecorded_lines]) rfl rfl rfl
    exact ⟨driver.trans driver', faults.trans faults', reports.trans reports'⟩
  · exact (only.station_of_ne ne).trans (grantRecorded_station_of_ne mv v r ne)
  · exact (only.lines e).trans (grantRecorded_lines mv v r e)
  · rw [enterPassage_visits]
    simp only [grantRecorded, State.modVisit, beq_iff_eq]
    rfl
  · rw [enterPassage_deck, grantRecorded_deck]
    cases mv with
    | inbound => rfl
    | outbound => rfl
  · rw [enterPassage_deck_of_ne _ _ _ _ ne]
    exact State.modDeck_deck_of_ne _ _ ne
  · obtain ⟨w, x, f, rep, h⟩ := enterPassage_frame (grantRecorded d e mv v r s) d e .entering
    rw [h]
    rfl

/-- Settles O24: R105's conditions and R106's choice, then the chosen end's answer by its movement. -/
theorem arbiterOffersAndGrants : Obligations.ArbiterOffersAndGrants := by
  unfold Obligations.ArbiterOffersAndGrants
  intro d s u e1 e2 fits i
  refine ⟨fun no => exec_arbiter_closed (mt mayOffer_iff.mp no), fun one two => exec_arbiter_none ?_,
    fun one two => ?_, fun one two => ?_, fun one two out inb => ?_, fun one two inb out => ?_,
    fun e => eligible_iff, oos_iff, fun e v r offers chosen => ?_⟩
  · unfold State.chosen
    dsimp only
    rw [show s.eligible (d.endAt .one) = false from one, show s.eligible (d.endAt .two) = false from two]
  · unfold State.chosen
    dsimp only
    rw [show s.eligible (d.endAt .one) = true from one, show s.eligible (d.endAt .two) = false from two]
  · unfold State.chosen
    dsimp only
    rw [show s.eligible (d.endAt .one) = false from one, show s.eligible (d.endAt .two) = true from two]
  · rw [chosen_both one two, show (s.machine (d.endAt .one)).movement = some .outbound from out]
    by_cases h : (s.deck d).streak < (s.deck d).settings.streakLimit <;> simp [h, u, e1, e2]
  · rw [chosen_both one two, show (s.machine (d.endAt .one)).movement = some .inbound from inb]
    by_cases h : (s.deck d).streak < (s.deck d).settings.streakLimit <;> simp [h, u, e1, e2]
  · intro granted
    have ran : exec i s = .next (offerEnd d e s) := exec_arbiter_some (mayOffer_iff.mpr offers) chosen
    obtain ⟨-, -, -, -, -, down1, down2, -⟩ := offers
    have downs : (s.driver e).state = .down ∧ (s.driver e.other).state = .down := by
      rcases chosen_mem chosen with rfl | rfl
      · refine ⟨down1, ?_⟩
        rw [show (d.endAt .one).other = d.endAt .two by cases d <;> rfl]
        exact down2
      · refine ⟨down2, ?_⟩
        rw [show (d.endAt .two).other = d.endAt .one by cases d <;> rfl]
        exact down1
    have takes (mv : Movement) (took : offerEnd d e s = takeGrant d e mv v r s) : granted mv :=
      ⟨takeGrant d e mv v r s, by rw [ran, took], takeGrant_spec mv v r downs.1 downs.2⟩
    refine ⟨fun n inb free visit found role => takes .inbound ?_,
      fun g out tag found role => takes .outbound ?_, fun h inb held live => ?_, fun g out tag live => ?_⟩
    · unfold offerEnd
      rw [inb]
      dsimp only
      rw [free]
      dsimp only
      rw [visit, Option.bind_some, found]
      dsimp only
      rw [role]
      cases v.kind <;> rfl
    · unfold offerEnd
      rw [out]
      dsimp only
      rw [tagVisit_iff.mpr ⟨g, tag, found⟩]
      rcases role with ⟨state, rfl⟩ | ⟨state, rfl⟩ <;> simp only [state]
    · rw [ran]
      unfold offerEnd
      rw [inb]
      dsimp only
      rw [held]
      exact congrArg _ (holdEnd_live h live)
    · intro declined
      have declines (why : Reason) (refers : offerEnd d e s = refer e why s) : declined why := by
        refine ⟨fun link => ?_, fun link unvisited => ?_⟩
        · rw [ran, refers, refer_attended why link live, tag]
          rfl
        · rw [ran, refers, refer_detached why link live, unvisited, tag]
          refine congrArg _ (congrArg _ (modMachine_congr ?_))
          simp only [EndMachine.refused, removeVisit?_machine, unvisited]
      refine ⟨fun gone => declines .noVisit ?_, fun w found state => declines .visitBusy ?_⟩
      · unfold offerEnd State.tagVisit
        rw [out, tag]
        dsimp only
        rw [gone]
      · unfold offerEnd
        rw [out]
        dsimp only
        rw [tagVisit_iff.mpr ⟨g, tag, found⟩]
        rcases state with state | state <;> simp only [state]

end Sys2Proof.Machine
end

section
/-! PROOFS. DECK x RESET (R201, log entry 14), stage by stage: the transaction and its visit (R123), the
emptied fault entries (R211), the drivers (R81), the printer (R183) and the ends (R100). -/

namespace Sys2Proof.Machine

-- One declaration after another: at once they ask for more threads than the check's limits allow.
set_option Elab.async false

variable {s t u : State} {d : Deck} {e : EndId}

/-! ### The transaction and its visit (R123, R127) -/

/-- The settlement is already requested (R123). -/
def Sequencer.settles (q : Sequencer) : Bool := q.state == .settling && q.reservation

/-- The transaction stands before its settlement's request (R123). -/
def Sequencer.early (q : Sequencer) : Bool :=
  (q.state == .entering || q.state == .weighing || q.state == .committing || q.state == .settling) && !q.settles

/-- The record after the reset, with the place of an orphaned settlement kept (R123). -/
def Sequencer.resetTo (q : Sequencer) : Sequencer :=
  { q.toIdle with orphanSettle := q.orphanSettle || q.settles }

/-- A visit that the reset of its transaction removes (R123). -/
def Sequencer.drops (q : Sequencer) (v : Visit) : Bool :=
  q.early && (q.role == some .first || q.role == some .onePass) && v.number == q.visit

/-- A visit as the reset of its transaction leaves it (R123, R127). -/
def Sequencer.leaves (d : Deck) (q : Sequencer) (v : Visit) : Visit :=
  if v.number ≠ q.visit ∨ q.state = .idle ∨ q.settles = true then v
  else if q.early = true ∧ q.role = some .second then { v with state := .onSite, holder := .none }
  else if v.holder = .deck d then { v with holder := .none }
  else v

theorem leaves_number (d : Deck) (q : Sequencer) (v : Visit) : (q.leaves d v).number = v.number := by
  unfold Sequencer.leaves
  split
  · rfl
  · split
    · rfl
    · split <;> rfl

/-- A transaction's visits once the reset has treated them (R123). -/
def State.afterReset (s : State) (d : Deck) : List Visit :=
  (s.visits.table.filter fun v => !(s.deck d).seq.drops v).map ((s.deck d).seq.leaves d)

theorem filter_true {α : Type} {p : α → Bool} {l : List α} (h : ∀ x, p x = true) : l.filter p = l :=
  List.filter_eq_self.mpr fun x _ => h x

theorem releaseHolder_table (d : Deck) (n : Nat) (s : State) : (releaseHolder d n s).visits.table =
    s.visits.table.map fun x =>
      if x.number = n then (if x.holder = .deck d then { x with holder := .none } else x) else x := by
  unfold releaseHolder State.modVisit
  simp only [beq_iff_eq]
  rfl

/-- The visit of a transaction at rest, or with its settlement requested, is left alone. -/
theorem afterReset_kept (h : (s.deck d).seq.state = .idle ∨ (s.deck d).seq.settles = true) :
    s.afterReset d = s.visits.table := by
  have late : (s.deck d).seq.early = false := by
    unfold Sequencer.early
    rcases h with h | h <;> simp [h]
  have dropped : ∀ v, (s.deck d).seq.drops v = false := by simp [Sequencer.drops, late]
  have left : ∀ v, (s.deck d).seq.leaves d v = v := fun v => if_pos (.inr h)
  rw [State.afterReset, filter_true fun v => by rw [dropped]; rfl, List.map_congr_left fun v _ => left v,
    List.map_id']

section Released
variable (busy : (s.deck d).seq.state ≠ .idle) (open_ : (s.deck d).seq.settles = false)
include busy open_

theorem leaves_eq (v : Visit) : (s.deck d).seq.leaves d v =
    if v.number = (s.deck d).seq.visit then
      (if (s.deck d).seq.early = true ∧ (s.deck d).seq.role = some .second then
        { v with state := .onSite, holder := .none }
      else if v.holder = .deck d then { v with holder := .none } else v)
    else v := by
  unfold Sequencer.leaves
  by_cases same : v.number = (s.deck d).seq.visit <;> simp [same, busy, open_]

/-- The visit of a transaction past its settlement, or of a PASS, is let go of (R127). -/
theorem afterReset_released (h : (s.deck d).seq.early = false
    ∨ (s.deck d).seq.role = some .pass ∨ (s.deck d).seq.role = none) :
    s.afterReset d = (releaseHolder d (s.deck d).seq.visit s).visits.table := by
  have dropped : ∀ v, (s.deck d).seq.drops v = false := fun v => by
    unfold Sequencer.drops
    rcases h with h | h | h <;> simp [h]
  have other : ¬ ((s.deck d).seq.early = true ∧ (s.deck d).seq.role = some .second) := by
    rcases h with h | h | h <;> simp [h]
  rw [State.afterReset, filter_true fun v => by rw [dropped]; rfl, releaseHolder_table]
  refine List.map_congr_left fun v _ => ?_
  rw [leaves_eq busy open_, if_neg other]

/-- The visit of a transaction before its settlement is turned back (R113, R123). -/
theorem afterReset_turned (early : (s.deck d).seq.early = true) : s.afterReset d =
    (releaseHolder d (s.deck d).seq.visit (turnBackVisit (s.deck d).seq s)).visits.table := by
  by_cases removes : (s.deck d).seq.role = some .first ∨ (s.deck d).seq.role = some .onePass
  · have notSecond : (s.deck d).seq.role ≠ some .second := by rcases removes with h | h <;> simp [h]
    have kept : ∀ v, (!(s.deck d).seq.drops v) = decide (v.number ≠ (s.deck d).seq.visit) := fun v => by
      unfold Sequencer.drops
      rcases removes with h | h <;> simp [early, h, bne, Bool.beq_eq_decide_eq]
    rw [State.afterReset, releaseHolder_table, turnBackVisit_removes removes, List.filter_congr fun v _ => kept v]
    refine List.map_congr_left fun v _ => ?_
    have other : ¬ ((s.deck d).seq.early = true ∧ (s.deck d).seq.role = some .second) := fun h => notSecond h.2
    rw [leaves_eq busy open_, if_neg other]
  · rcases role : (s.deck d).seq.role with _ | r
    · rw [afterReset_released busy open_ (.inr (.inr role)), turnBackVisit, role]
    · cases r with
      | first => exact absurd (.inl role) removes
      | onePass => exact absurd (.inr role) removes
      | pass => rw [afterReset_released busy open_ (.inr (.inl role)), turnBackVisit_pass role]
      | second =>
        have kept : ∀ v, (!(s.deck d).seq.drops v) = true := fun v => by simp [Sequencer.drops, role]
        rw [State.afterReset, filter_true kept, releaseHolder_table, turnBackVisit_reverts role, List.map_map]
        refine List.map_congr_left fun v _ => ?_
        have back : (s.deck d).seq.early = true ∧ (s.deck d).seq.role = some .second := ⟨early, role⟩
        rw [leaves_eq busy open_, if_pos back, Function.comp_apply]
        by_cases same : v.number = (s.deck d).seq.visit <;> simp [same]

end Released

theorem releaseHolder_frame (d : Deck) (n : Nat) (s : State) :
    releaseHolder d n s = { s with visits := { s.visits with table := (releaseHolder d n s).visits.table } } := rfl

theorem turned_frame (d : Deck) (q : Sequencer) (n : Nat) (s : State) :
    releaseHolder d n (turnBackVisit q s)
      = { s with visits := { s.visits with table := (releaseHolder d n (turnBackVisit q s)).visits.table } } := by
  unfold turnBackVisit
  split <;> rfl

/-- The transaction's reset: the deck's record and the visits, and nothing else (R123). -/
theorem resetTransaction_eq (d : Deck) (s : State) : resetTransaction d s =
    { s with
      decks := s.decks.set d { s.deck d with seq := (s.deck d).seq.resetTo }
      visits := { s.visits with table := s.afterReset d } } := by
  have idle (w : State) (table : w = { s with visits := { s.visits with table := s.afterReset d } })
      (free : (s.deck d).seq.settles = false) : w.modSeq d Sequencer.toIdle =
      { s with
        decks := s.decks.set d { s.deck d with seq := (s.deck d).seq.resetTo }
        visits := { s.visits with table := s.afterReset d } } := by
    have record : (s.deck d).seq.resetTo = (s.deck d).seq.toIdle := by
      rw [Sequencer.resetTo, free, Bool.or_false]
      rfl
    rw [table, record]
    rfl
  unfold resetTransaction
  dsimp only
  have settles_of (h : (s.deck d).seq.state ≠ .settling) : (s.deck d).seq.settles = false := by
    simp [Sequencer.settles, h]
  split
  next state =>
    have free := settles_of (by rw [state]; decide)
    exact idle s (by rw [afterReset_kept (.inl state)]) free
  next state =>
    split
    next reserved =>
      have settles : (s.deck d).seq.settles = true := by simp [Sequencer.settles, state, reserved]
      rw [afterReset_kept (.inr settles)]
      have record : (s.deck d).seq.resetTo = { (s.deck d).seq.toIdle with orphanSettle := true } := by
        rw [Sequencer.resetTo, settles, Bool.or_true]
      rw [record]
      rfl
    next unreserved =>
      have free : (s.deck d).seq.settles = false := by simp [Sequencer.settles, unreserved]
      refine idle _ ?_ free
      rw [afterReset_turned (by rw [state]; decide) free (by simp [Sequencer.early, state, free])]
      exact turned_frame ..
  all_goals
    rename_i state
    have free := settles_of (by rw [state]; decide)
    refine idle _ ?_ free
  iterate 3
    · rw [afterReset_turned (by rw [state]; decide) free (by simp [Sequencer.early, state, free])]
      exact turned_frame ..
  all_goals
    rw [afterReset_released (by rw [state]; decide) free (.inl (by simp [Sequencer.early, state]))]
    exact releaseHolder_frame ..

/-! ### The emptied entries (R211) -/

theorem clearEntries_get (fs : List FaultSource) (s : State) (f : FaultSource) :
    (fs.foldl (fun s f => s.setFault f .clear) s).faults.get f = if f ∈ fs then .clear else s.faults.get f := by
  induction fs generalizing s with
  | nil => rfl
  | cons g fs ih =>
    rw [List.foldl_cons, ih]
    by_cases mem : f ∈ fs
    · simp [mem]
    · by_cases same : f = g
      · subst same
        simp [mem, State.setFault]
      · simp [mem, same, State.setFault, FaultTable.get_set_of_ne _ _ same]

theorem clearEntries_frame (fs : List FaultSource) (s : State) :
    ∃ x, fs.foldl (fun s f => s.setFault f .clear) s = { s with faults := x } := by
  induction fs generalizing s with
  | nil => exact ⟨s.faults, rfl⟩
  | cons g fs ih =>
    obtain ⟨x, h⟩ := ih (s.setFault g .clear)
    exact ⟨x, by rw [List.foldl_cons, h]; rfl⟩

/-- The deck whose entry a source has (R211). -/
def entryDeck : FaultSource → Option Deck
  | .cell d _ | .prn d => some d
  | .bar e | .loop e | .rdr e => some e.deck
  | .journal | .clock => none

theorem mem_deckSources (f : FaultSource) (d : Deck) : f ∈ deckSources d ↔ entryDeck f = some d := by
  cases f with
  | cell d' c => cases d <;> cases d' <;> cases c <;> decide
  | bar e => cases d <;> cases e <;> decide
  | loop e => cases d <;> cases e <;> decide
  | rdr e => cases d <;> cases e <;> decide
  | prn d' => cases d <;> cases d' <;> decide
  | journal => cases d <;> decide
  | clock => cases d <;> decide

/-- The state of the deck's own blocks, its entries emptied and the DECK_RESET report offered. -/
def resetOpened (d : Deck) (s : State) : State :=
  offer .deckReset (.deck d) [] (emptyDeckFaults d ((resetTransaction d s).modDeck d DeckUnit.reset))

theorem resetOpened_faults (d : Deck) (s : State) (f : FaultSource) :
    (resetOpened d s).faults.get f = if entryDeck f = some d then .clear else s.faults.get f := by
  rw [resetOpened, offer_faults, emptyDeckFaults, clearEntries_get, resetTransaction_eq]
  simp only [mem_deckSources]
  rfl

theorem resetOpened_frame (d : Deck) (s : State) : ∃ f r, resetOpened d s = { s with
    decks := s.decks.set d ({ s.deck d with seq := (s.deck d).seq.resetTo }).reset
    visits := { s.visits with table := s.afterReset d }, faults := f, reports := r } := by
  unfold resetOpened emptyDeckFaults
  rw [resetTransaction_eq]
  obtain ⟨f, cleared⟩ := clearEntries_frame (deckSources d) (({ s with
    decks := s.decks.set d { s.deck d with seq := (s.deck d).seq.resetTo }
    visits := { s.visits with table := s.afterReset d } } : State).modDeck d DeckUnit.reset)
  obtain ⟨r, offered⟩ := offer_frame ((deckSources d).foldl (fun s f => s.setFault f .clear) (({ s with
    decks := s.decks.set d { s.deck d with seq := (s.deck d).seq.resetTo }
    visits := { s.visits with table := s.afterReset d } } : State).modDeck d DeckUnit.reset))
    .deckReset (.deck d) []
  refine ⟨f, r, ?_⟩
  rw [offered, cleared]
  simp only [State.modDeck, PerDeck.set_set, PerDeck.get_set]

theorem resetOpened_reports (d : Deck) (s : State) :
    (resetOpened d s).reports = (offer .deckReset (.deck d) [] s).reports := by
  unfold resetOpened emptyDeckFaults
  rw [resetTransaction_eq]
  obtain ⟨f, cleared⟩ := clearEntries_frame (deckSources d) (({ s with
    decks := s.decks.set d { s.deck d with seq := (s.deck d).seq.resetTo }
    visits := { s.visits with table := s.afterReset d } } : State).modDeck d DeckUnit.reset)
  rw [cleared]
  exact offer_reports_congr _ _ _ rfl rfl

/-! ### The drivers (R81) -/

/-- A driver after DECK x RESET, by its state before (R81). -/
def Driver.afterReset (b : Driver) (l : EndReadings) (occ : Bool) : Driver :=
  if b.state = .down then { b with pending := .none }
  else if b.state = .fault then b.started l occ
  else if occ = true then
    if b.state = .lowering then Driver.drivenUp { b with pending := .lower } l else { b with pending := .lower }
  else Driver.drivenDown { b with pending := .none } l

section AfterReset
variable {b : Driver} {l : EndReadings} {occ : Bool}

theorem afterReset_down (h : b.state = .down) : b.afterReset l occ = { b with pending := .none } := if_pos h

theorem afterReset_fault (h : b.state = .fault) : b.afterReset l occ = b.started l occ :=
  (if_neg (by rw [h]; decide)).trans (if_pos h)

theorem afterReset_moving (down : b.state ≠ .down) (fault : b.state ≠ .fault) : b.afterReset l occ =
    if occ = true then
      if b.state = .lowering then Driver.drivenUp { b with pending := .lower } l else { b with pending := .lower }
    else Driver.drivenDown { b with pending := .none } l := (if_neg down).trans (if_neg fault)

theorem afterReset_clear (down : b.state ≠ .down) (fault : b.state ≠ .fault) (clear : occ = false) :
    b.afterReset l occ = Driver.drivenDown { b with pending := .none } l := by
  rw [afterReset_moving down fault, clear, if_neg Bool.false_ne_true]

theorem afterReset_upward (h : b.state = .raising ∨ b.state = .up) (occupied : occ = true) :
    b.afterReset l occ = { b with pending := .lower } := by
  have down : b.state ≠ .down := by rcases h with h | h <;> rw [h] <;> decide
  have fault : b.state ≠ .fault := by rcases h with h | h <;> rw [h] <;> decide
  have lowering : b.state ≠ .lowering := by rcases h with h | h <;> rw [h] <;> decide
  rw [afterReset_moving down fault, if_pos occupied, if_neg lowering]

theorem afterReset_lowering (h : b.state = .lowering) (occupied : occ = true) :
    b.afterReset l occ = Driver.drivenUp { b with pending := .lower } l := by
  rw [afterReset_moving (by rw [h]; decide) (by rw [h]; decide), if_pos occupied, if_pos h]

end AfterReset

theorem startDown_pending (p : PendingMove) (clear : s.safetyOcc e = false) :
    startDown e (setPending e p s)
      = putDriver e (Driver.drivenDown { s.driver e with pending := p } (s.station e).lines) s := by
  rw [setPending, startDown_eq (by rw [modDriver_safetyOcc]; exact clear), drivenDown, putDriver_modDriver,
    modDriver_driver, modDriver_lines]

theorem startUp_pending (p : PendingMove) : startUp e (setPending e p s)
    = putDriver e (Driver.drivenUp { s.driver e with pending := p } (s.station e).lines) s := by
  rw [setPending, startUp_eq, drivenUp, putDriver_modDriver, modDriver_driver, modDriver_lines]

/-- The reset of a driver puts the one description over every state (R81). -/
theorem resetDriver_eq (e : EndId) (s : State) : resetDriver e s
    = putDriver e ((s.driver e).afterReset (s.station e).lines (s.safetyOcc e)) s := by
  have pends (p : PendingMove) (h : (s.driver e).state ≠ .fault) :
      setPending e p s = putDriver e { s.driver e with pending := p } s := by
    rw [putDriver_fine e s (by exact h)]
    rfl
  unfold resetDriver
  cases state : (s.driver e).state with
  | down =>
    rw [afterReset_down state]
    exact pends _ (by rw [state]; decide)
  | fault =>
    rw [afterReset_fault state]
    exact startDriver_eq e s
  | raising | up =>
    dsimp only
    by_cases occ : s.safetyOcc e = true
    · rw [afterReset_upward (by simp [state]) occ, if_pos occ]
      exact pends _ (by rw [state]; decide)
    · have clear : s.safetyOcc e = false := by simpa using occ
      rw [afterReset_clear (by rw [state]; decide) (by rw [state]; decide) clear, if_neg occ]
      exact startDown_pending _ clear
  | lowering =>
    dsimp only
    by_cases occ : s.safetyOcc e = true
    · rw [afterReset_lowering state occ, if_pos occ]
      exact startUp_pending _
    · have clear : s.safetyOcc e = false := by simpa using occ
      rw [afterReset_clear (by rw [state]; decide) (by rw [state]; decide) clear, if_neg occ]
      exact startDown_pending _ clear

theorem started_unfaulted {b : Driver} {l : EndReadings} {occ : Bool} (mode : b.mode ≠ .confirmed) :
    (b.started l occ).state ≠ .fault := by
  unfold Driver.started
  dsimp only
  rw [if_neg fun h => mode h.1]
  split
  · rw [drivenDown_state_eq, if_pos (.inl mode)]
    decide
  · split
    · simp
    · rw [Driver.drivenUp, if_neg fun h => mode h.1]
      simp

/-- Only a CONFIRMED driver is in FAULT after the reset (R73, R81). -/
theorem afterReset_unfaulted {b : Driver} {l : EndReadings} {occ : Bool} (mode : b.mode ≠ .confirmed) :
    (b.afterReset l occ).state ≠ .fault := by
  have down : (Driver.drivenDown { b with pending := .none } l).state ≠ .fault := by
    rw [drivenDown_state_eq, if_pos (.inl mode)]
    decide
  have up : (Driver.drivenUp { b with pending := .lower } l).state ≠ .fault := by
    rw [Driver.drivenUp, if_neg fun h => mode h.1]
    simp
  by_cases isDown : b.state = .down
  · rw [afterReset_down isDown]
    simp [isDown]
  · by_cases isFault : b.state = .fault
    · rw [afterReset_fault isFault]
      exact started_unfaulted mode
    · rw [afterReset_moving isDown isFault]
      split
      · split
        · exact up
        · exact isFault
      · exact down

/-- A CLEAR entry whose condition arises (R209). -/
theorem condArises_fresh {f : FaultSource} (clear : (s.faults.get f).state = .clear) :
    (condArises f s).faults.get f = ⟨.active, false, s.clock.now, 1⟩ := by
  obtain ⟨v, r, h, -, -, -, fresh, -⟩ := condArises_spec s f
  rw [h, fresh clear]
  exact FaultTable.get_set _ _ _

theorem condArises_entry_of_ne {f g : FaultSource} (ne : g ≠ f) (s : State) :
    (condArises f s).faults.get g = s.faults.get g := by
  obtain ⟨v, r, h, -⟩ := condArises_spec s f
  rw [h]
  exact FaultTable.get_set_of_ne _ _ ne

theorem putDriver_fresh {b : Driver} (clear : s.faults.get (.bar e) = .clear) :
    (putDriver e b s).faults.get (.bar e) =
      if b.state = .fault then ⟨.active, false, s.clock.now, 1⟩ else .clear := by
  unfold putDriver
  dsimp only
  split
  · exact condArises_fresh (s := s.modDriver e fun _ => b) (congrArg FaultEntry.state clear)
  · exact clear

theorem resetDriver_fault (clear : s.faults.get (.bar e) = .clear) :
    (resetDriver e s).faults.get (.bar e) =
      if ((resetDriver e s).driver e).state = .fault then ⟨.active, false, s.clock.now, 1⟩ else .clear := by
  rw [resetDriver_eq, putDriver_driver, putDriver_fresh clear]

theorem resetDriver_driver (e : EndId) (s : State) : (resetDriver e s).driver e
    = (s.driver e).afterReset (s.station e).lines (s.safetyOcc e) := by
  rw [resetDriver_eq, putDriver_driver]

theorem reported_resetDriver (e : EndId) (s : State) : Reported s (resetDriver e s) := by
  rw [resetDriver_eq]
  exact reported_putDriver e _ s

/-! ### Both ends of the deck, end 1 first (log entry 14) -/

/-- Both drivers reset. -/
def resetDrivers (d : Deck) (s : State) : State := resetDriver (d.endAt .two) (resetDriver (d.endAt .one) s)

theorem resetDrivers_driver (within : e.deck = d) (s : State) : (resetDrivers d s).driver e
    = (s.driver e).afterReset (s.station e).lines (s.safetyOcc e) := by
  have first := resetDriver_driverOnly (d.endAt .one) s
  unfold resetDrivers
  rcases endAt_cases within with rfl | rfl
  · rw [(resetDriver_driverOnly _ _).driver_of_ne (endAt_one_ne_two d), resetDriver_driver]
  · rw [resetDriver_driver, first.driver_of_ne (endAt_one_ne_two d).symm, first.lines, first.safetyOcc]

theorem DriverOnly.clock (h : DriverOnly e s t) : t.clock = s.clock := by
  obtain ⟨b, v, r, rfl⟩ := h
  rfl

theorem resetDrivers_fault (within : e.deck = d) (clear : s.faults.get (.bar e) = .clear) :
    (resetDrivers d s).faults.get (.bar e) =
      if ((resetDrivers d s).driver e).state = .fault then ⟨.active, false, s.clock.now, 1⟩ else .clear := by
  have first := resetDriver_driverOnly (d.endAt .one) s
  have second := resetDriver_driverOnly (d.endAt .two) (resetDriver (d.endAt .one) s)
  unfold resetDrivers
  rcases endAt_cases within with rfl | rfl
  · have ne : FaultSource.bar (d.endAt .one) ≠ .bar (d.endAt .two) := by cases d <;> decide
    rw [second.fault_of_ne ne, resetDriver_fault clear, second.driver_of_ne (endAt_one_ne_two d)]
  · have ne : FaultSource.bar (d.endAt .two) ≠ .bar (d.endAt .one) := by cases d <;> decide
    rw [resetDriver_fault (by rw [first.fault_of_ne ne, clear]), first.clock]

theorem resetDrivers_station_of_ne (outside : e.deck ≠ d) (s : State) :
    (resetDrivers d s).station e = s.station e := by
  have ne (n : EndNo) : e ≠ d.endAt n := fun h => outside (h ▸ endAt_deck d n)
  exact ((resetDriver_driverOnly _ _).station_of_ne (ne .two)).trans
    ((resetDriver_driverOnly _ _).station_of_ne (ne .one))

theorem resetDrivers_fault_of_ne {f : FaultSource} (h : ∀ e : EndId, e.deck = d → f ≠ .bar e) (s : State) :
    (resetDrivers d s).faults.get f = s.faults.get f :=
  ((resetDriver_driverOnly _ _).fault_of_ne (h _ (endAt_deck d .two))).trans
    ((resetDriver_driverOnly _ _).fault_of_ne (h _ (endAt_deck d .one)))

theorem resetDrivers_lines (d : Deck) (s : State) (x : EndId) :
    ((resetDrivers d s).station x).lines = (s.station x).lines :=
  ((resetDriver_driverOnly _ _).lines x).trans ((resetDriver_driverOnly _ _).lines x)

theorem resetDrivers_machine (d : Deck) (s : State) (x : EndId) :
    (resetDrivers d s).machine x = s.machine x :=
  ((resetDriver_driverOnly _ _).machine x).trans ((resetDriver_driverOnly _ _).machine x)

theorem resetDrivers_frame (d : Deck) (s : State) :
    ∃ x f r, resetDrivers d s = { s with ends := x, faults := f, reports := r } := by
  have first := (resetDriver_driverOnly (d.endAt .one) s).frame
  have second := (resetDriver_driverOnly (d.endAt .two) (resetDriver (d.endAt .one) s)).frame
  exact ⟨_, _, _, by
    rw [resetDrivers, second]
    conv_lhs => rw [first]⟩

/-- The LOOPFAULT lines of both ends signalled (R61, R81). -/
def loopSignals (d : Deck) (s : State) : State := loopSignal (loopSignal s (d.endAt .one)) (d.endAt .two)

theorem loopSignal_frame (s : State) (e : EndId) : ∃ v r, loopSignal s e =
    { s with faults := s.faults.set (.loop e) v, reports := r } := by
  unfold loopSignal
  split
  · obtain ⟨v, r, h, -⟩ := condArises_loop e s
    exact ⟨v, r, h⟩
  · exact ⟨s.faults.get (.loop e), s.reports, by rw [FaultTable.set_get]⟩

theorem loopSignal_fresh (clear : s.faults.get (.loop e) = .clear) : (loopSignal s e).faults.get (.loop e) =
    if (s.station e).lines.loopfault then ⟨.active, false, s.clock.now, 1⟩ else .clear := by
  unfold loopSignal
  split
  · exact condArises_fresh (congrArg FaultEntry.state clear)
  · exact clear

theorem loopSignal_fault_of_ne {f : FaultSource} (ne : f ≠ .loop e) (s : State) :
    (loopSignal s e).faults.get f = s.faults.get f := by
  obtain ⟨v, r, h⟩ := loopSignal_frame s e
  rw [h]
  exact FaultTable.get_set_of_ne _ _ ne

theorem loopSignals_frame (d : Deck) (s : State) :
    ∃ f r, loopSignals d s = { s with faults := f, reports := r } := by
  obtain ⟨v, r, first⟩ := loopSignal_frame s (d.endAt .one)
  obtain ⟨v', r', second⟩ := loopSignal_frame (loopSignal s (d.endAt .one)) (d.endAt .two)
  exact ⟨_, r', by rw [loopSignals, second, first]⟩

theorem loopSignals_fault (within : e.deck = d) (clear : s.faults.get (.loop e) = .clear) :
    (loopSignals d s).faults.get (.loop e) =
      if (s.station e).lines.loopfault then ⟨.active, false, s.clock.now, 1⟩ else .clear := by
  unfold loopSignals
  rcases endAt_cases within with rfl | rfl
  · rw [loopSignal_fault_of_ne (by cases d <;> decide), loopSignal_fresh clear]
  · obtain ⟨v, r, first⟩ := loopSignal_frame s (d.endAt .one)
    rw [loopSignal_fresh (by rw [loopSignal_fault_of_ne (by cases d <;> decide), clear]), first]
    rfl

theorem loopSignals_fault_of_ne {f : FaultSource} (h : ∀ e : EndId, e.deck = d → f ≠ .loop e) (s : State) :
    (loopSignals d s).faults.get f = s.faults.get f :=
  (loopSignal_fault_of_ne (h _ (endAt_deck d .two)) _).trans (loopSignal_fault_of_ne (h _ (endAt_deck d .one)) _)

theorem reported_loopSignal (s : State) (e : EndId) : Reported s (loopSignal s e) := by
  unfold loopSignal
  split
  · exact reported_condArises _ s
  · exact .of_eq rfl

/-! ### The printer (R183) -/

/-- A printer after a reset over its PAPER line (R183). -/
def Printer.afterReset (p : Printer) (l : DeckReadings) : Printer :=
  if l.paper then { p.restarted l.busy with state := .fault, condition := true } else p.restarted l.busy

theorem resetPrinter_eq (d : Deck) (s : State) : resetPrinter d s =
    if (s.deck d).lines.paper then
      condArises (.prn d) (s.modPrinter d fun p => p.afterReset (s.deck d).lines)
    else s.modPrinter d fun p => p.afterReset (s.deck d).lines := by
  unfold resetPrinter
  dsimp only
  split
  next paper =>
    unfold printerFaultEntry
    refine congrArg _ ?_
    rw [State.modPrinter, State.modPrinter, State.modDeck_modDeck]
    refine State.modDeck_congr ?_
    dsimp only
    rw [Printer.afterReset, if_pos paper]
    rfl
  next paper =>
    refine State.modDeck_congr ?_
    dsimp only
    rw [Printer.afterReset, if_neg paper]

theorem resetPrinter_frame (d : Deck) (s : State) : ∃ f r, resetPrinter d s =
    { s.modPrinter d (fun p => p.afterReset (s.deck d).lines) with faults := f, reports := r } := by
  rw [resetPrinter_eq]
  split
  · obtain ⟨v, r, h, -⟩ := condArises_spec (s.modPrinter d fun p => p.afterReset (s.deck d).lines) (.prn d)
    exact ⟨_, r, h⟩
  · exact ⟨s.faults, s.reports, rfl⟩

theorem resetPrinter_fault (clear : s.faults.get (.prn d) = .clear) : (resetPrinter d s).faults.get (.prn d) =
    if (s.deck d).lines.paper then ⟨.active, false, s.clock.now, 1⟩ else .clear := by
  rw [resetPrinter_eq]
  split
  · exact condArises_fresh (s := s.modPrinter d _) (congrArg FaultEntry.state clear)
  · exact clear

theorem resetPrinter_fault_of_ne {f : FaultSource} (ne : f ≠ .prn d) (s : State) :
    (resetPrinter d s).faults.get f = s.faults.get f := by
  rw [resetPrinter_eq]
  split
  · exact condArises_entry_of_ne ne _
  · rfl

theorem reported_resetPrinter (d : Deck) (s : State) : Reported s (resetPrinter d s) := by
  rw [resetPrinter_eq]
  split
  · exact reported_condArises _ (s.modPrinter d _)
  · exact .of_eq rfl

/-! ### The ends (R100) -/

theorem resetEnd_eq (e : EndId) (s : State) : resetEnd e s = (s.removeVisit? (s.machine e).visit).modMachine e
    fun m => m.restarted (s.station e).lines.approach := by
  unfold resetEnd State.modMachine
  cases (s.machine e).visit <;> cases e <;> rfl

theorem resetEnd_endOnly (e : EndId) (s : State) : EndOnly e s (resetEnd e s) := by
  rw [resetEnd_eq]
  exact (removeVisit?_endOnly e _ s).trans (modMachine_endOnly e _ _)

theorem resetEnd_machine (e : EndId) (s : State) :
    (resetEnd e s).machine e = (s.machine e).restarted (s.station e).lines.approach := by
  rw [resetEnd_eq, modMachine_machine, removeVisit?_machine]

theorem removeVisit?_visits (n : Option Nat) (s : State) : (s.removeVisit? n).visits =
    { s.visits with table := s.visits.table.filter fun v => n != some v.number } := by
  cases n with
  | none =>
    have all : (s.visits.table.filter fun v => (none : Option Nat) != some v.number) = s.visits.table :=
      filter_true fun _ => rfl
    rw [all]
    rfl
  | some n =>
    refine congrArg (fun table => { s.visits with table := table }) (List.filter_congr fun v _ => ?_)
    simp [bne, Bool.beq_eq_decide_eq, eq_comm]

theorem resetEnd_visits (e : EndId) (s : State) : (resetEnd e s).visits =
    { s.visits with table := s.visits.table.filter fun v => (s.machine e).visit != some v.number } := by
  rw [resetEnd_eq]
  exact removeVisit?_visits _ s

theorem resetEnd_reports (e : EndId) (s : State) : (resetEnd e s).reports = s.reports := by
  rw [resetEnd_eq]
  cases (s.machine e).visit <;> rfl

/-- Both ends reset. -/
def resetEnds (d : Deck) (s : State) : State := resetEnd (d.endAt .two) (resetEnd (d.endAt .one) s)

theorem resetEnds_machine (within : e.deck = d) (s : State) :
    (resetEnds d s).machine e = (s.machine e).restarted (s.station e).lines.approach := by
  have first := resetEnd_endOnly (d.endAt .one) s
  unfold resetEnds
  rcases endAt_cases within with rfl | rfl
  · rw [(resetEnd_endOnly _ _).machine_of_ne (endAt_one_ne_two d), resetEnd_machine]
  · rw [resetEnd_machine, first.machine_of_ne (endAt_one_ne_two d).symm, first.lines]

theorem resetEnds_station_of_ne (outside : e.deck ≠ d) (s : State) :
    (resetEnds d s).station e = s.station e := by
  have ne (n : EndNo) : e ≠ d.endAt n := fun h => outside (h ▸ endAt_deck d n)
  exact ((resetEnd_endOnly _ _).station_of_ne (ne .two)).trans ((resetEnd_endOnly _ _).station_of_ne (ne .one))

theorem resetEnds_driver (d : Deck) (s : State) (x : EndId) : (resetEnds d s).driver x = s.driver x :=
  ((resetEnd_endOnly _ _).driver x).trans ((resetEnd_endOnly _ _).driver x)

theorem resetEnds_lines (d : Deck) (s : State) (x : EndId) :
    ((resetEnds d s).station x).lines = (s.station x).lines :=
  ((resetEnd_endOnly _ _).lines x).trans ((resetEnd_endOnly _ _).lines x)

theorem resetEnds_visits (d : Deck) (s : State) : (resetEnds d s).visits = { s.visits with
    table := s.visits.table.filter fun v => !((s.machine (d.endAt .one)).visit == some v.number
      || (s.machine (d.endAt .two)).visit == some v.number) } := by
  unfold resetEnds
  rw [resetEnd_visits, resetEnd_visits, (resetEnd_endOnly _ _).machine_of_ne (endAt_one_ne_two d).symm]
  dsimp only
  rw [List.filter_filter]
  refine congrArg (fun table => { s.visits with table := table }) (List.filter_congr fun v _ => ?_)
  rw [bne, bne, Bool.not_or, Bool.and_comm]

theorem resetEnds_frame (d : Deck) (s : State) :
    ∃ x v, resetEnds d s = { s with ends := x, visits := v } := by
  have first := (resetEnd_endOnly (d.endAt .one) s).frame
  have second := (resetEnd_endOnly (d.endAt .two) (resetEnd (d.endAt .one) s)).frame
  rw [resetEnd_reports] at second first
  exact ⟨_, _, by
    rw [resetEnds, second]
    conv_lhs => rw [first]⟩

/-! ### The stages together (log entry 14) -/

/-- The state before a pending close completes and the ends take the test of R85. -/
def resetBlocks (d : Deck) (s : State) : State :=
  resetEnds d (resetPrinter d (loopSignals d (resetDrivers d (resetOpened d s))))

theorem deckResetState_eq (d : Deck) (s : State) :
    deckResetState d s = wakeBoth d (completeClose d (resetBlocks d s)) := rfl

/-- The deck's unit before a pending close completes. -/
def DeckUnit.resetTo (u : DeckUnit) : DeckUnit :=
  { ({ u with seq := u.seq.resetTo }).reset with printer := u.printer.afterReset u.lines }

section Blocks
variable (d : Deck) (s : State)

theorem resetOpened_deck : (resetOpened d s).deck d = ({ s.deck d with seq := (s.deck d).seq.resetTo }).reset := by
  obtain ⟨f, r, h⟩ := resetOpened_frame d s
  rw [h]
  exact PerDeck.get_set _ _ _

theorem resetOpened_ends : (resetOpened d s).ends = s.ends := by
  obtain ⟨f, r, h⟩ := resetOpened_frame d s
  rw [h]

theorem resetOpened_clock : (resetOpened d s).clock = s.clock := by
  obtain ⟨f, r, h⟩ := resetOpened_frame d s
  rw [h]

theorem resetOpened_station (e : EndId) : (resetOpened d s).station e = s.station e :=
  congrArg (fun ends => ends.get e) (resetOpened_ends d s)

theorem resetDrivers_decks : (resetDrivers d s).decks = s.decks := by
  obtain ⟨x, f, r, h⟩ := resetDrivers_frame d s
  rw [h]

theorem loopSignals_decks : (loopSignals d s).decks = s.decks := by
  obtain ⟨f, r, h⟩ := loopSignals_frame d s
  rw [h]

theorem resetDrivers_clock : (resetDrivers d s).clock = s.clock := by
  obtain ⟨x, f, r, h⟩ := resetDrivers_frame d s
  rw [h]

theorem loopSignals_clock : (loopSignals d s).clock = s.clock := by
  obtain ⟨f, r, h⟩ := loopSignals_frame d s
  rw [h]

theorem resetOpened_clear {f : FaultSource} (h : entryDeck f = some d) :
    (resetOpened d s).faults.get f = .clear := by
  rw [resetOpened_faults, if_pos h]

theorem loopSignals_station (e : EndId) : (loopSignals d s).station e = s.station e := by
  obtain ⟨f, r, h⟩ := loopSignals_frame d s
  rw [h]
  rfl

theorem resetPrinter_station (e : EndId) : (resetPrinter d s).station e = s.station e := by
  obtain ⟨f, r, h⟩ := resetPrinter_frame d s
  rw [h]
  rfl

/-- Blocks the reset leaves alone, with the deck's unit and the visits it makes. -/
theorem resetBlocks_frame : ∃ x f r, resetBlocks d s = { s with
    decks := s.decks.set d (s.deck d).resetTo, ends := x, faults := f, reports := r
    visits := { s.visits with table := (s.afterReset d).filter fun v =>
      !((s.machine (d.endAt .one)).visit == some v.number || (s.machine (d.endAt .two)).visit == some v.number) } } := by
  obtain ⟨f0, r0, h0⟩ := resetOpened_frame d s
  obtain ⟨x1, f1, r1, h1⟩ := resetDrivers_frame d (resetOpened d s)
  obtain ⟨f2, r2, h2⟩ := loopSignals_frame d (resetDrivers d (resetOpened d s))
  obtain ⟨f3, r3, h3⟩ := resetPrinter_frame d (loopSignals d (resetDrivers d (resetOpened d s)))
  obtain ⟨x4, v4, h4⟩ := resetEnds_frame d (resetPrinter d (loopSignals d (resetDrivers d (resetOpened d s))))
  have machine (e : EndId) :
      (resetPrinter d (loopSignals d (resetDrivers d (resetOpened d s)))).machine e = s.machine e := by
    refine (congrArg Station.machine ((resetPrinter_station d _ e).trans (loopSignals_station d _ e))).trans ?_
    refine (resetDrivers_machine d _ e).trans ?_
    exact congrArg Station.machine (resetOpened_station d s e)
  have before : (resetPrinter d (loopSignals d (resetDrivers d (resetOpened d s)))).visits
      = { s.visits with table := s.afterReset d } := by
    rw [h3]
    change (loopSignals d (resetDrivers d (resetOpened d s))).visits = _
    rw [h2, h1, h0]
  have visits := resetEnds_visits d (resetPrinter d (loopSignals d (resetDrivers d (resetOpened d s))))
  rw [machine, machine, before, h4] at visits
  dsimp only at visits
  have decks : (resetPrinter d (loopSignals d (resetDrivers d (resetOpened d s)))).decks
      = s.decks.set d (s.deck d).resetTo := by
    have same : (loopSignals d (resetDrivers d (resetOpened d s))).decks = (resetOpened d s).decks :=
      (loopSignals_decks d _).trans (resetDrivers_decks d _)
    rw [h3]
    simp only [State.modPrinter, State.modDeck, State.deck, same]
    rw [show (resetOpened d s).decks.get d = _ from resetOpened_deck d s, h0]
    simp only [PerDeck.set_set]
    rfl
  refine ⟨x4, f3, r3, ?_⟩
  rw [resetBlocks, h4, visits, ← decks]
  conv_lhs => rw [h3]
  rw [h3]
  simp only [State.modPrinter, State.modDeck]
  rw [h2, h1, h0]

/-- Each driver of the deck is reset over the readings the command finds (R81). -/
theorem resetBlocks_driver (within : e.deck = d) : (resetBlocks d s).driver e
    = (s.driver e).afterReset (s.station e).lines (s.safetyOcc e) := by
  have stations (x : EndId) := (resetPrinter_station d (loopSignals d (resetDrivers d (resetOpened d s))) x).trans
    (loopSignals_station d _ x)
  rw [resetBlocks, resetEnds_driver]
  refine (congrArg Station.driver (stations e)).trans ((resetDrivers_driver within _).trans ?_)
  unfold State.safetyOcc State.driver
  rw [resetOpened_station, resetOpened_ends]

theorem resetBlocks_lines (x : EndId) : ((resetBlocks d s).station x).lines = (s.station x).lines := by
  rw [resetBlocks, resetEnds_lines, resetPrinter_station, loopSignals_station, resetDrivers_lines,
    resetOpened_station]

theorem resetBlocks_machine (within : e.deck = d) : (resetBlocks d s).machine e
    = (s.machine e).restarted (s.station e).lines.approach := by
  have before : (resetPrinter d (loopSignals d (resetDrivers d (resetOpened d s)))).machine e = s.machine e := by
    refine (congrArg Station.machine ((resetPrinter_station d _ e).trans (loopSignals_station d _ e))).trans ?_
    refine (resetDrivers_machine d _ e).trans ?_
    exact congrArg Station.machine (resetOpened_station d s e)
  rw [resetBlocks, resetEnds_machine within, before, resetPrinter_station, loopSignals_station, resetDrivers_lines,
    resetOpened_station]

theorem resetBlocks_station_of_ne (outside : e.deck ≠ d) : (resetBlocks d s).station e = s.station e := by
  rw [resetBlocks, resetEnds_station_of_ne outside, resetPrinter_station, loopSignals_station,
    resetDrivers_station_of_ne outside, resetOpened_station]

theorem resetBlocks_reported : Reported (offer .deckReset (.deck d) [] s) (resetBlocks d s) := by
  have opened : Reported (offer .deckReset (.deck d) [] s) (resetOpened d s) := .of_eq (resetOpened_reports d s)
  have driven := (opened.trans (reported_resetDriver (d.endAt .one) _)).trans
    (reported_resetDriver (d.endAt .two) _)
  have looped := (driven.trans (reported_loopSignal _ (d.endAt .one))).trans
    (reported_loopSignal _ (d.endAt .two))
  have printed := looped.trans (reported_resetPrinter d _)
  exact printed.trans (.of_eq ((resetEnd_reports _ _).trans (resetEnd_reports _ _)))

theorem resetBlocks_faults_eq (f : FaultSource) : (resetBlocks d s).faults.get f =
    (resetPrinter d (loopSignals d (resetDrivers d (resetOpened d s)))).faults.get f := by
  obtain ⟨x, v, h⟩ := resetEnds_frame d (resetPrinter d (loopSignals d (resetDrivers d (resetOpened d s))))
  rw [resetBlocks, h]

/-- An entry that no detector of the deck signals again (R211). -/
theorem resetBlocks_fault_other {f : FaultSource} (bar : ∀ e : EndId, e.deck = d → f ≠ .bar e)
    (loop : ∀ e : EndId, e.deck = d → f ≠ .loop e) (prn : f ≠ .prn d) :
    (resetBlocks d s).faults.get f = if entryDeck f = some d then .clear else s.faults.get f := by
  rw [resetBlocks_faults_eq, resetPrinter_fault_of_ne prn, loopSignals_fault_of_ne loop, resetDrivers_fault_of_ne bar,
    resetOpened_faults]

theorem resetBlocks_fault_bar (within : e.deck = d) : (resetBlocks d s).faults.get (.bar e) =
    if ((resetBlocks d s).driver e).state = .fault then ⟨.active, false, s.clock.now, 1⟩ else .clear := by
  have cleared : (resetOpened d s).faults.get (.bar e) = .clear := resetOpened_clear d s (congrArg some within)
  rw [resetBlocks_faults_eq, resetPrinter_fault_of_ne (by simp), loopSignals_fault_of_ne (by simp),
    resetDrivers_fault within cleared, resetOpened_clock, resetBlocks_driver _ _ within]
  have driver : (resetDrivers d (resetOpened d s)).driver e
      = (s.driver e).afterReset (s.station e).lines (s.safetyOcc e) := by
    rw [resetDrivers_driver within]
    unfold State.safetyOcc State.driver
    rw [resetOpened_station, resetOpened_ends]
  rw [driver]

theorem resetBlocks_fault_loop (within : e.deck = d) : (resetBlocks d s).faults.get (.loop e) =
    if (s.station e).lines.loopfault then ⟨.active, false, s.clock.now, 1⟩ else .clear := by
  have cleared : (resetDrivers d (resetOpened d s)).faults.get (.loop e) = .clear := by
    rw [resetDrivers_fault_of_ne (by simp)]
    exact resetOpened_clear d s (congrArg some within)
  rw [resetBlocks_faults_eq, resetPrinter_fault_of_ne (by simp), loopSignals_fault within cleared,
    resetDrivers_clock, resetOpened_clock, resetDrivers_lines, resetOpened_station]

theorem resetBlocks_fault_prn : (resetBlocks d s).faults.get (.prn d) =
    if (s.deck d).lines.paper then ⟨.active, false, s.clock.now, 1⟩ else .clear := by
  have cleared : (loopSignals d (resetDrivers d (resetOpened d s))).faults.get (.prn d) = .clear := by
    rw [loopSignals_fault_of_ne (by simp), resetDrivers_fault_of_ne (by simp)]
    exact resetOpened_clear d s rfl
  have deck : (loopSignals d (resetDrivers d (resetOpened d s))).deck d
      = ({ s.deck d with seq := (s.deck d).seq.resetTo }).reset := by
    rw [State.deck, loopSignals_decks, resetDrivers_decks]
    exact resetOpened_deck d s
  rw [resetBlocks_faults_eq, resetPrinter_fault cleared, loopSignals_clock, resetDrivers_clock, resetOpened_clock, deck]
  rfl

end Blocks

/-! ### The close and the tests of R85 -/

theorem State.modDeck_self {f : DeckUnit → DeckUnit} (h : f (s.deck d) = s.deck d) : s.modDeck d f = s := by
  rw [State.modDeck, show f (s.decks.get d) = s.decks.get d from h, PerDeck.set_get]

/-- A pending close over ends at rest (R102). -/
theorem completeClose_resting (idle : (s.deck d).seq.state = .idle)
    (rest : ∀ e : EndId, e.deck = d → (s.machine e).state = .idle) : completeClose d s =
    s.modSettings d fun x =>
      { x with closePending := false, mode := if x.closePending then .closed else x.mode } := by
  have stays (n : EndNo) (f : DeckSettings → DeckSettings) :
      closeEnd (s.modSettings d f) (d.endAt n) = s.modSettings d f :=
    closeEnd_stays fun waits => by
      have resting : ((s.modSettings d f).machine (d.endAt n)).state = .idle := rest _ (endAt_deck d n)
      rw [resting] at waits
      rcases waits with h | h | h | h <;> cases h
  unfold completeClose
  by_cases pending : (s.deck d).settings.closePending = true
  · rw [if_pos ⟨pending, idle⟩, becomeClosed, closeEnds, stays, stays]
    refine State.modDeck_congr ?_
    dsimp only
    rw [if_pos pending]
  · rw [if_neg fun h => pending h.1]
    refine (State.modDeck_self ?_).symm
    dsimp only
    rw [if_neg pending]
    have same : (s.deck d).settings.closePending = false := by simpa using pending
    rw [← same]

/-- The test of R85 at an end whose port is fresh: it wakes the end without a read. -/
theorem wakeTest_fresh (conflict : (s.machine e).conflict = false) (unread : (s.machine e).heldRead = none)
    (live : (s.machine e).clearTimer ≠ .expired) :
    (wakeTest e s).visits = s.visits ∧ Reported s (wakeTest e s) := by
  by_cases h : s.part.run = true ∧ (s.machine e).state = .idle ∧ (s.station e).lines.approach = true
  · obtain ⟨run, idle, occ⟩ := h
    cases approach : s.isApproach e with
    | false =>
      rw [wakeTest_wrongWay run idle occ approach]
      split
      · exact ⟨rfl, .of_eq rfl⟩
      · exact ⟨offer_visits (s.modMachine e _) _ _ _, reported_offer _ _ _ (s.modMachine e _)⟩
    | true =>
      rw [wakeTest_approach run idle occ approach, wake_none conflict unread, expiredToIdle_live]
      · exact ⟨rfl, .of_eq rfl⟩
      · rw [modMachine_machine]
        exact live
  · rw [wakeTest_stays h]
    exact ⟨rfl, .of_eq rfl⟩

theorem restarted_live (m : EndMachine) (occ : Bool) : (m.restarted occ).clearTimer ≠ .expired := by
  unfold EndMachine.restarted
  cases occ <;> simp

theorem wakeBoth_fresh (fresh : ∀ e : EndId, e.deck = d → ∃ m occ, s.machine e = EndMachine.restarted m occ) :
    (wakeBoth d s).visits = s.visits ∧ Reported s (wakeBoth d s) := by
  have one (n : EndNo) (w : State) (same : w.machine (d.endAt n) = s.machine (d.endAt n)) :
      (wakeTest (d.endAt n) w).visits = w.visits ∧ Reported w (wakeTest (d.endAt n) w) := by
    obtain ⟨m, occ, h⟩ := fresh _ (endAt_deck d n)
    exact wakeTest_fresh (by rw [same, h]; rfl) (by rw [same, h]; rfl) (by rw [same, h]; exact restarted_live m occ)
  obtain ⟨visits, reports⟩ := one .one s rfl
  obtain ⟨visits', reports'⟩ := one .two (wakeTest (d.endAt .one) s)
    ((wakeTest_endOnly _ _).machine_of_ne (endAt_one_ne_two d).symm)
  exact ⟨visits'.trans visits, reports.trans reports'⟩

/-- The deck's settings with a pending close completed. -/
def DeckSettings.closedOut (x : DeckSettings) : DeckSettings :=
  { x with closePending := false, mode := if x.closePending then .closed else x.mode }

theorem wakeBoth_faults (d : Deck) (s : State) : (wakeBoth d s).faults = s.faults :=
  (wakeTest_endOnly _ _).faults.trans (wakeTest_endOnly _ _).faults

theorem wakeBoth_station_of_ne (outside : e.deck ≠ d) (s : State) : (wakeBoth d s).station e = s.station e := by
  have ne (n : EndNo) : e ≠ d.endAt n := fun h => outside (h ▸ endAt_deck d n)
  exact ((wakeTest_endOnly _ _).station_of_ne (ne .two)).trans ((wakeTest_endOnly _ _).station_of_ne (ne .one))

theorem wakeBoth_frame (d : Deck) (s : State) :
    ∃ x v r, wakeBoth d s = { s with ends := x, visits := v, reports := r } := by
  have first := (wakeTest_endOnly (d.endAt .one) s).frame
  have second := (wakeTest_endOnly (d.endAt .two) (wakeTest (d.endAt .one) s)).frame
  exact ⟨_, _, _, by
    rw [wakeBoth, second]
    conv_lhs => rw [first]⟩

section Whole
variable (d : Deck) (s : State)

theorem resetBlocks_deck : (resetBlocks d s).deck d = (s.deck d).resetTo := by
  obtain ⟨x, f, r, h⟩ := resetBlocks_frame d s
  rw [h]
  exact PerDeck.get_set _ _ _

theorem deckReset_closed : deckResetState d s
    = wakeBoth d ((resetBlocks d s).modSettings d DeckSettings.closedOut) := by
  rw [deckResetState_eq, completeClose_resting]
  · rfl
  · rw [resetBlocks_deck]
    rfl
  · intro e within
    rw [resetBlocks_machine d s within]
    rfl

theorem deckReset_deck : (deckResetState d s).deck d =
    { (s.deck d).resetTo with settings := (s.deck d).settings.closedOut } := by
  rw [deckReset_closed, State.deck, wakeBoth_decks]
  refine (State.modSettings_deck (resetBlocks d s) d _).trans ?_
  rw [resetBlocks_deck]
  rfl

theorem deckReset_driver (within : e.deck = d) : (deckResetState d s).driver e
    = (s.driver e).afterReset (s.station e).lines (s.safetyOcc e) := by
  rw [deckReset_closed, wakeBoth_driver]
  exact resetBlocks_driver d s within

theorem deckReset_faults : (deckResetState d s).faults = (resetBlocks d s).faults := by
  rw [deckReset_closed, wakeBoth_faults]
  rfl

theorem deckReset_station_of_ne (outside : e.deck ≠ d) : (deckResetState d s).station e = s.station e := by
  rw [deckReset_closed, wakeBoth_station_of_ne outside]
  exact resetBlocks_station_of_ne d s outside

theorem deckReset_machine (within : e.deck = d)
    (rests : s.part.run = false ∨ (s.station e).lines.approach = false) : (deckResetState d s).machine e
    = (s.machine e).restarted (s.station e).lines.approach := by
  obtain ⟨x, f, r, frame⟩ := resetBlocks_frame d s
  rw [deckReset_closed, wakeBoth_stays]
  · exact resetBlocks_machine d s within
  · rcases rests with h | h
    · refine .inr (.inl ?_)
      rw [frame]
      exact h
    · refine .inr (.inr (.inr ?_))
      exact (congrArg EndReadings.approach (resetBlocks_lines d s e)).trans h

theorem deckReset_fresh : (deckResetState d s).visits = (resetBlocks d s).visits
    ∧ Reported (offer .deckReset (.deck d) [] s) (deckResetState d s) := by
  obtain ⟨visits, reports⟩ := wakeBoth_fresh
    (s := (resetBlocks d s).modSettings d DeckSettings.closedOut) (d := d)
    fun e within => ⟨_, _, resetBlocks_machine d s within⟩
  rw [deckReset_closed]
  exact ⟨visits, ((resetBlocks_reported d s).trans (.of_eq rfl)).trans reports⟩

theorem deckReset_visits : (deckResetState d s).visits = { s.visits with
    table := (s.visits.table.filter fun v => !((s.deck d).seq.drops v
      || (s.machine (d.endAt .one)).visit == some v.number
      || (s.machine (d.endAt .two)).visit == some v.number)).map ((s.deck d).seq.leaves d) } := by
  obtain ⟨x, f, r, h⟩ := resetBlocks_frame d s
  rw [(deckReset_fresh d s).1, h]
  dsimp only
  rw [State.afterReset, List.filter_map, List.filter_filter]
  refine congrArg (fun table : List Visit =>
    ({ s.visits with table := table.map ((s.deck d).seq.leaves d) } : Visits)) (List.filter_congr fun v _ => ?_)
  simp only [Function.comp_apply, leaves_number]
  rw [Bool.or_assoc, Bool.not_or ((s.deck d).seq.drops v), Bool.and_comm]

theorem deckReset_frame : deckResetState d s = { s with
    decks := (deckResetState d s).decks, ends := (deckResetState d s).ends
    visits := (deckResetState d s).visits, reports := (deckResetState d s).reports
    faults := (deckResetState d s).faults } := by
  obtain ⟨x, f, r, h⟩ := resetBlocks_frame d s
  obtain ⟨x', v', r', h'⟩ := wakeBoth_frame d ((resetBlocks d s).modSettings d DeckSettings.closedOut)
  rw [deckReset_closed, h', h]
  rfl

theorem deckReset_deck_of_ne {d' : Deck} (ne : d' ≠ d) : (deckResetState d s).deck d' = s.deck d' := by
  obtain ⟨x, f, r, h⟩ := resetBlocks_frame d s
  rw [deckReset_closed, State.deck, wakeBoth_decks]
  refine (State.modSettings_deck_of_ne (resetBlocks d s) _ ne).trans ?_
  rw [h]
  exact PerDeck.get_set_of_ne _ _ ne

end Whole

theorem afterReset_state (p : Printer) (l : DeckReadings) :
    (p.afterReset l).state = (if l.paper then .fault else .ready)
      ∧ (p.afterReset l).stuck = (if l.busy then .running 30 else .stopped)
      ∧ (p.afterReset l).uncollectedTime = p.uncollectedTime ∧ (p.afterReset l).queue = []
      ∧ (p.afterReset l).presented = none := by
  unfold Printer.afterReset
  split <;> exact ⟨rfl, rfl, rfl, rfl, rfl⟩

/-- Each of the deck's eleven entries, and every other one, after the reset (R211). -/
theorem deckReset_entries (d : Deck) (s : State) (f : FaultSource) :
    let t := deckResetState d s
    let fresh : FaultEntry := { state := .active, read := false, first := s.clock.now, count := 1 }
    (entryDeck f ≠ some d → t.faults.get f = s.faults.get f)
      ∧ (∀ ch, f = .cell d ch → t.faults.get f = .clear)
      ∧ (∀ e : EndId, e.deck = d → f = .rdr e → t.faults.get f = .clear)
      ∧ (∀ e : EndId, e.deck = d → f = .loop e →
          t.faults.get f = if (s.station e).lines.loopfault then fresh else .clear)
      ∧ (f = .prn d → t.faults.get f = if (s.deck d).lines.paper then fresh else .clear)
      ∧ (∀ e : EndId, e.deck = d → f = .bar e →
          t.faults.get f = if (t.driver e).state = .fault then fresh else .clear) := by
  dsimp only
  rw [deckReset_faults]
  refine ⟨fun other => ?_, ?_, ?_, ?_, ?_, ?_⟩
  · rw [resetBlocks_fault_other, if_neg other] <;> grind [entryDeck]
  · rintro ch rfl
    rw [resetBlocks_fault_other d s (by simp) (by simp) (by simp)]
    exact if_pos rfl
  · rintro e within rfl
    rw [resetBlocks_fault_other d s (by simp) (by simp) (by simp)]
    exact if_pos (congrArg some within)
  · rintro e within rfl
    exact resetBlocks_fault_loop d s within
  · rintro rfl
    exact resetBlocks_fault_prn d s
  · rintro e within rfl
    rw [resetBlocks_fault_bar d s within, resetBlocks_driver d s within, deckReset_driver d s within]

theorem withdraw_eq (c : Capture) : c.withdraw = { c with
    state := .idle, request := none, stageCount := 1, stage := 1, stages := []
    motion := false, blocking := none, drawForward := false, flashLit := false
    grantDue := none, weighValue := 0
    orphan := c.orphan || decide (c.state = .stageWrite ∨ c.state = .weighWrite) } := by
  unfold Capture.withdraw Capture.toIdle Capture.writing
  cases c.state <;> simp

/-- Settles O30: the stages in log entry 14's order, each block read off the stage that makes it. -/
theorem deckResetRestartsOneDeck : Obligations.DeckResetRestartsOneDeck := by
  unfold Obligations.DeckResetRestartsOneDeck
  intro d s u
  have deck := deckReset_deck d s
  refine ⟨deckResetState d s, rfl, ?_⟩
  rw [deck]
  obtain ⟨state, stuck, uncollected, queue, presented⟩ := afterReset_state u.printer u.lines
  refine ⟨rfl, rfl, rfl, rfl, ?_, rfl, rfl, rfl, rfl, rfl, rfl, queue, presented, rfl, fun e within down => ?_,
    fun e within setup => deckReset_machine d s within (.inl setup), fun d' ne => deckReset_deck_of_ne d s ne,
    fun e outside => deckReset_station_of_ne d s outside, deckReset_frame d s, deckReset_visits d s, ?_,
    (deckReset_fresh d s).2, fun ch => ?_, rfl, rfl, rfl, ?_, state, stuck, uncollected, fun e within => ?_⟩
  · simp [DeckUnit.resetTo, DeckUnit.reset, Sequencer.resetTo, Sequencer.settles, u]
  · rw [deckReset_driver d s within, afterReset_down down]
    exact ⟨down, rfl⟩
  · intro f fresh
    obtain ⟨other, cell, rdr, loop, prn, bar⟩ := deckReset_entries d s f
    cases f with
    | cell d' ch =>
      by_cases same : d' = d
      · subst same
        exact (cell ch rfl).trans (if_pos rfl).symm
      · exact (other (by simpa [entryDeck] using same)).trans (if_neg same).symm
    | rdr e =>
      by_cases same : e.deck = d
      · exact (rdr e same rfl).trans (if_pos same).symm
      · exact (other (by simpa [entryDeck] using same)).trans (if_neg same).symm
    | loop e =>
      by_cases same : e.deck = d
      · exact (loop e same rfl).trans (if_neg (not_not.mpr same)).symm
      · exact (other (by simpa [entryDeck] using same)).trans (if_pos same).symm
    | prn d' =>
      by_cases same : d' = d
      · subst same
        exact (prn rfl).trans (if_neg (by simp)).symm
      · exact (other (by simpa [entryDeck] using same)).trans (if_pos same).symm
    | bar e =>
      by_cases same : e.deck = d
      · refine (if_pos same).mpr ⟨bar e same rfl, fun mode => (bar e same rfl).trans (if_neg ?_)⟩
        rw [deckReset_driver d s same]
        exact afterReset_unfaulted mode
      · exact (if_neg same).mpr (other (by simpa [entryDeck] using same))
    | journal => exact other (by simp [entryDeck])
    | clock => exact other (by simp [entryDeck])
  · cases ch <;> rfl
  · exact withdraw_eq u.capture
  · intro b m
    rw [deckReset_driver d s within]
    refine ⟨fun up occ => afterReset_upward up occ, fun moving clear => ?_, fun lowering occ =>
      afterReset_lowering lowering occ, fun down => afterReset_down down, fun fault => afterReset_fault fault,
      fun approach => ?_⟩
    · refine afterReset_clear ?_ ?_ clear <;>
        rcases moving with h | h | h <;> rw [show (s.driver e).state = _ from h] <;> decide
    · rw [deckReset_machine d s within (.inr approach), approach]
      rfl

end Sys2Proof.Machine
end

section
/-! PROOFS. Chapter 7, the visit and account tables' command lines (R128, R132, R134 to R138). -/

namespace Sys2Proof.Machine

-- One declaration after another: at once they ask for more threads than the check's limits allow.
set_option Elab.async false

variable {s : State}

/-! ### The entry of the least key -/

section Least
variable {α : Type} {key : α → Nat} {f : Option α → α → Option α} (start : ∀ v, f none v = some v)
  (step : ∀ x v, f (some x) v = if key v < key x then some v else some x)
include step

theorem foldl_least_from (l : List α) (b : α) : ∃ w, l.foldl f (some b) = some w
    ∧ (w = b ∨ w ∈ l) ∧ key w ≤ key b ∧ ∀ v ∈ l, key w ≤ key v := by
  induction l generalizing b with
  | nil => exact ⟨b, rfl, .inl rfl, le_refl _, by simp⟩
  | cons a l ih =>
    rw [List.foldl_cons, step]
    by_cases less : key a < key b
    · rw [if_pos less]
      obtain ⟨w, found, mem, le, least⟩ := ih a
      refine ⟨w, found, .inr ?_, by omega, ?_⟩
      · rcases mem with rfl | mem <;> simp [*]
      · simpa using ⟨le, least⟩
    · rw [if_neg less]
      obtain ⟨w, found, mem, le, least⟩ := ih b
      refine ⟨w, found, ?_, le, ?_⟩
      · rcases mem with rfl | mem <;> simp [*]
      · simpa using ⟨by omega, least⟩

include start

/-- A fold that keeps the lesser of two finds an entry of the least key. -/
theorem foldl_least {l : List α} {a : α} (mem : a ∈ l) :
    ∃ w, l.foldl f none = some w ∧ w ∈ l ∧ ∀ v ∈ l, key w ≤ key v := by
  cases l with
  | nil => simp at mem
  | cons b l =>
    rw [List.foldl_cons, start]
    obtain ⟨w, found, at_, le, least⟩ := foldl_least_from step l b
    refine ⟨w, found, ?_, ?_⟩
    · rcases at_ with rfl | at_ <;> simp [*]
    · simpa using ⟨le, least⟩

/-- A fold over the entries above a key finds the next one. -/
theorem foldl_next {l : List α} {a : α} {n : Nat} (mem : a ∈ l) (above : n < key a) :
    ∃ w ∈ l, n < key w ∧ key w ≤ key a ∧ (l.filter fun v => decide (n < key v)).foldl f none = some w := by
  have left : a ∈ l.filter fun v => decide (n < key v) := List.mem_filter.mpr ⟨mem, decide_eq_true above⟩
  obtain ⟨w, found, at_, least⟩ := foldl_least start step left
  obtain ⟨mem', above'⟩ := List.mem_filter.mp at_
  exact ⟨w, mem', of_decide_eq_true above', least a left, found⟩

end Least

/-- The entry after a key, as the NEXT? lines look for it: none, or one of the least key above it. -/
theorem filter_above_nil {α : Type} {key : α → Nat} {n : Nat} {l : List α} (h : ∀ v ∈ l, key v ≤ n) :
    (l.filter fun v => decide (n < key v)) = [] := by
  rw [List.filter_eq_nil_iff]
  intro v mem
  simpa using h v mem

/-! ### Visits (R128, R132, R134) -/

theorem exec_visitQuery_param {n : Int} (h : n < 1 ∨ 999999 < n) : Refused (.visitQuery n) .param s := by
  change execVisitQuery n s = _
  rw [execVisitQuery, inRange_of_not_mem (by omega)]
  rfl

theorem exec_visitClose_param {n : Int} (h : n < 1 ∨ 999999 < n) :
    Refused (.visitClose (some n)) .param s := by
  change execVisitClose (some n) s = _
  rw [execVisitClose, numIn_of_not_mem (by omega)]
  rfl

theorem exec_visitNext_param {n : Int} (h : n < 0 ∨ 999999 < n) :
    Refused (.visitNextQuery (some n)) .param s := by
  change execVisitNextQuery (some n) s = _
  rw [execVisitNextQuery, numIn_of_not_mem (by omega)]
  rfl

section Named
variable {n : Nat} (low : 1 ≤ n) (high : n ≤ 999999)
include low high

theorem exec_visitQuery : exec (.visitQuery (n : Int)) s = match s.visit? n with
    | none => refuse .notFound s
    | some v => answer (.ok v.fields) s := by
  change execVisitQuery (n : Int) s = _
  rw [execVisitQuery, inRange_of_mem (by omega) (by omega)]
  rfl

/-- VISIT CLOSE of a visit that is there, in the order of R132's table. -/
theorem exec_visitClose {v : Visit} (found : s.visit? n = some v) : exec (.visitClose (some (n : Int))) s =
    if v.holder ≠ .none ∨ (v.state ≠ .onSite ∧ v.state ≠ .settled)
        ∨ s.link.closing ≠ none ∨ s.journal.has .link = true then refuse .busy s
    else if v.state = .settled then answer (.ok ["CLOSED"]) (s.removeVisit n)
    else if s.journal.fault = true then refuse .state s
    else if s.journal.full = true ∨ 64 ≤ s.outcomes.queue.length + s.reservations then refuse .full s
    else
      match v.first with
      | none => refuse .busy s
      | some f => answer (.ok ["CLOSING"])
          (journalRequest .link none (.settle (settleAbandoned s v f))
            ((s.modVisit n fun x => { x with state := .leaving, holder := .link }).modLink fun l =>
              { l with closing := some n })) := by
  have closing : (s.link.closing.isSome || s.journal.has .link) = true ↔
      s.link.closing ≠ none ∨ s.journal.has .link = true := by
    rw [Bool.or_eq_true, Option.isSome_iff_ne_none]
  have room : (!s.outcomeRoom) = true ↔ 64 ≤ s.outcomes.queue.length + s.reservations := by
    rw [Bool.not_eq_true', State.outcomeRoom, decide_eq_false_iff_not, not_lt]
    rfl
  change execVisitClose (some (n : Int)) s = _
  rw [execVisitClose, numIn_of_mem (by omega) (by omega)]
  dsimp only
  rw [found]
  dsimp only
  simp only [closing, room, ite_or] <;> rfl

end Named

theorem exec_visitNext {n : Nat} (high : n ≤ 999999) : exec (.visitNextQuery (some (n : Int))) s =
    match (s.visits.table.filter fun v => decide (n < v.number)).foldl lesserVisit none with
    | none => answer (.ok ["END"]) s
    | some v => answer (.ok v.fields) s := by
  change execVisitNextQuery (some (n : Int)) s = _
  rw [execVisitNextQuery, numIn_of_mem (by omega) (by omega)] <;> rfl

/-- Settles O31: each line judged in the order of its entry. -/
theorem visitCommands : Obligations.VisitCommands := by
  unfold Obligations.VisitCommands
  intro s fields
  refine ⟨rfl, fun h => rfl, rfl, rfl, rfl, rfl, rfl,
    fun n out => ⟨exec_visitClose_param out, exec_visitQuery_param out⟩,
    fun n out => exec_visitNext_param out, fun n low high => ?_, fun g => ?_,
    fun n high => ⟨fun none_above => ?_, fun v mem above => ?_⟩⟩
  · cases found : s.visit? n with
    | none =>
      refine ⟨(exec_visitQuery low high).trans (by rw [found]; rfl), ?_⟩
      change execVisitClose (some (n : Int)) s = _
      rw [execVisitClose, numIn_of_mem (by omega) (by omega)]
      dsimp only
      rw [found]
      rfl
    | some v =>
      refine ⟨(exec_visitQuery low high).trans (by rw [found]; rfl), ?_⟩
      have judged := exec_visitClose low high found
      split
      next busy => exact judged.trans (if_pos busy)
      next free =>
        rw [if_neg free] at judged
        split
        next settled => exact judged.trans (if_pos settled)
        next onSite =>
          rw [if_neg onSite] at judged
          split
          next fault => exact judged.trans (if_pos fault)
          next well =>
            rw [if_neg well] at judged
            split
            next full => exact judged.trans (if_pos full)
            next room =>
              rw [if_neg room] at judged
              intro f first
              refine judged.trans ?_
              rw [first]
              simp only [State.modVisit, beq_iff_eq]
              rfl
  · cases found : s.visitOf? g with
    | none =>
      change execVisitFindQuery (some g) s = _
      simp only [execVisitFindQuery, found]
      rfl
    | some v =>
      refine ⟨by simpa using List.find?_some found, ?_⟩
      change execVisitFindQuery (some g) s = _
      simp only [execVisitFindQuery, found]
      rfl
  · refine (exec_visitNext high).trans ?_
    rw [filter_above_nil none_above]
    rfl
  · obtain ⟨w, mem', above', least, found⟩ := foldl_next (key := Visit.number) (f := lesserVisit)
      (fun _ => rfl) (fun _ _ => rfl) mem above
    refine ⟨w, mem', above', least, (exec_visitNext high).trans ?_⟩
    rw [found]
    rfl

end Sys2Proof.Machine
end

section
/-! PROOFS. Chapter 7, the account table's command lines (R135 to R138). -/

namespace Sys2Proof.Machine

-- One declaration after another: at once they ask for more threads than the check's limits allow.
set_option Elab.async false

variable {s : State}

/-! ### Parameters -/

theorem classList_of_bad {cs : List Int} (h : (∃ c ∈ cs, c < 0 ∨ 15 < c) ∨ ¬ cs.Nodup) : classList cs = none := by
  refine if_neg ?_
  rw [Bool.and_eq_true, List.all_eq_true, decide_eq_true_iff]
  rintro ⟨inside, nodup⟩
  rcases h with ⟨c, mem, out⟩ | twice
  · have := of_decide_eq_true (inside c mem)
    omega
  · exact twice nodup

theorem classList_of_good {cs : List Nat} (inside : ∀ c ∈ cs, c ≤ 15) (nodup : cs.Nodup) :
    classList (cs.map fun c : Nat => (c : Int)) = some cs := by
  refine (if_pos ?_).trans ?_
  · rw [Bool.and_eq_true, List.all_eq_true, decide_eq_true_iff]
    refine ⟨fun c mem => decide_eq_true ?_, nodup.map fun _ _ h => by exact_mod_cast h⟩
    obtain ⟨k, mem', rfl⟩ := List.mem_map.mp mem
    have := inside k mem'
    omega
  · rw [List.map_map]
    exact congrArg some (List.map_id'' (fun _ => rfl) cs)

/-- The account found under a number carries it. -/
theorem account?_number {n : Nat} {a : Account} (h : s.account? n = some a) : a.number = n := by
  simpa using List.find?_some h

/-! ### Writes to an account (R136, R137) -/

section Write
variable {α : Type} {p : Option α} {k : Account → α → Result State} {n : Nat}

theorem accountWrite_index {n : Int} (h : n < 1 ∨ 999999 < n) : accountWrite n p s k = refuse .param s := by
  unfold accountWrite
  rw [inRange_of_not_mem (by omega)]

variable (low : 1 ≤ n) (high : n ≤ 999999)
include low high

theorem accountWrite_param : accountWrite (n : Int) (none : Option α) s k = refuse .param s := by
  unfold accountWrite
  rw [inRange_of_mem (by omega) (by omega)]

theorem accountWrite_some (v : α) : accountWrite (n : Int) (some v) s k =
    match s.account? n with
    | none => refuse .notFound s
    | some a => if a.pendingCharge ≠ 0 then refuse .busy s else k a v := by
  unfold accountWrite
  rw [inRange_of_mem (by omega) (by omega)]
  rfl

theorem accountWrite_missing (h : s.account? n = none) (v : α) :
    accountWrite (n : Int) (some v) s k = refuse .notFound s := by
  rw [accountWrite_some low high, h]

variable {a : Account} (h : s.account? n = some a)
include h

theorem accountWrite_busy (pending : a.pendingCharge ≠ 0) (v : α) :
    accountWrite (n : Int) (some v) s k = refuse .busy s := by
  rw [accountWrite_some low high, h]
  exact if_pos pending

theorem accountWrite_free (free : a.pendingCharge = 0) (v : α) :
    accountWrite (n : Int) (some v) s k = k a v := by
  rw [accountWrite_some low high, h]
  exact if_neg (by simpa using free)

end Write

/-- The accounts with one of them changed. -/
theorem modAccount_found {n : Nat} {a : Account} (h : s.account? n = some a) (f : Account → Account) :
    s.modAccount a.number f = { s with accounts := s.accounts.map fun x => if x.number = n then f x else x } := by
  rw [account?_number h]
  simp only [State.modAccount, beq_iff_eq]

theorem reopened_eq (y : Account) : y.reopened = { y with
    status := if y.status = .stoppedLimit ∧ -(y.limit : Int) ≤ y.balance then .open else y.status } := by
  unfold Account.reopened
  split <;> rfl

theorem credit_eq (y : Account) (x : Nat) : y.credit x = { y with
    balance := min 999999999 (y.balance + x)
    status := if y.status = .stoppedLimit ∧ -(y.limit : Int) ≤ min 999999999 (y.balance + x) then .open
      else y.status } :=
  reopened_eq { y with balance := min Config.balanceLimit (y.balance + x) }

theorem setLimit_eq (y : Account) (x : Nat) : y.setLimit x = { y with
    limit := x
    status := if y.status = .open ∧ y.balance < -(x : Int) then .stoppedLimit
      else if y.status = .stoppedLimit ∧ -(x : Int) ≤ y.balance then .open else y.status } := by
  unfold Account.setLimit Account.reopened
  dsimp only
  split
  · rfl
  · split <;> rfl

/-! ### The lines -/

theorem exec_accountAdd_param {n : Int} {p : Option (Int × List Int)}
    (h : inRange 1 999999 n = none ∨ numIn 0 999999999 (p.map (·.1)) = none
      ∨ (p.bind fun x => classList x.2) = none) : exec (.accountAdd n p) s = refuse .param s := by
  change execAccountAdd n p s = _
  unfold execAccountAdd
  rcases h with h | h | h <;> rw [h]
  · cases inRange 1 999999 n <;> rfl
  · cases inRange 1 999999 n <;> cases numIn 0 999999999 (p.map (·.1)) <;> rfl

theorem exec_accountNext {n : Nat} (high : n ≤ 999999) : exec (.accountNextQuery (some (n : Int))) s =
    match (s.accounts.filter fun a => decide (n < a.number)).foldl lesserAccount none with
    | none => answer (.ok ["END"]) s
    | some a => answer (.ok a.fields) s := by
  change execAccountNextQuery (some (n : Int)) s = _
  rw [execAccountNextQuery, numIn_of_mem (by omega) (by omega)] <;> rfl

theorem exec_accountDelete {n : Nat} (low : 1 ≤ n) (high : n ≤ 999999) :
    exec (.accountDelete (n : Int)) s = match s.account? n with
      | none => refuse .notFound s
      | some a =>
        if (s.visits.table.any (·.account == n) || a.pendingCharge != 0) = true then refuse .busy s
        else answer (.ok []) { s with accounts := s.accounts.filter fun x => x.number != n } := by
  change execAccountDelete (n : Int) s = _
  rw [execAccountDelete, inRange_of_mem (by omega) (by omega)]
  rfl

theorem exec_accountQuery {n : Nat} (low : 1 ≤ n) (high : n ≤ 999999) :
    exec (.accountQuery (n : Int)) s = match s.account? n with
      | none => refuse .notFound s
      | some a => answer (.ok a.fields) s := by
  change execAccountQuery (n : Int) s = _
  rw [execAccountQuery, inRange_of_mem (by omega) (by omega)]
  rfl

section Lines
variable {x : Nat}

theorem accountCredit_eq {n : Int} (low : 1 ≤ x) (high : x ≤ 999999999) :
    exec (.accountCredit n (some (x : Int))) s = accountWrite n (some x) s fun a v =>
      if Config.balanceLimit < a.balance + v
        then answer (.clamped [num Config.balanceLimit]) (s.modAccount a.number fun x => x.credit v)
      else answer (.ok [num (a.credit v).balance, statusWord (a.credit v).status])
        (s.modAccount a.number fun x => x.credit v) := by
  change accountWrite n (numIn 1 999999999 (some (x : Int))) s _ = _
  rw [numIn_of_mem low high]

theorem accountLimit_eq {n : Int} (high : x ≤ 999999999) :
    exec (.accountLimit n (some (x : Int))) s = accountWrite n (some x) s fun a v =>
      answer (.ok [nat v, statusWord (a.setLimit v).status]) (s.modAccount a.number fun x => x.setLimit v) := by
  change accountWrite n (numIn 0 999999999 (some (x : Int))) s _ = _
  rw [numIn_of_mem (by omega) high]

theorem accountClasses_eq {n : Int} {cs : List Nat} (inside : ∀ c ∈ cs, c ≤ 15) (nodup : cs.Nodup) :
    exec (.accountClasses n (some (cs.map fun c : Nat => (c : Int)))) s = accountWrite n (some cs) s fun a v =>
      answer (.ok []) (s.modAccount a.number fun x => { x with classes := v }) := by
  change accountWrite n (classList _) s _ = _
  rw [classList_of_good inside nodup]

end Lines

theorem clampedBalance : num Config.balanceLimit = "999999999" := by decide

/-- Settles O33: the index, the parameter and the account judged in their order, then the write. -/
theorem accountCommands : Obligations.AccountCommands := by
  unfold Obligations.AccountCommands
  intro s fields put
  refine ⟨fun n out p a l c w => ⟨exec_accountAdd_param (.inl (inRange_of_not_mem (by omega))), ?_,
    accountWrite_index out, accountWrite_index out, accountWrite_index out, accountWrite_index out, ?_⟩, rfl, rfl,
    fun n out => ?_, fun n high => ⟨fun none_above => ?_, fun a mem above => ?_⟩, fun n low high => ?_⟩
  · change execAccountDelete n s = _
    rw [execAccountDelete, inRange_of_not_mem (by omega)]
    rfl
  · change execAccountQuery n s = _
    rw [execAccountQuery, inRange_of_not_mem (by omega)]
    rfl
  · change execAccountNextQuery (some n) s = _
    rw [execAccountNextQuery, numIn_of_not_mem (by omega)]
    rfl
  · refine (exec_accountNext high).trans ?_
    rw [filter_above_nil none_above]
    rfl
  · obtain ⟨w, mem', above', least, found⟩ := foldl_next (key := Account.number) (f := lesserAccount)
      (fun _ => rfl) (fun _ _ => rfl) mem above
    refine ⟨w, mem', above', least, (exec_accountNext high).trans ?_⟩
    rw [found]
    rfl
  · refine ⟨exec_accountAdd_param (.inr (.inl rfl)), accountWrite_param low high, accountWrite_param low high,
      accountWrite_param low high, accountWrite_param low high, fun x out => ?_, fun x out => ⟨?_, fun cs => ?_⟩,
      fun cs bad => ⟨?_, fun x => ?_⟩, fun limit cs small inside nodup => ?_, ?_⟩
    · change accountWrite (n : Int) (numIn 1 999999999 (some x)) s _ = _
      rw [numIn_of_not_mem (by omega)]
      exact accountWrite_param low high
    · change accountWrite (n : Int) (numIn 0 999999999 (some x)) s _ = _
      rw [numIn_of_not_mem (by omega)]
      exact accountWrite_param low high
    · exact exec_accountAdd_param (.inr (.inl (numIn_of_not_mem (by omega))))
    · change accountWrite (n : Int) (classList cs) s _ = _
      rw [classList_of_bad bad]
      exact accountWrite_param low high
    · exact exec_accountAdd_param (.inr (.inr (classList_of_bad bad)))
    · have judged : exec (.accountAdd n (some ((limit : Int), cs.map fun c : Nat => (c : Int)))) s =
          if (s.account? n).isSome then refuse .state s
          else if s.accounts.length < 128 then
            answer (.ok []) { s with accounts := s.accounts ++ [⟨n, 0, limit, .open, cs, 0⟩] }
          else refuse .full s := by
        change execAccountAdd _ _ s = _
        unfold execAccountAdd
        rw [inRange_of_mem (by omega) (by omega), Option.map_some, numIn_of_mem (by omega) small, Option.bind_some,
          classList_of_good inside nodup]
        rfl
      intro i
      split
      next there => exact judged.trans (if_pos there)
      next free =>
        rw [if_neg free] at judged
        split
        next full => exact judged.trans (if_neg (by omega))
        next room => exact judged.trans (if_pos (by omega))
    · cases found : s.account? n with
      | none =>
        refine ⟨(exec_accountDelete low high).trans (by rw [found]; rfl),
          (exec_accountQuery low high).trans (by rw [found]; rfl), fun x low' high' => ⟨?_, ?_⟩, ?_,
          fun cs inside nodup => ?_, fun w => ?_⟩
        · exact (accountCredit_eq low' high').trans (accountWrite_missing low high found _)
        · exact (accountLimit_eq high').trans (accountWrite_missing low high found _)
        · exact (accountLimit_eq (x := 0) (by omega)).trans (accountWrite_missing low high found _)
        · exact (accountClasses_eq inside nodup).trans (accountWrite_missing low high found _)
        · exact accountWrite_missing low high found _
      | some a =>
        refine ⟨(exec_accountQuery low high).trans (by rw [found]; rfl), fun busy => ?_, fun unused free => ?_,
          fun pending x low' high' w => ⟨?_, ?_, ?_, ?_⟩, fun pending => ⟨?_, fun cs inside nodup => ?_⟩,
          fun free => ⟨fun x low' high' => ?_, fun x high' => ?_, fun cs inside nodup => ?_, ?_, ?_, ?_⟩⟩
        · refine (exec_accountDelete low high).trans ?_
          rw [found]
          exact if_pos (by rwa [Bool.or_eq_true, bne_iff_ne])
        · refine (exec_accountDelete low high).trans ?_
          rw [found]
          refine (if_neg (by simp [unused, free])).trans ?_
          simp only [bne, Bool.beq_eq_decide_eq, ne_eq, decide_not]
          rfl
        · exact (accountCredit_eq low' high').trans (accountWrite_busy low high found pending _)
        · exact (accountLimit_eq high').trans (accountWrite_busy low high found pending _)
        · exact (accountClasses_eq (cs := []) (by simp) (by simp)).trans (accountWrite_busy low high found pending _)
        · exact accountWrite_busy low high found pending _
        · exact (accountLimit_eq (x := 0) (by omega)).trans (accountWrite_busy low high found pending _)
        · exact (accountClasses_eq inside nodup).trans (accountWrite_busy low high found pending _)
        · intro b st
          refine (accountCredit_eq low' high').trans ((accountWrite_free low high found free _).trans ?_)
          rw [modAccount_found found, clampedBalance]
          simp only [credit_eq]
          by_cases beyond : 999999999 < a.balance + (x : Int)
          · refine (if_pos beyond).trans ?_
            rw [if_pos beyond]
            rfl
          · refine (if_neg beyond).trans ?_
            rw [if_neg beyond]
            rfl
        · intro st
          refine (accountLimit_eq high').trans ((accountWrite_free low high found free _).trans ?_)
          rw [modAccount_found found]
          simp only [setLimit_eq]
          rfl
        · refine (accountClasses_eq inside nodup).trans ((accountWrite_free low high found free _).trans ?_)
          rw [modAccount_found found]
          rfl
        · have judged : exec (.accountStatus n (some .open)) s =
              if a.balance < -(a.limit : Int) then answer (.er .refused ["FUNDS"]) s
              else answer (.ok []) (s.modAccount a.number fun x => { x with status := .open }) :=
            accountWrite_free low high found free _
          split
          next owing => exact judged.trans (if_pos owing)
          next sound =>
            refine judged.trans ((if_neg sound).trans ?_)
            rw [modAccount_found found]
            rfl
        · refine (accountWrite_free low high found free _).trans ?_
          dsimp only
          rw [modAccount_found found]
          rfl
        · refine (accountWrite_free low high found free _).trans ?_
          dsimp only
          rw [modAccount_found found]
          rfl

end Sys2Proof.Machine
end

section
/-! PROOFS. Chapter 7, the tare and tariff tables' command lines (R129 to R131, R139). -/

namespace Sys2Proof.Machine

-- One declaration after another: at once they ask for more threads than the check's limits allow.
set_option Elab.async false

variable {s : State}

/-! ### Look-ups in the tare table (R130) -/

theorem tareOf?_go {g : Tag} {l : List (Option TareEntry)} {k i : Nat} {en : TareEntry}
    (h : State.tareOf?.go g k l = some (i, en)) : ∃ j, i = k + j ∧ l[j]? = some (some en) ∧ en.tag = g := by
  induction l generalizing k with
  | nil => simp [State.tareOf?.go] at h
  | cons x l ih =>
    have later (h : State.tareOf?.go g (k + 1) l = some (i, en)) :
        ∃ j, i = k + j ∧ (x :: l)[j]? = some (some en) ∧ en.tag = g := by
      obtain ⟨j, place, at_, tag⟩ := ih h
      exact ⟨j + 1, by omega, at_, tag⟩
    cases x with
    | none => exact later h
    | some y =>
      unfold State.tareOf?.go at h
      split at h
      next tag =>
        simp only [Option.some.injEq, Prod.mk.injEq] at h
        obtain ⟨rfl, rfl⟩ := h
        exact ⟨0, rfl, rfl, by simpa using tag⟩
      next => exact later h

/-- The entry found for a tag carries it, and stands at the index found (R130). -/
theorem tareOf?_spec {g : Tag} {i : Nat} {en : TareEntry} (h : s.tareOf? g = some (i, en)) :
    s.tares.table[i]? = some (some en) ∧ en.tag = g := by
  obtain ⟨j, place, at_, tag⟩ := tareOf?_go h
  rw [place, Nat.zero_add]
  exact ⟨at_, tag⟩

/-- An entry is older than another, or as old and not behind it. -/
def TareEntry.before (i : Nat) (x : TareEntry) (j : Nat) (y : TareEntry) : Prop :=
  x.stored < y.stored ∨ (x.stored = y.stored ∧ i ≤ j)

theorem TareEntry.before.of_older {i j k : Nat} {x y z : TareEntry} (h : x.before i j y)
    (older : y.stored < z.stored) : x.before i k z := by
  rcases h with h | ⟨h, -⟩
  · exact .inl (lt_trans h older)
  · exact .inl (lt_of_eq_of_lt h older)

theorem TareEntry.before.of_not_older {i j k : Nat} {x y z : TareEntry} (h : x.before i j y)
    (older : ¬ z.stored < y.stored) (place : j ≤ k) : x.before i k z := by
  rcases lt_or_eq_of_le (not_lt.mp older) with less | same
  · exact h.of_older less
  · rcases h with h | ⟨h, le⟩
    · exact .inl (lt_of_lt_of_eq h same)
    · exact .inr ⟨h.trans same, le.trans place⟩

theorem oldestTare_go (l : List (Option TareEntry)) (k : Nat) (b : Nat × TareEntry) (behind : b.1 < k) :
    ∃ i x, oldestTare.go k l (some b) = some (i, x)
      ∧ ((i, x) = b ∨ ∃ j, i = k + j ∧ l[j]? = some (some x))
      ∧ TareEntry.before i x b.1 b.2 ∧ ∀ j y, l[j]? = some (some y) → TareEntry.before i x (k + j) y := by
  induction l generalizing k b with
  | nil => exact ⟨b.1, b.2, rfl, .inl rfl, .inr ⟨rfl, le_refl _⟩, by simp⟩
  | cons a l ih =>
    cases a with
    | none =>
      obtain ⟨i, x, found, from_, le, least⟩ := ih (k + 1) b (by omega)
      refine ⟨i, x, found, ?_, le, fun j y at_ => ?_⟩
      · rcases from_ with same | ⟨j, place, at_⟩
        · exact .inl same
        · exact .inr ⟨j + 1, by omega, at_⟩
      · cases j with
        | zero => simp at at_
        | succ j =>
          have := least j y at_
          rwa [show k + 1 + j = k + (j + 1) by omega] at this
    | some a =>
      rw [oldestTare.go]
      by_cases older : a.stored < b.2.stored
      · rw [if_pos older]
        obtain ⟨i, x, found, from_, le, least⟩ := ih (k + 1) (k, a) (by simp)
        dsimp only at le
        refine ⟨i, x, found, .inr ?_, ?_, fun j y at_ => ?_⟩
        · rcases from_ with same | ⟨j, place, at_⟩
          · simp only [Prod.mk.injEq] at same
            obtain ⟨rfl, rfl⟩ := same
            exact ⟨0, rfl, rfl⟩
          · exact ⟨j + 1, by omega, at_⟩
        · exact le.of_older older
        · cases j with
          | zero =>
            simp only [List.getElem?_cons_zero, Option.some.injEq] at at_
            subst at_
            exact le
          | succ j =>
            have := least j y at_
            rwa [show k + 1 + j = k + (j + 1) by omega] at this
      · rw [if_neg older]
        obtain ⟨i, x, found, from_, le, least⟩ := ih (k + 1) b (by omega)
        refine ⟨i, x, found, ?_, le, fun j y at_ => ?_⟩
        · rcases from_ with same | ⟨j, place, at_⟩
          · exact .inl same
          · exact .inr ⟨j + 1, by omega, at_⟩
        · cases j with
          | zero =>
            simp only [List.getElem?_cons_zero, Option.some.injEq] at at_
            subst at_
            exact le.of_not_older older (by omega)
          | succ j =>
            have := least j y at_
            rwa [show k + 1 + j = k + (j + 1) by omega] at this

/-- The oldest entry of a full table, the lowest index deciding (R130). -/
theorem oldestTare_spec {l : List (Option TareEntry)} (some_ : l ≠ []) (full : ∀ x ∈ l, x ≠ none) :
    ∃ i x, oldestTare l = some (i, x) ∧ l[i]? = some (some x)
      ∧ ∀ j y, l[j]? = some (some y) → x.stored < y.stored ∨ (x.stored = y.stored ∧ i ≤ j) := by
  cases l with
  | nil => exact absurd rfl some_
  | cons a l =>
    obtain ⟨a, rfl⟩ := Option.ne_none_iff_exists'.mp (full a (by simp))
    obtain ⟨i, x, found, from_, le, least⟩ := oldestTare_go l 1 (0, a) (by simp)
    refine ⟨i, x, found, ?_, fun j y at_ => ?_⟩
    · rcases from_ with same | ⟨j, rfl, at_⟩
      · simp only [Prod.mk.injEq] at same
        obtain ⟨rfl, rfl⟩ := same
        rfl
      · rw [Nat.add_comm]
        exact at_
    · cases j with
      | zero =>
        simp only [List.getElem?_cons_zero, Option.some.injEq] at at_
        subst at_
        exact le
      | succ j =>
        have := least j y at_
        rwa [Nat.add_comm] at this

/-! ### Storing (R130) -/

section Store
variable {g : Tag} {kg n i : Nat} {src : TareSource}

/-- The table with an entry of the tag at an index. -/
def State.putTare (s : State) (i : Nat) (x : Option TareEntry) : State :=
  { s with tares := { s.tares with table := s.tares.table.set i x } }

theorem storeTare_own {en : TareEntry} (own : s.tareOf? g = some (i, en)) :
    storeTare g kg src n s = (i, none, s.putTare i (some ⟨g, kg, s.clock.now, src, n⟩)) := by
  unfold storeTare Tares.place
  rw [own]
  rfl

theorem storeTare_free (absent : s.tareOf? g = none) (free : s.tares.table.findIdx? (·.isNone) = some i) :
    storeTare g kg src n s = (i, none, s.putTare i (some ⟨g, kg, s.clock.now, src, n⟩)) := by
  unfold storeTare Tares.place freeTare
  rw [absent]
  dsimp only [Option.map_none]
  rw [free]
  rfl

theorem storeTare_replaces {old : TareEntry} (absent : s.tareOf? g = none)
    (full : ∀ x ∈ s.tares.table, x ≠ none) (oldest : oldestTare s.tares.table = some (i, old)) :
    storeTare g kg src n s = (i, some old.tag, offer .tareReplaced .none [tagText old.tag, tagText g]
      (s.putTare i (some ⟨g, kg, s.clock.now, src, n⟩))) := by
  have none_free : s.tares.table.findIdx? (·.isNone) = none := by
    rw [List.findIdx?_eq_none_iff]
    intro x mem
    have := full x mem
    cases x with
    | none => exact absurd rfl this
    | some _ => rfl
  unfold storeTare Tares.place freeTare
  rw [absent]
  dsimp only [Option.map_none]
  rw [none_free, oldest]
  rfl

end Store

/-! ### Class names (R139) -/

theorem dropWhile_spaces (j : Nat) (t : Text) :
    (List.replicate j ' ' ++ t).dropWhile (· == ' ') = t.dropWhile (· == ' ') := by
  induction j with
  | zero => rfl
  | succ j ih => rw [List.replicate_succ, List.cons_append, List.dropWhile_cons_of_pos (by decide), ih]

theorem dropWhile_of_head {t : Text} (h : t.head? ≠ some ' ') : t.dropWhile (· == ' ') = t := by
  cases t with
  | nil => rfl
  | cons c t => exact List.dropWhile_cons_of_neg (by simpa using h)

theorem trimSpaces_padded {t : Text} (some_ : t ≠ []) (head : t.head? ≠ some ' ') (last : t.getLast? ≠ some ' ')
    (j k : Nat) : trimSpaces (List.replicate j ' ' ++ t ++ List.replicate k ' ') = t := by
  have front : (t ++ List.replicate k ' ').head? ≠ some ' ' := by
    cases t with
    | nil => exact absurd rfl some_
    | cons c t => simpa using head
  unfold trimSpaces
  rw [List.append_assoc, dropWhile_spaces, dropWhile_of_head front, List.reverse_append, List.reverse_replicate,
    dropWhile_spaces, dropWhile_of_head (by rwa [List.head?_reverse]), List.reverse_reverse]

theorem trimSpaces_blank (j : Nat) : trimSpaces (List.replicate j ' ') = [] := by
  have blank := dropWhile_spaces j []
  rw [List.append_nil] at blank
  unfold trimSpaces
  rw [blank]
  rfl

theorem nameOf_padded {t : Text} (some_ : t ≠ []) (prints : t.all printable = true) (head : t.head? ≠ some ' ')
    (last : t.getLast? ≠ some ' ') (j k : Nat) :
    nameOf (List.replicate j ' ' ++ t ++ List.replicate k ' ') = if t.length ≤ 12 then some t else none := by
  have nonempty : 1 ≤ t.length := List.length_pos_iff.mpr some_
  unfold nameOf
  rw [trimSpaces_padded some_ head last]
  simp [nonempty, prints]

theorem nameOf_blank (j : Nat) : nameOf (List.replicate j ' ') = none := by
  unfold nameOf
  rw [trimSpaces_blank]
  rfl

/-! ### Class writes (R139) -/

theorem numIn_nat (lo hi n : Nat) :
    numIn lo hi (some (n : Int)) = if lo ≤ n ∧ n ≤ hi then some n else none := by
  split
  next h => exact numIn_of_mem h.1 h.2
  next h => exact numIn_of_not_mem (by omega)

section Class
variable {α : Type} {f : WasteClass → α → WasteClass} {c : Int}

theorem classWrite_none : classWrite c none f s = refuse .param s := by
  unfold classWrite
  cases inRange 0 15 c <;> rfl

theorem classWrite_outside (h : c < 0 ∨ 15 < c) (p : Option α) : classWrite c p f s = refuse .param s := by
  unfold classWrite
  rw [inRange_of_not_mem (by omega)]

theorem classWrite_some (low : 0 ≤ c) (high : c ≤ 15) (v : α) : classWrite c (some v) f s =
    answer (.ok []) { s with classes := s.classes.set c.toNat (f (s.cls c.toNat) v) } := by
  unfold classWrite
  rw [inRange_of_mem (by omega) (by omega)]

/-- A write of a number that is judged by a range. -/
theorem classWrite_judged (low : 0 ≤ c) (high : c ≤ 15) {P : Prop} [Decidable P] (v : α) :
    classWrite c (if P then some v else none) f s =
      .next ((if P then { s with classes := s.classes.set c.toNat (f (s.cls c.toNat) v) } else s).answered
        (if P then .ok [] else .er .param [])) := by
  by_cases h : P
  · rw [if_pos h, if_pos h, if_pos h, classWrite_some low high]
    rfl
  · rw [if_neg h, if_neg h, if_neg h, classWrite_none]
    rfl

end Class

/-! ### The lines -/

theorem exec_tareSet {g : Tag} {kg : Nat} (low : 1 ≤ kg) (high : kg ≤ 450000) :
    exec (.tareSet (some (g, (kg : Int)))) s =
      let r := storeTare g kg .preset s.metro.count s
      .next (r.2.2.answered (.ok (nat r.1 :: match r.2.1 with
        | none => []
        | some old => ["REPLACED", tagText old]))) := by
  change execTareSet (some (g, (kg : Int))) s = _
  unfold execTareSet
  dsimp only
  rw [inRange_of_mem (by omega) (by omega)]
  rfl

theorem tareFields_eq (i : Nat) (en : TareEntry) : tareFields s i en =
    [toString i, toString en.value, dateText en.stored, timeText en.stored, tareSourceWord en.source,
      toString en.count, if s.clock.now ≤ en.stored + s.tares.expiry * 86400 then "VALID" else "EXPIRED"] := by
  unfold tareFields State.tareValid
  simp only [decide_eq_true_eq]
  rfl

theorem exec_tareIndex {i : Nat} (high : i ≤ 255) : exec (.tareIndexQuery (i : Int)) s =
    match s.tares.table.getD i none with
    | none => answer (.ok ["FREE"]) s
    | some en => answer (.ok (tareFields s i en)) s := by
  change execTareIndexQuery (i : Int) s = _
  rw [execTareIndexQuery, inRange_of_mem (by omega) (by omega)]
  rfl

theorem exec_classRates {c i o : Int} : exec (.classRates c (some (i, o))) s =
    classWrite c (match numIn 0 100000 (some i), numIn 0 100000 (some o) with
      | some i, some o => some (i, o)
      | _, _ => none) (fun x (v : Nat × Nat) => { x with inRate := v.1, outRate := v.2 }) s := rfl

section ClassLines
variable {c : Int}

theorem exec_className {t : Text} : exec (.className c t) s =
    classWrite c (nameOf t) (fun x v => { x with name := v }) s := rfl

theorem exec_classMinimum {p : Option Int} : exec (.classMinimum c p) s =
    classWrite c (numIn 0 1000000 p) (fun x v => { x with minimum := v }) s := rfl

theorem exec_classLayout {p : Option Int} : exec (.classLayout c p) s =
    classWrite c (numIn 0 7 p) (fun x v => { x with layout := v }) s := rfl

theorem exec_classStages {p : Option Int} : exec (.classStages c p) s =
    classWrite c (numIn 1 3 p) (fun x v => { x with stages := v }) s := rfl

theorem exec_classOnepass {p : Option Bool} : exec (.classOnepass c p) s =
    classWrite c p (fun x v => { x with onePassOk := v }) s := rfl

theorem exec_classTareupdate {p : Option Bool} : exec (.classTareupdate c p) s =
    classWrite c p (fun x v => { x with updateTare := v }) s := rfl

theorem exec_classRates_opt {p : Option (Int × Int)} : exec (.classRates c p) s =
    classWrite c (match numIn 0 100000 (p.map (·.1)), numIn 0 100000 (p.map (·.2)) with
      | some i, some o => some (i, o)
      | _, _ => none) (fun x (v : Nat × Nat) => { x with inRate := v.1, outRate := v.2 }) s := rfl

end ClassLines

theorem classRates_low {c n m : Int} (low : n < 0) : Refused (.classRates c (some (n, m))) .param s
    ∧ Refused (.classRates c (some (m, n))) .param s := by
  refine ⟨exec_classRates.trans ?_, exec_classRates.trans ?_⟩
  · rw [numIn_of_not_mem (n := n) (by omega)]
    exact classWrite_none
  · rw [numIn_of_not_mem (n := n) (by omega)]
    cases numIn 0 100000 (some m) <;> exact classWrite_none

/-- Settles O32: the tare lines by where R130 stores, the class lines by the range of each field. -/
theorem tareAndClassCommands : Obligations.TareAndClassCommands := by
  unfold Obligations.TareAndClassCommands
  refine ⟨?_, ?_⟩
  · intro s g fields new put
    refine ⟨rfl, rfl, rfl, rfl, fun kg out => ?_, fun kg low high => ⟨fun i en own => ?_,
      fun i absent free => ?_, fun absent some_ full => ?_⟩, ?_, fun i out => ?_, fun i high => ?_, rfl,
      fun v => rfl, rfl⟩
    · change execTareSet (some (g, kg)) s = _
      unfold execTareSet
      dsimp only
      rw [inRange_of_not_mem (by omega)]
      rfl
    · refine (exec_tareSet low high).trans ?_
      rw [storeTare_own own]
      rfl
    · refine (exec_tareSet low high).trans ?_
      rw [storeTare_free absent free]
      rfl
    · obtain ⟨i, old, oldest, at_, least⟩ := oldestTare_spec some_ full
      refine ⟨i, old, at_, least, (exec_tareSet low high).trans ?_⟩
      rw [storeTare_replaces absent full oldest]
      rfl
    · cases found : s.tareOf? g with
      | none =>
        refine ⟨?_, ?_⟩
        · change execTareClear (some g) s = _
          simp only [execTareClear, found]
          rfl
        · change execTareFindQuery (some g) s = _
          simp only [execTareFindQuery, found]
          rfl
      | some p =>
        obtain ⟨i, en⟩ := p
        obtain ⟨at_, tag⟩ := tareOf?_spec found
        refine ⟨at_, tag, ?_, ?_⟩
        · change execTareClear (some g) s = _
          simp only [execTareClear, found]
          rfl
        · change execTareFindQuery (some g) s = _
          simp only [execTareFindQuery, found, tareFields_eq]
          rfl
    · change execTareIndexQuery i s = _
      rw [execTareIndexQuery, inRange_of_not_mem (by omega)]
      rfl
    · have shown := exec_tareIndex (s := s) high
      split
      next free =>
        rw [free] at shown
        exact shown
      next en there =>
        rw [there] at shown
        rw [show fields i en = tareFields s i en from (tareFields_eq i en).symm]
        exact shown
  · intro s c x put
    refine ⟨fun out t p a n k o u => ⟨exec_className.trans (classWrite_outside out _),
      exec_classRates_opt.trans (classWrite_outside out _), exec_classMinimum.trans (classWrite_outside out _),
      exec_classLayout.trans (classWrite_outside out _), exec_classStages.trans (classWrite_outside out _),
      exec_classOnepass.trans (classWrite_outside out _), exec_classTareupdate.trans (classWrite_outside out _), ?_⟩,
      fun low high => ⟨fun i o => ?_, fun a => ?_, fun n => ?_, fun n => ?_,
        fun b => ⟨exec_classOnepass.trans (classWrite_some low high b),
          exec_classTareupdate.trans (classWrite_some low high b)⟩,
        fun n neg => ⟨?_, ?_, ?_, fun m => classRates_low neg⟩, exec_classRates_opt.trans classWrite_none,
        exec_classMinimum.trans classWrite_none, exec_classLayout.trans classWrite_none,
        exec_classStages.trans classWrite_none, exec_classOnepass.trans classWrite_none,
        exec_classTareupdate.trans classWrite_none, fun t some_ prints head last j k => ?_, fun j => ?_, ?_⟩⟩
    · change execClassQuery c s = _
      rw [execClassQuery, inRange_of_not_mem (by omega)]
      rfl
    · refine exec_classRates.trans ?_
      rw [numIn_nat, numIn_nat]
      have judged := classWrite_judged (s := s) (f := fun x (v : Nat × Nat) => { x with inRate := v.1, outRate := v.2 })
        low high (P := i ≤ 100000 ∧ o ≤ 100000) (i, o)
      refine Eq.trans (congrArg (fun p => classWrite c p _ s) ?_) judged
      by_cases hi : i ≤ 100000 <;> by_cases ho : o ≤ 100000 <;> simp [hi, ho]
    · refine exec_classMinimum.trans ?_
      rw [numIn_nat]
      simp only [Nat.zero_le, true_and]
      exact classWrite_judged low high a
    · refine exec_classLayout.trans ?_
      rw [numIn_nat]
      simp only [Nat.zero_le, true_and]
      exact classWrite_judged low high n
    · refine exec_classStages.trans ?_
      rw [numIn_nat]
      exact classWrite_judged low high n
    · refine exec_classMinimum.trans ?_
      rw [numIn_of_not_mem (by omega)]
      exact classWrite_none
    · refine exec_classLayout.trans ?_
      rw [numIn_of_not_mem (by omega)]
      exact classWrite_none
    · refine exec_classStages.trans ?_
      rw [numIn_of_not_mem (by omega)]
      exact classWrite_none
    · intro i
      have named : exec i s = classWrite c (if t.length ≤ 12 then some t else none)
          (fun x v => { x with name := v }) s := by
        rw [← nameOf_padded some_ prints head last j k]
        rfl
      split
      next short =>
        rw [if_pos short] at named
        exact named.trans (classWrite_some low high t)
      next long =>
        rw [if_neg long] at named
        exact named.trans classWrite_none
    · refine exec_className.trans ?_
      rw [nameOf_blank]
      exact classWrite_none
    · change execClassQuery c s = _
      rw [execClassQuery, inRange_of_mem (by omega) (by omega)]
      rfl

end Sys2Proof.Machine
end

section
/-! PROOFS. Chapter 8, the yard clock: the calendar (R165, R166), the clock's second with every timer's
(R128, log entry 3), the battery monitor and CLOCK SET. -/

namespace Sys2Proof.Machine

-- One declaration after another: at once they ask for more threads than the check's limits allow.
set_option Elab.async false

variable {s : State}

/-! ### The calendar (R165) -/

theorem daysBefore_mono (year : Nat) : Monotone (daysBefore year) :=
  monotone_nat_of_le_succ fun _ => Nat.le_add_right _ _

/-- A day of the year is found in the month whose days it falls among. -/
theorem monthAndDay_eq {year d : Nat} (k : Nat) : ∀ {n x fuel : Nat},
    x + daysBefore year n = daysBefore year (n + k) + d → d < monthDays year (n + k + 1) → k < fuel →
      monthAndDay year fuel (n + 1) x = (n + k + 1, d + 1) := by
  induction k with
  | zero =>
    intro n x fuel sum inside enough
    obtain ⟨fuel, rfl⟩ := Nat.exists_eq_succ_of_ne_zero (Nat.ne_zero_of_lt enough)
    have same : x = d := by simpa [Nat.add_comm] using sum
    rw [same]
    exact if_pos inside
  | succ k ih =>
    intro n x fuel sum inside enough
    obtain ⟨fuel, rfl⟩ := Nat.exists_eq_succ_of_ne_zero (Nat.ne_zero_of_lt enough)
    have month : daysBefore year (n + 1) = daysBefore year n + monthDays year (n + 1) := rfl
    have later : daysBefore year (n + 1) ≤ daysBefore year (n + (k + 1)) := daysBefore_mono year (by omega)
    have place : n + (k + 1) = n + 1 + k := by omega
    refine (if_neg (by omega)).trans ?_
    rw [place] at sum inside later ⊢
    exact ih (by omega) inside (by omega)

theorem month_bounds {year month : Nat} (h : 1 ≤ monthDays year month) : 1 ≤ month ∧ month ≤ 12 := by
  by_contra out
  have : monthDays year month = 0 := by
    unfold monthDays
    split <;> omega
  omega

theorem daysBefore_year (year : Nat) : daysBefore year 12 = if year % 4 = 0 then 366 else 365 := by
  simp only [daysBefore, monthDays]
  split <;> rfl

theorem day_in_year {year month day : Nat} (some_ : 1 ≤ day) (inside : day ≤ monthDays year month) :
    daysBefore year (month - 1) + (day - 1) < if year % 4 = 0 then 366 else 365 := by
  obtain ⟨low, high⟩ := month_bounds (some_.trans inside)
  have upTo : daysBefore year month = daysBefore year (month - 1) + monthDays year month := by
    obtain ⟨m, rfl⟩ : ∃ m, month = m + 1 := ⟨month - 1, by omega⟩
    rfl
  have := daysBefore_mono year high
  rw [daysBefore_year] at this
  omega

/-- The year and the day of the year of a day. -/
theorem dateOf_year {year d month day : Nat} (first : 2000 ≤ year) (within : d < if year % 4 = 0 then 366 else 365)
    (found : monthAndDay year 12 1 d = (month, day)) :
    dateOf (yearStart (year - 2000) + d) = (year, month, day) := by
  have cycle : (yearStart (year - 2000) + d) / 1461 = (year - 2000) / 4 := by
    unfold yearStart
    split at within <;> omega
  unfold dateOf
  dsimp only
  rw [cycle]
  by_cases leap : year % 4 = 0
  · rw [if_pos leap] at within
    have rest : (yearStart (year - 2000) + d) % 1461 = d := by
      unfold yearStart
      omega
    rw [rest, if_pos within, if_pos within, show 2000 + 4 * ((year - 2000) / 4) + 0 = year by omega, found]
  · rw [if_neg leap] at within
    have rest : (yearStart (year - 2000) + d) % 1461 = 365 * ((year - 2000) % 4) + 1 + d := by
      obtain ⟨c, r, place, some_, few⟩ : ∃ c r, year - 2000 = 4 * c + r ∧ 1 ≤ r ∧ r ≤ 3 :=
        ⟨(year - 2000) / 4, (year - 2000) % 4, by omega, by omega, by omega⟩
      have whole : yearStart (4 * c + r) = 1461 * c + 365 * r + 1 := by
        unfold yearStart
        omega
      rw [place, whole, show (4 * c + r) % 4 = r by omega,
        show 1461 * c + 365 * r + 1 + d = 1461 * c + (365 * r + 1 + d) by omega, Nat.mul_add_mod]
      exact Nat.mod_eq_of_lt (by omega)
    have past : ¬ 365 * ((year - 2000) % 4) + 1 + d < 366 := by omega
    rw [rest, if_neg past, if_neg past,
      show (365 * ((year - 2000) % 4) + 1 + d - 366) / 365 + 1 = (year - 2000) % 4 by omega,
      show (365 * ((year - 2000) % 4) + 1 + d - 366) % 365 = d by omega,
      show 2000 + 4 * ((year - 2000) / 4) + (year - 2000) % 4 = year by omega, found]

/-- A date of 2000 to 2099 is the date of its day (R165). -/
theorem dateOf_day {year month day : Nat} (first : 2000 ≤ year) (some_ : 1 ≤ day)
    (inside : day ≤ monthDays year month) :
    dateOf (yearStart (year - 2000) + daysBefore year (month - 1) + (day - 1)) = (year, month, day) := by
  obtain ⟨low, high⟩ := month_bounds (some_.trans inside)
  have within := day_in_year some_ inside
  have found : monthAndDay year 12 1 (daysBefore year (month - 1) + (day - 1)) = (month, day) := by
    have := monthAndDay_eq (year := year) (d := day - 1) (month - 1) (n := 0)
      (x := daysBefore year (month - 1) + (day - 1)) (fuel := 12) (by rw [Nat.zero_add]; rfl)
      (by rw [Nat.zero_add, Nat.sub_add_cancel low]; omega) (by omega)
    rw [this, Nat.zero_add, Nat.sub_add_cancel low, Nat.sub_add_cancel some_]
  rw [Nat.add_assoc]
  exact dateOf_year first within found

/-- A day of 2000 to 2099 is one of 36,525. -/
theorem day_lt {year month day : Nat} (first : 2000 ≤ year) (last : year ≤ 2099) (some_ : 1 ≤ day)
    (inside : day ≤ monthDays year month) :
    yearStart (year - 2000) + daysBefore year (month - 1) + (day - 1) < 36525 := by
  have within := day_in_year some_ inside
  unfold yearStart
  split at within <;> omega

theorem time_of_day {days hour minute second : Nat} (d : days < 36525) (h : hour ≤ 23) (m : minute ≤ 59) (s : second ≤ 59) :
    days * 86400 + hour * 3600 + minute * 60 + second ≤ 3155759999
      ∧ (days * 86400 + hour * 3600 + minute * 60 + second) % 86400 / 3600 = hour
      ∧ (days * 86400 + hour * 3600 + minute * 60 + second) % 3600 / 60 = minute
      ∧ (days * 86400 + hour * 3600 + minute * 60 + second) % 60 = second :=
  ⟨by omega, by omega, by omega, by omega⟩

/-- Settles O42: the day within its year, the month within the day's, and the clock's division. -/
theorem calendarRoundTrip : Obligations.CalendarRoundTrip := by
  unfold Obligations.CalendarRoundTrip
  intro a m named
  unfold ClockArgs.moment? at named
  split at named
  next exists_ =>
    obtain ⟨first, last, some_, inside, hour, minute, second⟩ := exists_
    obtain ⟨low, high⟩ := month_bounds (some_.trans inside)
    have day := day_lt first last some_ inside
    have date := dateOf_day first some_ inside
    generalize yearStart (a.year - 2000) + daysBefore a.year (a.month - 1) + (a.day - 1) = days at named day date
    obtain rfl : days * 86400 + a.hour * 3600 + a.minute * 60 + a.second = m := Option.some.inj named
    rw [show (days * 86400 + a.hour * 3600 + a.minute * 60 + a.second) / 86400 = days by omega]
    obtain ⟨range, hours, minutes, seconds⟩ := time_of_day day hour minute second
    exact ⟨range, date, hours, minutes, seconds, low, high⟩
  next => exact absurd named (by simp)

/-! ### The clock's second, the battery monitor and CLOCK SET (R128, R165, R166) -/

/-- The report of a visit that overstays (R128). -/
def tellOverstay (s : State) (v : Visit) : State :=
  offer .overstay .none [toString v.number, tagText v.tag, visitStateWord v.state] s

theorem tellOverstays_frame (vs : List Visit) : ∀ {s : State},
    vs.foldl tellOverstay s = { s with reports := (vs.foldl tellOverstay s).reports } := by
  induction vs with
  | nil => intro s; rfl
  | cons v vs ih =>
    intro s
    obtain ⟨r, told⟩ := offer_frame s .overstay .none [toString v.number, tagText v.tag, visitStateWord v.state]
    rw [List.foldl_cons, ih, show tellOverstay s v = { s with reports := r } from told]

theorem tellOverstays_congr (vs : List Visit) : ∀ {s t : State}, t.reports = s.reports → t.clock = s.clock →
    (vs.foldl tellOverstay t).reports = (vs.foldl tellOverstay s).reports := by
  induction vs with
  | nil => intro s t reports _; exact reports
  | cons v vs ih =>
    intro s t reports clock
    exact ih (offer_reports_congr _ _ _ reports clock) (by simp [tellOverstay, clock])

/-- The test of the visits, its reports told from a state of the same reports and clock. -/
theorem overstayTest_eq (t : State) (reports : t.reports = s.reports) (clock : t.clock = s.clock) :
    overstayTest t = { t with
      visits := { t.visits with
        table := t.visits.table.map fun v =>
          if v.overstay = false ∧ v.opened + t.visits.overstay * 3600 ≤ t.clock.now then { v with overstay := true }
          else v }
      reports :=
        ((t.visits.table.filter fun v =>
          v.overstay = false ∧ v.opened + t.visits.overstay * 3600 ≤ t.clock.now).foldl tellOverstay s).reports } := by
  have due : Visit.overstays t.clock.now t.visits.overstay = fun v =>
      decide (v.overstay = false ∧ v.opened + t.visits.overstay * 3600 ≤ t.clock.now) := by
    funext v
    simp [Visit.overstays, Bool.decide_and]
  unfold overstayTest
  rw [due]
  refine (tellOverstays_frame _).trans ?_
  rw [tellOverstays_congr _ (s := s) (t := t.modVisits _) reports clock]
  simp only [State.modVisits, decide_eq_true_eq]

theorem changeClock_battery (low : Bool) (s : State) :
    changeClock (fun k => { k with batteryLow := low }) s =
      let k : State := { s with clock := { s.clock with batteryLow := low } }
      if s.clock.valid = true ∧ s.clock.batteryLow = false ∧ low = true then condArises .clock k
      else if s.clock.valid = true ∧ s.clock.batteryLow = true ∧ low = false then condEnds .clock k
      else k := by
  unfold changeClock YardClock.faulty
  cases valid : s.clock.valid <;> cases battery : s.clock.batteryLow <;> cases low <;> simp [valid]

/-- Settles O41: the timers' second, the overstay test, and the judgement of CLOCK SET. -/
theorem yardClockAdvancesAndIsSet : Obligations.YardClockAdvancesAndIsSet := by
  unfold Obligations.YardClockAdvancesAndIsSet
  intro s j now due less station unit at_
  have ticks : less = Timer.tick := by
    funext x
    cases x <;> rfl
  clear_value less
  subst ticks
  refine ⟨?_, fun low => congrArg _ (changeClock_battery low s), rfl, ?_⟩
  · exact congrArg Host.Outcome.next (overstayTest_eq (s := { s with clock := s.clock.advance })
      { tickTimers s with clock := s.clock.advance } rfl rfl)
  · intro p
    have line : exec (.clockSet p) s = execClockSet p s := rfl
    unfold execClockSet at line
    cases named : p.bind ClockArgs.moment? with
    | none =>
      rw [named] at line
      exact line
    | some m =>
      rw [named] at line
      dsimp only at line ⊢
      by_cases fault : s.journal.fault = true
      · rw [if_pos fault] at line ⊢
        exact line
      rw [if_neg fault] at line ⊢
      by_cases full : s.journal.full = true
      · rw [if_pos full] at line ⊢
        exact line
      rw [if_neg full] at line ⊢
      by_cases waits : s.journal.has .clock = true
      · rw [if_pos waits] at line ⊢
        exact line
      rw [if_neg waits] at line ⊢
      exact line

end Sys2Proof.Machine
end

section
/-! PROOFS. Chapter 8, the journal's read-back (R150, R167, R168) and the write arbiter's choice (R152 to
R154). -/

namespace Sys2Proof.Machine

-- One declaration after another: at once they ask for more threads than the check's limits allow.
set_option Elab.async false

variable {s : State} {j : Journal}

/-! ### Read-back (R150, R167, R168) -/

theorem exec_pageQuery_of_le {p : Nat} (h : p ≤ 63) : exec (.journalPageQuery (some p)) s =
    let pg := s.journal.page p
    let recs := recordsOf pg.used
    let shown := if pg.state = .erasing then [] else recs
    answer (.ok [pageWord pg.state, nat recs.length, nat (pg.used.length - recs.length),
      dash (fun r : Record => nat r.seq) shown.head?, dash (fun r : Record => nat r.seq) shown.getLast?]) s := by
  change execJournalPageQuery (some (p : Int)) s = _
  unfold execJournalPageQuery
  rw [numIn_of_mem (Nat.zero_le p) h]

theorem exec_pageQuery_refused {p : Int} (h : p < 0 ∨ 63 < p) : Refused (.journalPageQuery (some p)) .param s := by
  change execJournalPageQuery (some p) s = _
  rw [execJournalPageQuery, numIn_of_not_mem (by omega)]
  rfl

theorem exec_journalRead_refused {q : Int} (h : q < 1 ∨ 4294967295 < q) :
    Refused (.journalRead (some q)) .param s := by
  change execJournalRead (some q) s = _
  rw [execJournalRead, numIn_of_not_mem (by simp only [Config.lastSequence]; omega)]
  rfl

theorem exec_journalRead_of_mem {q : Nat} (low : 1 ≤ q) (high : q ≤ 4294967295) :
    exec (.journalRead (some q)) s = match s.journal.record? q with
      | none => refuse .notFound s
      | some r => answer (.ok r.fields) (s.modJournal fun j => { j with readPointer := q }) := by
  change execJournalRead (some (q : Int)) s = _
  rw [execJournalRead, numIn_of_mem (hi := Config.lastSequence) low high] <;> rfl

/-- JOURNAL READ s by whether a record of the sequence is held (R168). -/
theorem journalRead_spec {q : Nat} (low : 1 ≤ q) (high : q ≤ 4294967295) :
    ((∀ r ∈ s.journal.held, r.seq ≠ q) → Refused (.journalRead (some q)) .notFound s)
      ∧ ((∃ r ∈ s.journal.held, r.seq = q) → ∃ r ∈ s.journal.held, r.seq = q
          ∧ AnswersWith (.journalRead (some q)) (.ok r.fields) s
              { s with journal := { s.journal with readPointer := q } }) := by
  have line := exec_journalRead_of_mem (s := s) low high
  constructor
  · intro absent
    have none_ : s.journal.record? q = none := List.find?_eq_none.mpr fun r mem => by simpa using absent r mem
    rw [none_] at line
    exact line
  · rintro ⟨r, mem, seq⟩
    obtain ⟨x, found⟩ : ∃ x, s.journal.record? q = some x := Option.isSome_iff_exists.mp
      (List.find?_isSome.mpr ⟨r, mem, beq_iff_eq.mpr seq⟩ : (s.journal.record? q).isSome)
    rw [found] at line
    exact ⟨x, List.mem_of_find?_eq_some found, by simpa using List.find?_some found, line⟩

/-- JOURNAL NEXT? by whether a record above the read pointer is held (R168). -/
theorem journalNext_spec :
    ((∀ r ∈ s.journal.held, r.seq ≤ s.journal.readPointer) → Answers .journalNextQuery (.ok ["END"]) s)
      ∧ ((∃ r ∈ s.journal.held, s.journal.readPointer < r.seq) → ∃ r ∈ s.journal.held,
          s.journal.readPointer < r.seq
          ∧ (∀ x ∈ s.journal.held, s.journal.readPointer < x.seq → r.seq ≤ x.seq)
          ∧ AnswersWith .journalNextQuery (.ok r.fields) s
              { s with journal := { s.journal with readPointer := r.seq } }) := by
  have line : exec .journalNextQuery s = execJournalNextQuery s := rfl
  unfold execJournalNextQuery Journal.nextAbove at line
  constructor
  · intro none_above
    rw [filter_above_nil none_above] at line
    exact line
  · rintro ⟨a, mem, above⟩
    have left : a ∈ s.journal.held.filter fun r => decide (s.journal.readPointer < r.seq) :=
      List.mem_filter.mpr ⟨mem, decide_eq_true above⟩
    obtain ⟨r, found, at_, least⟩ := foldl_least (key := Record.seq) (f := lesser) (fun _ => rfl)
      (fun _ _ => rfl) left
    obtain ⟨mem', above'⟩ := List.mem_filter.mp at_
    rw [found] at line
    exact ⟨r, mem', of_decide_eq_true above',
      fun x hx ha => least x (List.mem_filter.mpr ⟨hx, decide_eq_true ha⟩), line⟩

/-- A record's fields in reply order (R150). -/
theorem record_fields (r : Record) :
    r.fields.take 7 = [nat r.seq, r.body.word, dateText r.stamp.time, timeText r.stamp.time,
        dash deckName r.stamp.deck, nat r.stamp.count, if r.stamp.lock then "L" else "-"]
      ∧ r.fields.drop 7 = r.body.fields r.stamp.time := ⟨rfl, rfl⟩

/-- The tare of a settlement as a record shows it (R150). -/
def tareShown : Option (Nat × TareSource) → String
  | some (w, .weighed) => toString w ++ "/WEIGHED"
  | some (w, .preset) => toString w ++ "/PRESET"
  | none => "-"

theorem dash_tare (tare : Option (Nat × TareSource)) :
    dash (fun t => nat t.1 ++ "/" ++ tareSourceWord t.2) tare = tareShown tare := by
  rcases tare with _ | ⟨w, _ | _⟩
  · rfl
  · exact String.append_assoc
  · exact String.append_assoc

/-- Settles O40: each line by the record it finds. -/
theorem journalIsReadBack : Obligations.JournalIsReadBack := by
  unfold Obligations.JournalIsReadBack
  intro s j point seqOf
  have dashed : seqOf = dash fun r : Record => nat r.seq := by
    funext r
    cases r <;> rfl
  clear_value seqOf
  subst dashed
  obtain ⟨unread, read⟩ := journalNext_spec (s := s)
  refine ⟨rfl, rfl, fun p => exec_pageQuery_refused, fun p => exec_pageQuery_of_le, rfl,
    fun q => exec_journalRead_refused, fun q => journalRead_spec, unread, read, fun r => ?_⟩
  obtain ⟨first, rest⟩ := record_fields r
  refine ⟨first.trans ?_, rest.trans ?_⟩
  · cases r.body <;> rfl
  · cases body : r.body with
    | settle c =>
      change c.fields = _
      rw [Settlement.fields, dash_tare]
      obtain ⟨visit, tag, account, cls, kind, first, second, tare, net, dir, charge, balance, flags, update⟩ := c
      cases update <;> rfl
    | calib c =>
      obtain ⟨cause, names⟩ := c
      cases cause <;> rfl
    | _ => rfl

/-! ### The write arbiter's choice (R152, R153) -/

/-- The place of a requester after the last granted. -/
def Requester.after (l q : Requester) : Nat := (q.index + 6 - l.index) % 7

theorem roundFrom_ordered (l : Requester) : l.roundFrom.Pairwise fun p q => l.after p ≤ l.after q := by
  rcases l with (_ | _) | (_ | _) | _ | _ | _ <;> decide

/-- What a round finds in a set is there, and first after the last granted (R152). -/
theorem round_first {l : Requester} {set : List Request} {r : Request}
    (found : (l.roundFrom.findSome? fun q => set.find? (·.requester == q)) = some r) :
    r ∈ set ∧ ∀ x ∈ set, l.after r.requester ≤ l.after x.requester := by
  obtain ⟨before, q, rest, round, here, earlier⟩ := List.findSome?_eq_some_iff.mp found
  have mem := List.mem_of_find?_eq_some here
  obtain rfl : r.requester = q := by simpa using List.find?_some here
  refine ⟨mem, fun x hx => ?_⟩
  have ordered := roundFrom_ordered l
  have stands := mem_roundFrom x.requester l
  rw [round] at ordered stands
  obtain ⟨-, tail, -⟩ := List.pairwise_append.mp ordered
  rcases List.mem_append.mp stands with early | late
  · have none_ := List.find?_eq_none.mp (earlier _ early) x hx
    simp at none_
  · rcases List.mem_cons.mp late with same | late
    · rw [same]
    · exact (List.pairwise_cons.mp tail).1 _ late

/-- The arbiter's choice: of attempt number 2 first, then of the preferred requester, then the first after
the last granted (R152, R153). -/
theorem choice_spec {r : Request} (chosen : j.choice = some r) :
    ((∃ x ∈ j.pending, x.attempt = 2) → r.attempt = 2)
      ∧ ((∀ x ∈ j.pending, x.attempt ≠ 2) →
          ((∃ x ∈ j.pending, preferCovers j.prefer x.requester = true) → preferCovers j.prefer r.requester = true)
          ∧ ∀ x ∈ j.pending, (preferCovers j.prefer r.requester = true → preferCovers j.prefer x.requester = true) →
              j.lastGranted.after r.requester ≤ j.lastGranted.after x.requester) := by
  unfold Journal.choice at chosen
  cases second : j.pending.find? (·.attempt == 2) with
  | some x =>
    rw [second] at chosen
    obtain rfl : x = r := Option.some.inj chosen
    have two : x.attempt = 2 := by simpa using List.find?_some second
    exact ⟨fun _ => two, fun first => absurd two (first x (List.mem_of_find?_eq_some second))⟩
  | none =>
    rw [second] at chosen
    dsimp only at chosen
    have first : ∀ x ∈ j.pending, x.attempt ≠ 2 := fun x hx => by
      simpa using List.find?_eq_none.mp second x hx
    refine ⟨fun ⟨x, hx, two⟩ => absurd two (first x hx), fun _ => ?_⟩
    by_cases none_ : (j.pending.filter fun r => preferCovers j.prefer r.requester).isEmpty = true
    · rw [if_pos none_, ] at chosen
      obtain ⟨-, least⟩ := round_first chosen
      refine ⟨fun ⟨x, hx, covered⟩ => ?_, fun x hx _ => least x hx⟩
      have := List.filter_eq_nil_iff.mp (List.isEmpty_iff.mp none_) x hx
      exact absurd covered this
    · rw [if_neg none_] at chosen
      obtain ⟨mem, least⟩ := round_first chosen
      have covered := (List.mem_filter.mp mem).2
      exact ⟨fun _ => covered, fun x hx also => least x (List.mem_filter.mpr ⟨hx, also covered⟩)⟩

theorem canGrant_iff : j.canGrant = true ↔
    j.scanDone = true ∧ j.inProgress = none ∧ j.fault = false ∧ j.full = false ∧ j.pending ≠ [] := by
  simp [Journal.canGrant, Journal.normal, and_assoc]

theorem suspend_eq (e : EraseState) : e.suspend = if e = .running then .suspended else e := by
  cases e <;> rfl

theorem others_eq (q : Requester) :
    (fun x : Request => x.requester != q) = fun x => decide (x.requester ≠ q) := by
  funext x
  rw [decide_not, bne, ← beq_eq_decide]

/-- Settles O35: the choice of R152, and the grant's effect. -/
theorem journalGrantChoosesRequest : Obligations.JournalGrantChoosesRequest := by
  unfold Obligations.JournalGrantChoosesRequest
  intro s j may after covered
  rcases execJournalGrant_cases s with ⟨idle, stays⟩ | ⟨r, mem, chosen, grants⟩
  · have cannot : ¬ s.journal.canGrant = true := Bool.not_eq_true _ ▸ idle
    exact ⟨fun _ => stays, fun can => absurd (canGrant_iff.mpr can) cannot⟩
  · have grant : exec .journalGrant s = .next _ := grants
    rw [suspend_eq, others_eq] at grant
    by_cases can : may
    · exact ⟨fun cannot => absurd can cannot, fun _ => ⟨r, mem, grant, choice_spec chosen⟩⟩
    · have cannot : ¬ s.journal.canGrant = true := fun h => can (canGrant_iff.mp h)
      have stays : execJournalGrant s = .next s := if_neg cannot
      exact ⟨fun _ => stays, fun h => absurd h can⟩

end Sys2Proof.Machine
end

section
/-! PROOFS. Chapter 8, what a write does: the slot it uses, the page that follows a full one, the level
reports, and what the requester's owner leaves of the journal (R148, R149, R154 to R157). -/

namespace Sys2Proof.Machine

-- One declaration after another: at once they ask for more threads than the check's limits allow.
set_option Elab.async false

variable {s t u : State} {j k : Journal} {d : Deck} {i : Nat}

/-! ### The ring (R148) -/

theorem page_congr (pages : k.pages = j.pages) (m : Nat) : k.page m = j.page m := by
  unfold Journal.page
  rw [pages]

theorem firstAfter_eq (st : PageState) : j.firstAfter i st =
    ((List.range 64).find? fun m => (j.page ((i + 1 + m) % 64)).state == st).map fun m => (i + 1 + m) % 64 := by
  unfold Journal.firstAfter ringAfter
  rw [List.find?_map]
  rfl

theorem firstAfter_some {m : Nat} {st : PageState} (low : m < 64) (here : (j.page ((i + 1 + m) % 64)).state = st)
    (before : ∀ x, x < m → ¬ (j.page ((i + 1 + x) % 64)).state = st) :
    j.firstAfter i st = some ((i + 1 + m) % 64) := by
  rw [firstAfter_eq, List.find?_range_eq_some.mpr ⟨by simpa using here, by simpa using low, fun x hx => ?_⟩]
  · rfl
  · simpa using before x hx

theorem firstAfter_none {st : PageState} (none_ : ∀ m, m < 64 → ¬ (j.page ((i + 1 + m) % 64)).state = st) :
    j.firstAfter i st = none := by
  rw [firstAfter_eq, List.find?_eq_none.mpr fun m hm => ?_]
  · rfl
  · simpa using none_ m (List.mem_range.mp hm)

theorem firstAfter_congr {st : PageState} (same : ∀ m, (k.page m).state = st ↔ (j.page m).state = st) :
    k.firstAfter i st = j.firstAfter i st := by
  unfold Journal.firstAfter
  congr 1
  funext m
  exact Bool.eq_iff_iff.mpr (by simpa using same m)

theorem hasCurrent_iff : j.hasCurrent = true ↔ ∃ m, m < j.pages.length ∧ (j.page m).state = .current := by
  unfold Journal.hasCurrent Journal.page
  rw [List.any_eq_true]
  constructor
  · rintro ⟨p, mem, current⟩
    obtain ⟨m, bound, rfl⟩ := List.mem_iff_getElem.mp mem
    exact ⟨m, bound, by simpa [bound] using current⟩
  · rintro ⟨m, bound, current⟩
    refine ⟨j.pages[m], List.getElem_mem bound, by simpa [bound] using current⟩

/-! ### The use of a slot (R148) -/

/-- What the use of a slot of the CURRENT page makes of the pages. -/
def SlotUsed (j : Journal) (i : Nat) (sl : Slot) (k : Journal) : Prop :=
  let n := (j.page i).used.length
  let erased (m : Nat) : Prop := (j.page ((i + 1 + m) % 64)).state = .erased
  let others (x : Nat) : Prop := ∀ m, m ≠ i → m ≠ x → k.page m = j.page m
  (k.page i).used = (j.page i).used ++ [sl]
    ∧ (n < 255 → (k.page i).state = .current ∧ k.newest = j.newest ∧ others i)
    ∧ (255 ≤ n → (k.page i).state = .filled)
    ∧ (255 ≤ n → j.pages.length = 64 →
        (∀ m, m < 64 → erased m → (∀ x, x < m → ¬ erased x) →
          let x := (i + 1 + m) % 64
          k.page x = { state := .current, used := [] } ∧ k.newest = x ∧ others x)
        ∧ ((∀ m, m < 64 → ¬ erased m) → k.newest = i ∧ others i
            ∧ ((∀ m, m ≠ i → (j.page m).state ≠ .current) → k.full = true)))

theorem useSlot_room (sl : Slot) (room : (j.page i).used.length < 255) :
    j.useSlot i sl = j.setPage i { state := .current, used := (j.page i).used ++ [sl] } := by
  unfold Journal.useSlot
  dsimp only
  rw [if_pos (by simpa [Config.slotsPerPage] using Nat.succ_lt_succ room)]

/-- The journal with its page filled. -/
def Journal.fill (j : Journal) (i : Nat) (sl : Slot) : Journal :=
  j.setPage i { state := .filled, used := (j.page i).used ++ [sl] }

theorem useSlot_last (sl : Slot) (last : 255 ≤ (j.page i).used.length) :
    j.useSlot i sl = match (j.fill i sl).firstAfter i .erased with
      | some k => { (j.fill i sl).setPage k { state := .current, used := [] } with newest := k }
      | none => { j.fill i sl with newest := i } := by
  unfold Journal.useSlot
  dsimp only
  rw [if_neg (by simp [Config.slotsPerPage]; omega)] <;> rfl

theorem fill_firstAfter (sl : Slot) (current : (j.page i).state = .current) (bound : i < j.pages.length) :
    (j.fill i sl).firstAfter i .erased = j.firstAfter i .erased := by
  refine firstAfter_congr fun m => ?_
  unfold Journal.fill
  by_cases here : m = i
  · subst here
    rw [setPage_page _ _ _ bound, current]
    simp
  · rw [setPage_page_of_ne _ _ here]

theorem full_of_no_current (h : j.hasCurrent = false) : j.full = true := by
  simp [Journal.full, h]

/-- A slot used, whatever else of the journal is written with it. -/
theorem useSlot_used {sl : Slot} (current : (j.page i).state = .current) (bound : i < j.pages.length)
    (pages : k.pages = (j.useSlot i sl).pages) (newest : k.newest = (j.useSlot i sl).newest) :
    SlotUsed j i sl k := by
  obtain ⟨used, state, -⟩ := useSlot_spec j i sl bound
  have page := page_congr pages
  unfold SlotUsed
  simp only [page, newest]
  refine ⟨used, fun room => ?_, fun last => state.trans (if_neg (by omega)), fun last length =>
    ⟨fun m low erased before => ?_, fun none_ => ?_⟩⟩
  · refine ⟨state.trans (if_pos room), ?_, fun m ne _ => ?_⟩ <;> rw [useSlot_room sl room]
    · rfl
    · exact setPage_page_of_ne _ _ ne
  · have next := (fill_firstAfter sl current bound).trans (firstAfter_some low erased before)
    have away : (i + 1 + m) % 64 ≠ i := fun h => by simp [h, current] at erased
    rw [useSlot_last sl last, next]
    dsimp only
    refine ⟨setPage_page _ _ _ ?_, rfl, fun x one two => ?_⟩
    · simp only [Journal.fill, Journal.setPage, List.length_set]
      omega
    · exact (setPage_page_of_ne _ _ two).trans (setPage_page_of_ne _ _ one)
  · rw [useSlot_last sl last, (fill_firstAfter sl current bound).trans (firstAfter_none none_)]
    dsimp only
    have elsewhere : ∀ m, m ≠ i → (j.fill i sl).page m = j.page m := fun m ne => setPage_page_of_ne _ _ ne
    refine ⟨rfl, fun m ne _ => elsewhere m ne, fun alone => full_of_no_current ?_⟩
    rw [← Bool.not_eq_true, hasCurrent_iff]
    rintro ⟨m, -, here⟩
    rw [page m, useSlot_last sl last, (fill_firstAfter sl current bound).trans (firstAfter_none none_)] at here
    by_cases same : m = i
    · subst same
      have filled : ((j.fill m sl).page m).state = .filled := by rw [Journal.fill, setPage_page _ _ _ bound]
      exact absurd (here.symm.trans filled) (by decide)
    · exact alone m same (elsewhere m same ▸ here)

/-! ### The level reports (R157) -/

/-- JOURNAL_LOW where the erased pages come to stand at or below the threshold. -/
def lowTold (j k : Journal) (s : State) : State :=
  if j.low < j.erasedCount ∧ k.erasedCount ≤ j.low then
    offer .journalLow .none [toString k.erasedCount, toString j.low] s
  else s

/-- JOURNAL_FULL where the journal enters FULL. -/
def fullTold (j k : Journal) (s : State) : State :=
  if k.fault = false ∧ k.full = true ∧ ¬ (j.fault = false ∧ j.full = true) then
    offer .journalFull .none [toString (k.nextSeq - 1)] s
  else s

theorem word_full_iff : j.word = "FULL" ↔ j.fault = false ∧ j.full = true := by
  unfold Journal.word
  cases j.fault <;> cases j.full <;> simp

theorem levelReports_told (low : s.journal.low = j.low) :
    levelReports j s = fullTold j s.journal (lowTold j s.journal s) := by
  unfold levelReports fullTold lowTold
  simp only [word_full_iff, ne_eq, low, and_assoc]
  rfl

theorem lowTold_congr (j k : Journal) (reports : t.reports = s.reports) (clock : t.clock = s.clock) :
    (lowTold j k t).reports = (lowTold j k s).reports := by
  unfold lowTold
  split
  exacts [offer_reports_congr _ _ _ reports clock, reports]

theorem fullTold_congr (j k : Journal) (reports : t.reports = s.reports) (clock : t.clock = s.clock) :
    (fullTold j k t).reports = (fullTold j k s).reports := by
  unfold fullTold
  split
  exacts [offer_reports_congr _ _ _ reports clock, reports]

theorem lowTold_clock (j k : Journal) (s : State) : (lowTold j k s).clock = s.clock := by
  unfold lowTold
  split <;> simp

/-- The level reports of a journal changed in `t`, told from a state of the same reports and clock. -/
theorem levelReports_reports (low : t.journal.low = j.low) (reports : t.reports = s.reports)
    (clock : t.clock = s.clock) :
    (levelReports j t).reports = (fullTold j t.journal (lowTold j t.journal s)).reports := by
  rw [levelReports_told low]
  exact fullTold_congr _ _ (lowTold_congr _ _ reports clock) (by rw [lowTold_clock, lowTold_clock, clock])

/-! ### What the owners leave of the journal (R154) -/

/-- `t` has of `s` the whole journal but for the pending requests, and its reports and perhaps more. -/
structure Aside (s t : State) : Prop where
  journal : ∃ ps, t.journal = { s.journal with pending := ps }
  reports : Reported s t

theorem Aside.of_eq (journal : t.journal = s.journal) (reports : Reported s t) : Aside s t :=
  ⟨⟨s.journal.pending, journal⟩, reports⟩

theorem Aside.refl (s : State) : Aside s s := .of_eq rfl (.of_eq rfl)

theorem Aside.trans (h : Aside s t) (k : Aside t u) : Aside s u := by
  obtain ⟨⟨ps, hj⟩, hr⟩ := h
  obtain ⟨⟨qs, kj⟩, kr⟩ := k
  exact ⟨⟨qs, by rw [kj, hj]⟩, hr.trans kr⟩

/-- An update outside the journal and the report queue. -/
theorem Aside.of_same (journal : t.journal = s.journal) (reports : t.reports = s.reports) : Aside s t :=
  .of_eq journal (.of_eq reports)

theorem aside_offer (k : ReportKind) (x : Subject) (ps : List String) (s : State) : Aside s (offer k x ps s) :=
  .of_eq (by simp) (reported_offer k x ps s)

theorem Aside.offer (h : Aside s t) {k : ReportKind} {x : Subject} {ps : List String} :
    Aside s (Machine.offer k x ps t) := h.trans (aside_offer k x ps t)

theorem aside_journalRequest (r : Requester) (x : Option Deck) (b : Body) (s : State) :
    Aside s (journalRequest r x b s) := ⟨⟨_, rfl⟩, .of_eq rfl⟩

theorem Aside.request (h : Aside s t) {r : Requester} {x : Option Deck} {b : Body} :
    Aside s (journalRequest r x b t) := h.trans (aside_journalRequest r x b t)

theorem aside_enterDeparting (d : Deck) (s : State) : Aside s (enterDeparting d s) := by
  refine .of_eq ?_ (reported_enterDeparting d s)
  unfold enterDeparting
  split
  · exact (raiseRequest_driverOnly _ _).journal
  · rfl

theorem aside_testRelease (d : Deck) (s : State) : Aside s (testRelease d s) := by
  unfold testRelease
  split
  exacts [aside_enterDeparting d s, .refl s]

theorem aside_handOver (w : Committed) (s : State) : Aside s (handOver d w s) := by
  have leaves {t : State} (h : Aside s t) : Aside s (enterDeparting d t) := h.trans (aside_enterDeparting d t)
  have noted : Aside s (s.modSeq d fun q => { q with weighing := some w }) := .of_same rfl rfl
  unfold handOver
  dsimp only
  split
  · split
    · exact leaves (.of_same rfl rfl)
    · split
      · split
        · exact .of_same rfl rfl
        · exact leaves (.of_same rfl rfl)
      · exact leaves (.of_same rfl rfl)
    · exact .of_same rfl rfl
    · exact .refl s
    · exact .refl s
  · exact .refl s

theorem Aside.handOver (h : Aside s t) {w : Committed} : Aside s (Machine.handOver d w t) :=
  h.trans (aside_handOver w t)

theorem aside_stageDone (q k n : Nat) (v : Int) (s : State) : Aside s (stageDone d q v k n s) := by
  have told : Aside s (stageReport d q v k n s) := aside_offer _ _ _ s
  unfold stageDone
  dsimp only
  split
  · exact told.trans (.of_same rfl rfl)
  · split
    · exact told.trans (.of_same rfl rfl)
    · refine Aside.request ?_
      exact told.trans (.of_same rfl rfl)
    · exact told

theorem aside_weighDone (q count n : Nat) (v : Int) (r : Role) (staged : Bool) (s : State) :
    Aside s (weighDone d q count v r n staged s) := by
  unfold weighDone
  dsimp only
  split
  · exact (aside_offer _ _ _ s).trans (.of_same rfl rfl)
  · split
    · refine Aside.handOver ?_
      exact (aside_offer _ _ _ s).trans (.of_same rfl rfl)
    · exact aside_offer _ _ _ s

theorem aside_debitAccount (c : Settlement) (s : State) : Aside s (debitAccount c s) := by
  unfold debitAccount
  split
  · exact .refl s
  · dsimp only
    split
    · refine Aside.offer ?_
      exact .of_same rfl rfl
    · exact .of_same rfl rfl

theorem aside_updateTare (c : Settlement) (s : State) : Aside s (updateTare c s) := by
  unfold updateTare storeTare
  split
  · exact .refl s
  · dsimp only
    split
    · exact .of_same rfl rfl
    · refine Aside.offer ?_
      exact .of_same rfl rfl

theorem aside_settleVisit (c : Settlement) (s : State) : Aside s (settleVisit c s) := by
  unfold settleVisit
  split <;> exact .of_same rfl rfl

theorem aside_settlementJob (x : Job) (s : State) : Aside s (settlementJob d x s).2 := by
  unfold settlementJob
  split
  · exact .of_same rfl rfl
  · exact aside_offer _ _ _ s

theorem aside_settleDone (r : Record) (c : Settlement) (s : State) : Aside s (settleDone d r c s) := by
  have settled (t : State) : Aside t (settleVisit c (updateTare c (debitAccount c t))) :=
    ((aside_debitAccount c t).trans (aside_updateTare c _)).trans (aside_settleVisit c _)
  unfold settleDone
  dsimp only
  generalize placed : placeOutcome r (s.modSeq d _) = t
  have first : Aside s t := by
    rw [← placed]
    exact .of_same rfl rfl
  have printed {x : Job} := ((first.trans (settled t)).offer (k := .settled) (x := .deck d)
    (ps := settledParams r.seq c)).trans (aside_settlementJob (d := d) x _)
  split
  · exact printed
  · refine Aside.trans ?_ (aside_testRelease d _)
    exact printed.trans (.of_same rfl rfl)

theorem aside_abandonedDone (r : Record) (c : Settlement) (s : State) : Aside s (abandonedDone r c s) := by
  refine Aside.offer (Aside.trans ?_ (aside_settleVisit c _))
  exact .of_same rfl rfl

theorem aside_calibWritten (s : State) : Aside s (calibWritten s) := by
  unfold calibWritten
  dsimp only
  split
  · exact ⟨⟨_, rfl⟩, .of_eq rfl⟩
  · exact .of_same rfl rfl

theorem condArises_journal (f : FaultSource) (s : State) : (condArises f s).journal = s.journal := by
  obtain ⟨v, r, frame, -⟩ := condArises_spec s f
  rw [frame]

theorem condArises_clock (f : FaultSource) (s : State) : (condArises f s).clock = s.clock := by
  obtain ⟨v, r, frame, -⟩ := condArises_spec s f
  rw [frame]

theorem condEnds_journal (f : FaultSource) (s : State) : (condEnds f s).journal = s.journal := by
  obtain ⟨v, r, frame⟩ := signal_frame s f .ends
  exact (congrArg State.journal frame :)

theorem aside_changeClock (f : YardClock → YardClock) (s : State) : Aside s (changeClock f s) := by
  unfold changeClock
  dsimp only
  split
  · exact .of_eq (condArises_journal _ _) ((Reported.of_eq (s := s) rfl).trans (reported_condArises _ _))
  · exact .of_eq (condEnds_journal _ _) ((Reported.of_eq (s := s) rfl).trans (reported_condEnds _ _))
  · exact .of_same rfl rfl

theorem reported_tellOverstays (vs : List Visit) : ∀ {s : State}, Reported s (vs.foldl tellOverstay s) := by
  induction vs with
  | nil => intro s; exact .of_eq rfl
  | cons v vs ih => intro s; exact (reported_offer _ _ _ s).trans ih

theorem aside_overstayTest (s : State) : Aside s (overstayTest s) := by
  rw [overstayTest_eq (s := s) s rfl rfl]
  exact .of_eq rfl (reported_tellOverstays _)

/-- Whatever the owner does, the store, the sequence and the journal's state stand (R154). -/
theorem aside_ownerDone (q : Requester) (r : Record) (s : State) : Aside s (ownerDone q r s) := by
  unfold ownerDone
  split
  · exact aside_stageDone _ _ _ _ s
  · exact aside_weighDone _ _ _ _ _ _ s
  · exact aside_settleDone r _ s
  · exact aside_abandonedDone r _ s
  · exact aside_calibWritten s
  · exact (aside_changeClock _ s).trans (aside_overstayTest _)
  · exact .refl s

/-! ### The two ends of a write (R154, R155) -/

theorem exec_writes_idle (h : s.journal.inProgress = none ∨ s.journal.current? = none) :
    exec .appendComplete s = .next s ∧ exec .writeFailure s = .next s := by
  change execAppendComplete s = _ ∧ execWriteFailure s = _
  unfold execAppendComplete execWriteFailure
  rcases h with h | h <;> rw [h]
  · exact ⟨rfl, rfl⟩
  · cases s.journal.inProgress <;> exact ⟨rfl, rfl⟩

/-- The state in which the owner learns of the completion (R154). -/
def written (r : Record) (i : Nat) (s : State) : State :=
  levelReports s.journal (s.modJournal fun j => j.write i r)

theorem exec_append {a : Append} (going : s.journal.inProgress = some a) (current : s.journal.current? = some i) :
    exec .appendComplete s = .next (ownerDone a.request.requester
      { seq := s.journal.nextSeq, stamp := a.stamp, body := a.request.body }
      (written { seq := s.journal.nextSeq, stamp := a.stamp, body := a.request.body } i s)) := by
  change execAppendComplete s = _
  unfold execAppendComplete
  rw [going, current]
  rfl

theorem written_frame (r : Record) : ∃ x, written r i s =
    { s with journal := s.journal.write i r, reports := x } :=
  levelReports_frame s.journal (s.modJournal fun j => j.write i r)

theorem written_reports (r : Record) : (written r i s).reports =
    (fullTold s.journal (s.journal.write i r) (lowTold s.journal (s.journal.write i r) s)).reports := by
  obtain ⟨ps, n, used⟩ := useSlot_rest (j := s.journal) i (.written r)
  exact levelReports_reports (t := s.modJournal fun j => j.write i r)
    (by rw [State.modJournal_journal, Journal.write, used]) rfl rfl

theorem write_eq (r : Record) : ∃ ps n, j.write i r =
    { j with pages := ps, newest := n, inProgress := none, nextSeq := j.nextSeq + 1 } := by
  obtain ⟨ps, n, used⟩ := useSlot_rest (j := j) i (.written r)
  exact ⟨ps, n, by rw [Journal.write, used]⟩

/-- The journal after a failed write (R155). -/
def failedWrite (a : Append) (i : Nat) (j : Journal) : Journal :=
  { j.useSlot i .void with inProgress := none, pending := j.pending ++ [{ a.request with attempt := 2 }] }

theorem failedWrite_eq (a : Append) (i : Nat) (j : Journal) : ∃ ps n, failedWrite a i j = { j with
    pages := ps, newest := n, inProgress := none, pending := j.pending ++ [{ a.request with attempt := 2 }] } := by
  obtain ⟨ps, n, used⟩ := useSlot_rest (j := j) i .void
  exact ⟨ps, n, by rw [failedWrite, used]⟩

theorem exec_failure {a : Append} (going : s.journal.inProgress = some a) (current : s.journal.current? = some i) :
    exec .writeFailure s = .next (levelReports s.journal (if a.request.attempt = 1
      then s.modJournal (failedWrite a i) else journalFault (s.modJournal (failedWrite a i)))) := by
  change execWriteFailure s = _
  unfold execWriteFailure
  rw [going, current]
  rfl

/-- A failed write but for its level reports (R155, R156). -/
def failed (a : Append) (i : Nat) (s : State) : State :=
  if a.request.attempt = 1 then s.modJournal (failedWrite a i) else journalFault (s.modJournal (failedWrite a i))

theorem failed_first {a : Append} (first : a.request.attempt = 1) :
    failed a i s = { s with journal := failedWrite a i s.journal } := if_pos first

/-- A condition that arises, told from a state of the same faults, reports and clock. -/
theorem condArises_told (f : FaultSource) (faults : t.faults = s.faults) (reports : t.reports = s.reports)
    (clock : t.clock = s.clock) :
    condArises f t = { t with faults := (condArises f s).faults, reports := (condArises f s).reports } := by
  obtain ⟨same, told⟩ := condArises_congr f faults reports clock
  obtain ⟨v, r, frame, -⟩ := condArises_spec t f
  rw [← same, ← told, frame]

theorem condArises_active (f : FaultSource) (s : State) : ((condArises f s).faults.get f).state = .active := by
  obtain ⟨v, r, frame, active, -⟩ := condArises_spec s f
  rw [frame]
  exact (congrArg FaultEntry.state (FaultTable.get_set ..)).trans active

theorem journalFault_told (faults : t.faults = s.faults) (reports : t.reports = s.reports)
    (clock : t.clock = s.clock) : journalFault t = { t with
      journal := { t.journal with fault := true, erase := t.journal.erase.suspend }
      faults := (condArises .journal s).faults, reports := (condArises .journal s).reports } :=
  condArises_told (t := t.modJournal fun j => { j with fault := true, erase := j.erase.suspend }) .journal faults
    reports clock

theorem failed_second {a : Append} (second : a.request.attempt ≠ 1) : failed a i s = { s with
    journal := { failedWrite a i s.journal with fault := true, erase := s.journal.erase.suspend }
    faults := (condArises .journal s).faults, reports := (condArises .journal s).reports } := by
  obtain ⟨ps, p, rest⟩ := failedWrite_eq a i s.journal
  have erase : (failedWrite a i s.journal).erase = s.journal.erase := by rw [rest]
  rw [failed, if_neg second, journalFault_told (s := s) (t := s.modJournal (failedWrite a i)) rfl rfl rfl]
  generalize condArises .journal s = u
  simp only [State.modJournal, erase]

/-- Settles O36: the slot used, the level reports, and the failed request's second attempt. -/
theorem writesUseOneSlot : Obligations.WritesUseOneSlot := by
  unfold Obligations.WritesUseOneSlot
  intro s j
  refine ⟨exec_writes_idle, ?_⟩
  intro a i going current n erased others used low full
  obtain ⟨state, -, bound⟩ := firstAfter_spec j current
  have slot {k : Journal} {sl : Slot} := useSlot_used (k := k) (sl := sl) state (bound (by decide))
  refine ⟨?_, ?_⟩
  · have line := exec_append going current
    generalize record : ({ seq := s.journal.nextSeq, stamp := a.stamp, body := a.request.body } : Record) = r at line
    obtain ⟨⟨qs, owner⟩, told⟩ := aside_ownerDone a.request.requester r (written r i s)
    have journal : (written r i s).journal = j.write i r := by
      obtain ⟨x, frame⟩ := written_frame (i := i) (s := s) r
      rw [frame]
    rw [journal] at owner
    obtain ⟨ps, p, rest⟩ := write_eq (j := j) (i := i) r
    have marks : (j.write i r).exported = j.exported ∧ (j.write i r).nextSeq = j.nextSeq + 1
        ∧ (j.write i r).fault = j.fault := by
      rw [rest]
      exact ⟨rfl, rfl, rfl⟩
    obtain ⟨exported, nextSeq, fault⟩ := marks
    obtain ⟨before, after, filled, ring⟩ := slot (k := (ownerDone a.request.requester r (written r i s)).journal)
      (sl := .written r) (by rw [owner]; rfl) (by rw [owner]; rfl)
    refine ⟨_, line, ⟨record ▸ before, after, filled, ring, ?_, ?_⟩, ?_, ?_, ?_⟩
    · rw [owner]
      rfl
    · rw [owner]
      exact exported
    · rw [owner]
      exact nextSeq
    · rw [owner]
      exact fault
    · change ∃ rest, _ = (fullTold j _ (lowTold j _ s)).reports.queue ++ rest
      rw [owner]
      obtain ⟨more, grown⟩ := told
      exact ⟨more, by rw [grown, written_reports]; rfl⟩
  · have line : exec .writeFailure s = .next (levelReports j (failed a i s)) := exec_failure going current
    obtain ⟨x, frame⟩ := levelReports_frame j (failed a i s)
    obtain ⟨ps, p, rest⟩ := failedWrite_eq a i j
    have marks : (failedWrite a i j).inProgress = none ∧ (failedWrite a i j).exported = j.exported
        ∧ (failedWrite a i j).nextSeq = j.nextSeq ∧ (failedWrite a i j).fault = j.fault
        ∧ (failedWrite a i j).low = j.low := by
      rw [rest]
      exact ⟨rfl, rfl, rfl, rfl, rfl⟩
    obtain ⟨idle, exported, nextSeq, fault, threshold⟩ := marks
    rw [frame] at line
    by_cases first : a.request.attempt = 1
    · have reports := levelReports_reports (j := j) (s := s) (t := failed a i s)
        (by rw [failed_first first]; exact threshold) (by rw [failed_first first]) (by rw [failed_first first])
      rw [frame] at reports
      rw [failed_first first] at line reports
      obtain ⟨before, after, filled, ring⟩ := slot (k := failedWrite a i s.journal) (sl := .void) rfl rfl
      exact ⟨_, line, ⟨before, after, filled, ring, idle, exported⟩, nextSeq, rfl,
        fun _ => ⟨fault, rfl, reports⟩, fun second => absurd first second, rfl⟩
    · have reports := levelReports_reports (j := j) (s := condArises .journal s) (t := failed a i s)
        (by rw [failed_second first]; exact threshold) (by rw [failed_second first])
        (by rw [failed_second first, condArises_clock])
      rw [frame] at reports
      rw [failed_second first] at line reports
      obtain ⟨before, after, filled, ring⟩ := slot (sl := .void)
        (k := { failedWrite a i s.journal with fault := true, erase := s.journal.erase.suspend }) rfl rfl
      exact ⟨_, line, ⟨before, after, filled, ring, idle, exported⟩, nextSeq, rfl,
        fun second => absurd second first, fun _ => ⟨rfl, condArises_active .journal s, rfl,
          reports.trans (congrArg State.reports (if_neg (by simp)))⟩, rfl⟩

end Sys2Proof.Machine
end

section
/-! PROOFS. Chapter 8, erases and the end of a scan (R148, R162 to R164). -/

namespace Sys2Proof.Machine

-- One declaration after another: at once they ask for more threads than the check's limits allow.
set_option Elab.async false

variable {s t u : State} {j k : Journal} {i : Nat}

/-! ### Erases (R162, R163) -/

theorem mayErase_iff : j.mayErase = true ↔
    j.scanDone = true ∧ j.fault = false ∧ j.inProgress = none ∧ (j.pending = [] ∨ j.full = true) := by
  simp [Journal.mayErase, and_assoc]

theorem exec_eraseStart_idle (h : ¬ ((∃ i, s.journal.eraseHead = some i) ∧ s.journal.mayErase = true)) :
    exec .eraseStart s = .next s := by
  change execEraseStart s = _
  unfold execEraseStart
  split
  next i head => exact if_neg fun may => h ⟨⟨i, head⟩, may⟩
  next => rfl

theorem exec_eraseStart_runs (head : s.journal.eraseHead = some i) (may : s.journal.mayErase = true) :
    exec .eraseStart s = .next { s with journal := { s.journal with erase := .running } } := by
  change execEraseStart s = _
  unfold execEraseStart
  rw [head]
  exact if_pos may

theorem exec_erase_idle (h : s.journal.eraseHead = none ∨ s.journal.erase ≠ .running) :
    exec .eraseComplete s = .next s ∧ exec .eraseFailure s = .next s := by
  change execEraseComplete s = _ ∧ execEraseFailure s = _
  unfold execEraseComplete execEraseFailure
  rcases h with none_ | rest
  · rw [none_]
    exact ⟨rfl, rfl⟩
  · cases s.journal.eraseHead <;> cases state : s.journal.erase <;> first | exact ⟨rfl, rfl⟩ | exact absurd state rest

/-- The head page erased: ERASED, or CURRENT where there is none (R148, R162). -/
def Journal.erased (j : Journal) (i : Nat) : Journal :=
  if j.hasCurrent then
    { j with erase := .none, eraseFailed := false, pages := j.pages.set i { state := .erased, used := [] } }
  else { j with erase := .none, eraseFailed := false, pages := j.pages.set i { state := .current, used := [] }, newest := i }

theorem exec_eraseComplete (head : s.journal.eraseHead = some i) (running : s.journal.erase = .running) :
    exec .eraseComplete s = .next (offer .eraseDone .none [nat i, nat (s.journal.erased i).erasedCount]
      (levelReports s.journal (s.modJournal fun j => j.erased i))) := by
  change execEraseComplete s = _
  unfold execEraseComplete
  rw [head, running]
  rfl

theorem erased_pages (j : Journal) (i : Nat) : (j.erased i).pages =
    j.pages.set i { state := if j.hasCurrent then .erased else .current, used := [] } := by
  unfold Journal.erased
  split <;> rfl

theorem erased_rest (j : Journal) (i : Nat) : (j.erased i).erase = .none ∧ (j.erased i).nextSeq = j.nextSeq
    ∧ (j.erased i).fault = j.fault ∧ (j.erased i).low = j.low := by
  unfold Journal.erased
  split <;> exact ⟨rfl, rfl, rfl, rfl⟩

/-- An erase takes no page from the ERASED ones. -/
theorem erasedCount_erased (erasing : (j.page i).state = .erasing) (bound : i < j.pages.length) :
    j.erasedCount ≤ (j.erased i).erasedCount := by
  have here : j.pages[i].state = .erasing := by simpa [Journal.page, bound] using erasing
  unfold Journal.erasedCount
  rw [erased_pages, List.countP_set bound, here]
  exact Nat.le_add_right _ _

/-- An erase leaves the journal with a CURRENT page. -/
theorem hasCurrent_erased (erasing : (j.page i).state = .erasing) (bound : i < j.pages.length) :
    (j.erased i).hasCurrent = true := by
  rw [hasCurrent_iff, erased_pages, List.length_set]
  have page : ∀ m, (j.erased i).page m = (j.setPage i
      { state := if j.hasCurrent then .erased else .current, used := [] }).page m :=
    page_congr (erased_pages j i)
  by_cases has : j.hasCurrent = true
  · obtain ⟨m, inside, current⟩ := hasCurrent_iff.mp has
    have away : m ≠ i := by
      rintro rfl
      exact absurd (current.symm.trans erasing) (by decide)
    exact ⟨m, inside, by rw [page, setPage_page_of_ne _ _ away, current]⟩
  · exact ⟨i, bound, by rw [page, setPage_page _ _ _ bound, if_neg has]⟩

/-- An erase gives no level report. -/
theorem erased_quiet (erasing : (j.page i).state = .erasing) (bound : i < j.pages.length) (s : State) :
    fullTold j (j.erased i) (lowTold j (j.erased i) s) = s := by
  obtain ⟨-, nextSeq, fault, -⟩ := erased_rest j i
  have count := erasedCount_erased erasing bound
  have current := hasCurrent_erased erasing bound
  have low : lowTold j (j.erased i) s = s := if_neg (by omega)
  rw [low]
  refine if_neg ?_
  rintro ⟨sound, full, not⟩
  refine not ⟨fault ▸ sound, ?_⟩
  simp only [Journal.full, Journal.spent, current, nextSeq, Bool.not_true, Bool.false_or] at full ⊢
  rw [full, Bool.or_true]

theorem exec_eraseFailure_first (head : s.journal.eraseHead = some i) (running : s.journal.erase = .running)
    (first : s.journal.eraseFailed = false) :
    exec .eraseFailure s = .next { s with journal := { s.journal with eraseFailed := true } } := by
  change execEraseFailure s = _
  unfold execEraseFailure
  rw [head, running, first]
  rfl

theorem exec_eraseFailure_second (head : s.journal.eraseHead = some i) (running : s.journal.erase = .running)
    (second : s.journal.eraseFailed = true) : exec .eraseFailure s = .next { s with
      journal := { s.journal with erase := .none, eraseFailed := false, fault := true }
      faults := (condArises .journal s).faults, reports := (condArises .journal s).reports } := by
  have line : exec .eraseFailure s = .next (journalFault (s.modJournal fun j =>
      { j with erase := .none, eraseFailed := false })) := by
    change execEraseFailure s = _
    unfold execEraseFailure
    rw [head, running, second]
    rfl
  rw [line]
  exact congrArg _ (journalFault_told (s := s) (t := s.modJournal fun j =>
    { j with erase := .none, eraseFailed := false }) rfl rfl rfl)

/-! ### The end of a scan (R164) -/

theorem recordsOf_void (us : List Slot) : recordsOf (us ++ [.void]) = recordsOf us := by
  rw [recordsOf_append_singleton]
  exact List.append_nil _

/-- The ring names every page, wherever it begins. -/
theorem mem_ringAfter {n m : Nat} : m ∈ ringAfter n ↔ m < 64 := by
  unfold ringAfter
  rw [List.mem_map]
  constructor
  · rintro ⟨x, -, rfl⟩
    exact Nat.mod_lt _ (by decide)
  · intro low
    refine ⟨(m + 63 * n + 63) % 64, List.mem_range.mpr (Nat.mod_lt _ (by decide)), ?_⟩
    simp only [Config.pageCount]
    omega

/-- A record is held in a FILLED or CURRENT page, wherever the ring begins (R147). -/
theorem mem_held {r : Record} : r ∈ j.held ↔ ∃ m, m < 64
    ∧ ((j.page m).state = .current ∨ (j.page m).state = .filled) ∧ r ∈ recordsOf (j.page m).used := by
  unfold Journal.held
  rw [List.mem_flatMap]
  refine exists_congr fun m => ?_
  rw [mem_ringAfter]
  refine and_congr_right fun _ => ?_
  cases (j.page m).state <;> simp

/-- Another page than the one written stands, or was ERASED and is the empty CURRENT one. -/
theorem useSlot_elsewhere {m : Nat} (sl : Slot) (ne : m ≠ i) : (j.useSlot i sl).page m = j.page m
    ∨ (j.page m).state = .erased ∧ (j.useSlot i sl).page m = { state := .current, used := [] } := by
  by_cases room : (j.page i).used.length < 255
  · exact .inl (by rw [useSlot_room sl room, setPage_page_of_ne _ _ ne])
  · have away : (j.fill i sl).page m = j.page m := setPage_page_of_ne _ _ ne
    rw [useSlot_last sl (by omega)]
    split
    next k next_ =>
      change ((j.fill i sl).setPage k _).page m = _ ∨ _ ∧ ((j.fill i sl).setPage k _).page m = _
      by_cases here : m = k
      · subst here
        have erased := (firstAfter_spec _ next_).1
        rw [away] at erased
        by_cases bound : m < (j.fill i sl).pages.length
        · exact .inr ⟨erased, setPage_page _ _ _ bound⟩
        · refine .inl (Eq.trans (page_congr ?_ m) away)
          exact List.set_eq_of_length_le (by omega)
      · exact .inl ((setPage_page_of_ne _ _ here).trans away)
    next => exact .inl away

/-- A slot made VOID takes no record from those held. -/
theorem held_voided {r : Record} (current : j.current? = some i) : r ∈ (j.useSlot i .void).held ↔ r ∈ j.held := by
  obtain ⟨state, low, bound⟩ := firstAfter_spec j current
  obtain ⟨used, after, -⟩ := useSlot_spec j i .void (bound (by decide))
  rw [mem_held, mem_held]
  refine exists_congr fun m => and_congr_right fun _ => ?_
  by_cases here : m = i
  · subst here
    rw [used, recordsOf_void, after, state]
    by_cases room : (j.page m).used.length < 255 <;> simp [room]
  · rcases useSlot_elsewhere (j := j) .void here with same | ⟨erased, empty⟩
    · rw [same]
    · simp [empty, erased, recordsOf]

/-- The journal with its cut-off slot VOID. -/
def Journal.voided (j : Journal) : Journal :=
  match j.cutSlot, j.current? with
  | true, some i => j.useSlot i .void
  | _, _ => j

/-- The highest sequence in the store. -/
def Journal.highest (j : Journal) : Nat :=
  (j.pages.flatMap fun p => recordsOf p.used).foldl (fun m r => max m r.seq) 0

theorem le_foldl_max (rs : List Record) : ∀ b : Nat,
    b ≤ rs.foldl (fun m r => max m r.seq) b ∧ ∀ r ∈ rs, r.seq ≤ rs.foldl (fun m r => max m r.seq) b := by
  induction rs with
  | nil => exact fun b => ⟨le_rfl, by simp⟩
  | cons x rs ih =>
    intro b
    obtain ⟨base, all⟩ := ih (max b x.seq)
    rw [List.foldl_cons]
    refine ⟨(Nat.le_max_left ..).trans base, fun r mem => ?_⟩
    rcases List.mem_cons.mp mem with rfl | mem
    · exact (Nat.le_max_right ..).trans base
    · exact all r mem

theorem le_highest {p : Page} {r : Record} (hp : p ∈ j.pages) (hr : r ∈ recordsOf p.used) : r.seq ≤ j.highest :=
  (le_foldl_max _ 0).2 r (List.mem_flatMap.mpr ⟨p, hp, hr⟩)

/-- What a scan that read the store makes of the journal (R164). -/
theorem scanned_eq (j : Journal) : j.scanned = { j.voided with
    cutSlot := false, scanDone := true, fault := false, lastGranted := .link
    nextSeq := if j.voided.nextSeq ≤ j.voided.highest then j.voided.highest + 1 else j.voided.nextSeq
    readPointer := match j.voided.held with
      | [] => 0
      | r :: _ => r.seq } := rfl

theorem voided_held {r : Record} : r ∈ j.voided.held ↔ r ∈ j.held := by
  unfold Journal.voided
  split
  next current => exact held_voided current
  next => exact Iff.rfl

theorem voided_rest (j : Journal) : ∃ ps n, j.voided = { j with pages := ps, newest := n } := by
  unfold Journal.voided
  split
  · exact useSlot_rest _ _
  · exact ⟨j.pages, j.newest, rfl⟩

/-- The request the metrology block makes again (R55). -/
def calibAgain (s : State) : List Request :=
  match s.metro.inProgress with
  | some c =>
    if s.journal.has .metrology = true then []
    else [{ requester := .metrology, deck := none, body := .calib c, attempt := 1 }]
  | none => []

theorem requestCalibAgain_eq (metro : t.metro = s.metro) (has : t.journal.has .metrology = s.journal.has .metrology) :
    requestCalibAgain t = { t with journal := { t.journal with pending := t.journal.pending ++ calibAgain s } } := by
  unfold requestCalibAgain calibAgain
  rw [← metro, ← has]
  cases t.metro.inProgress with
  | none => simp
  | some c =>
    dsimp only
    by_cases asked : t.journal.has .metrology = true
    · rw [if_pos asked, if_pos asked, List.append_nil]
    · rw [if_neg asked, if_neg asked]
      rfl

theorem exec_scan_done (h : s.journal.scanDone = true) (b : Bool) : exec (.journalScanComplete b) s = .next s :=
  if_pos h

theorem exec_scan_failed (h : s.journal.scanDone = false) :
    exec (.journalScanComplete false) s = .next { s with
      journal := { s.journal with scanDone := true, fault := true, erase := s.journal.erase.suspend,
                                  pending := s.journal.pending ++ calibAgain s }
      faults := (condArises .journal s).faults, reports := (condArises .journal s).reports } := by
  have line : exec (.journalScanComplete false) s = .next (requestCalibAgain (journalFault (s.modJournal fun j =>
      { j with scanDone := true }))) := by
    change execJournalScanComplete false s = _
    unfold execJournalScanComplete
    rw [h]
    rfl
  rw [line, journalFault_told (s := s) (t := s.modJournal fun j => { j with scanDone := true }) rfl rfl rfl]
  exact congrArg _ (requestCalibAgain_eq (s := s) rfl rfl)

/-- The state in which a scan that read the store leaves the level reports to be placed. -/
def scannedState (s : State) : State :=
  { s with journal := { s.journal.scanned with pending := s.journal.pending ++ calibAgain s } }

/-- The level reports at the end of a scan, FULL before LOW (log entry 19). -/
def scanTold (low : Nat) (k : Journal) (s : State) : State :=
  let s1 := if k.full = true then offer .journalFull .none [toString (k.nextSeq - 1)] s else s
  if k.erasedCount ≤ low then offer .journalLow .none [toString k.erasedCount, toString low] s1 else s1

theorem scanTold_frame (low : Nat) (k : Journal) (s : State) : ∃ r, scanTold low k s = { s with reports := r } := by
  have full : ∃ r, (if k.full = true then offer .journalFull .none [toString (k.nextSeq - 1)] s else s) =
      { s with reports := r } := by
    split
    exacts [offer_frame s _ _ _, ⟨s.reports, rfl⟩]
  obtain ⟨r, told⟩ := full
  unfold scanTold
  dsimp only
  rw [told]
  split
  · obtain ⟨x, low⟩ := offer_frame { s with reports := r } .journalLow .none [toString k.erasedCount, toString low]
    exact ⟨x, low⟩
  · exact ⟨r, rfl⟩

theorem scanTold_congr (low : Nat) (k : Journal) (reports : t.reports = s.reports) (clock : t.clock = s.clock) :
    (scanTold low k t).reports = (scanTold low k s).reports := by
  unfold scanTold
  dsimp only
  by_cases full : k.full = true
  · rw [if_pos full, if_pos full]
    have first := offer_reports_congr .journalFull .none [toString (k.nextSeq - 1)] reports clock
    split
    · exact offer_reports_congr _ _ _ first (by simp [clock])
    · exact first
  · rw [if_neg full, if_neg full]
    split
    · exact offer_reports_congr _ _ _ reports clock
    · exact reports

theorem exec_scan_read (h : s.journal.scanDone = false) :
    exec (.journalScanComplete true) s = .next (scanTold s.journal.low (scannedState s).journal (scannedState s)) := by
  obtain ⟨ps, n, voided⟩ := voided_rest s.journal
  have again : requestCalibAgain (s.modJournal Journal.scanned) = scannedState s := by
    refine (requestCalibAgain_eq (s := s) (t := s.modJournal Journal.scanned) rfl ?_).trans ?_
    · rw [State.modJournal_journal, scanned_eq, voided]
      rfl
    · unfold scannedState
      rw [State.modJournal_journal, scanned_eq, voided]
      rfl
  change execJournalScanComplete true s = _
  unfold execJournalScanComplete
  rw [h, again]
  have low : (scannedState s).journal.low = s.journal.low := by
    unfold scannedState
    rw [scanned_eq, voided]
  unfold scanTold
  rw [← low]
  rfl

/-- Settles O38: an erase by its head page and state, a scan by its reading. -/
theorem erasesAndScansRun : Obligations.ErasesAndScansRun := by
  unfold Obligations.ErasesAndScansRun
  refine ⟨?_, ?_⟩
  · intro s j may
    refine ⟨fun no => exec_eraseStart_idle fun ⟨head, yes⟩ => no ⟨head, mayErase_iff.mp yes⟩,
      fun ⟨⟨i, head⟩, yes⟩ => exec_eraseStart_runs head (mayErase_iff.mpr yes), exec_erase_idle,
      fun i head running => ⟨?_, exec_eraseFailure_first head running, fun second =>
        ⟨_, exec_eraseFailure_second head running second, rfl, rfl, condArises_active .journal s, rfl, rfl⟩⟩⟩
    obtain ⟨erasing, -, bound⟩ := firstAfter_spec j head
    have page := page_congr (j := j.setPage i { state := if j.hasCurrent then .erased else .current, used := [] })
      (erased_pages j i)
    obtain ⟨rest, nextSeq, -, low⟩ := erased_rest j i
    have quiet : levelReports j (s.modJournal fun j => j.erased i) =
        { s with journal := j.erased i } := by
      rw [levelReports_told low]
      exact erased_quiet erasing (bound (by decide)) _
    have line := exec_eraseComplete head running
    rw [quiet] at line
    obtain ⟨r, told⟩ := offer_frame { s with journal := j.erased i } .eraseDone .none
      [nat i, nat (j.erased i).erasedCount]
    have reports := offer_reports_congr (s := s) (t := { s with journal := j.erased i }) .eraseDone .none
      [nat i, nat (j.erased i).erasedCount] rfl rfl
    rw [told] at line reports
    exact ⟨_, line, (page i).trans (setPage_page _ _ _ (bound (by decide))),
      fun k ne => (page k).trans (setPage_page_of_ne _ _ ne), rest, nextSeq, reports, rfl⟩
  · intro s j again
    refine ⟨fun done b => exec_scan_done done b, fun going => ⟨⟨_, exec_scan_failed going, rfl, rfl, rfl, rfl,
      condArises_active .journal s, rfl, rfl, rfl⟩, ?_⟩⟩
    have line := exec_scan_read going
    obtain ⟨r, told⟩ := scanTold_frame j.low (scannedState s).journal (scannedState s)
    have reports := scanTold_congr (s := s) (t := scannedState s) j.low (scannedState s).journal rfl rfl
    rw [told] at line reports
    obtain ⟨ps, n, voided⟩ := voided_rest j
    have seqs : (scannedState s).journal.nextSeq =
        if j.nextSeq ≤ j.voided.highest then j.voided.highest + 1 else j.nextSeq := by
      unfold scannedState
      rw [scanned_eq, voided]
    refine ⟨_, line, rfl, rfl, rfl, rfl, ?_, fun p hp r hr => ?_, fun r => voided_held, rfl, fun uncut => ?_,
      fun i cut current => ?_, rfl, reports, rfl⟩
    · change j.nextSeq ≤ (scannedState s).journal.nextSeq
      rw [seqs]
      split <;> omega
    · have below := le_highest (j := j.voided) hp hr
      change r.seq < (scannedState s).journal.nextSeq
      rw [seqs]
      split <;> omega
    · have same : j.voided = j := by rw [Journal.voided, uncut]
      change j.voided.pages = _
      rw [same]
    · obtain ⟨state, -, bound⟩ := firstAfter_spec j current
      obtain ⟨used, -⟩ := useSlot_spec j i .void (bound (by decide))
      have slot : j.voided = j.useSlot i .void := by rw [Journal.voided, cut, current]
      change (j.voided.page i).used = _
      rw [slot, used]

end Sys2Proof.Machine
end

section
/-! PROOFS. Chapter 8, the journal's settings (R153, R157 to R159) and the purge (R160, R161). -/

namespace Sys2Proof.Machine

-- One declaration after another: at once they ask for more threads than the check's limits allow.
set_option Elab.async false

variable {s t u : State} {j k : Journal} {i : Nat}

/-! ### The purge (R161) -/

/-- A record passes the purge's two tests (R161). -/
def Passes (now : YardTime) (j : Journal) (r : Record) : Prop :=
  r.seq ≤ j.exported ∧ r.stamp.time + j.retain * 86400 < now

theorem purgeable_iff {now : YardTime} {r : Record} :
    purgeable now j.exported j.retain r = true ↔ Passes now j r := by
  simp [purgeable, olderThan, Passes]

/-- Why a purge of up to `n` of the pages listed stops at `m` (R161). -/
def StopsBy (now : YardTime) (j : Journal) (is : List Nat) (n m : Nat) (stop : PurgeStop) : Prop :=
  if m = n then stop = .none
  else match is[m]? with
    | none => stop = .noPage
    | some i => ∃ before r after, recordsOf (j.page i).used = before ++ r :: after
        ∧ (∀ x ∈ before, Passes now j x) ∧ ¬ Passes now j r
        ∧ stop = .failed ((recordsOf (j.page i).used).all fun x => decide (x.seq ≤ j.exported)) i r.seq

/-- What a purge of `m` of the pages listed makes of the pages. -/
def Purged (j : Journal) (is : List Nat) (m : Nat) (ps : List Page) : Prop :=
  ps.length = j.pages.length ∧ ∀ i, (Journal.page { j with pages := ps } i).used = (j.page i).used
    ∧ (Journal.page { j with pages := ps } i).state = if i ∈ is.take m then .erasing else (j.page i).state

theorem purged_none (j : Journal) (is : List Nat) : Purged j is 0 j.pages :=
  ⟨rfl, fun _ => ⟨rfl, (if_neg (by simp)).symm⟩⟩

/-- A purge takes pages from the front of the list, as long as their records pass (R161). -/
theorem purge_takes (now : YardTime) (is : List Nat) : ∀ {n : Nat} (taken : Nat) {j : Journal},
    (∀ i ∈ is, i < j.pages.length) → ∃ m ps stop,
      Journal.purge now is n taken j = (taken + m, { j with pages := ps }, stop) ∧ m ≤ n ∧ m ≤ is.length
      ∧ Purged j is m ps ∧ (∀ i ∈ is.take m, ∀ r ∈ recordsOf (j.page i).used, Passes now j r)
      ∧ StopsBy now j is n m stop := by
  induction is with
  | nil =>
    intro n taken j _
    cases n with
    | zero => exact ⟨0, j.pages, .none, rfl, le_rfl, le_rfl, purged_none j [], by simp, rfl⟩
    | succ n => exact ⟨0, j.pages, .noPage, rfl, Nat.zero_le _, le_rfl, purged_none j [], by simp, rfl⟩
  | cons a rest ih =>
    intro n taken j bounds
    cases n with
    | zero => exact ⟨0, j.pages, .none, rfl, le_rfl, Nat.zero_le _, purged_none j _, by simp, rfl⟩
    | succ n =>
      have here : a < j.pages.length := bounds a (by simp)
      unfold Journal.purge
      dsimp only
      cases found : (recordsOf (j.page a).used).find? fun r => !purgeable now j.exported j.retain r with
      | some r =>
        obtain ⟨fails, before, after, split_, earlier⟩ := List.find?_eq_some_iff_append.mp found
        refine ⟨0, j.pages, _, rfl, Nat.zero_le _, Nat.zero_le _, purged_none j _, by simp,
          before, r, after, split_, fun x mem => ?_, ?_, rfl⟩
        · exact purgeable_iff.mp (by simpa using earlier x mem)
        · rw [← purgeable_iff]
          simpa using fails
      | none =>
        have passes : ∀ r ∈ recordsOf (j.page a).used, Passes now j r := fun r mem =>
          purgeable_iff.mp (by simpa using List.find?_eq_none.mp found r mem)
        obtain ⟨m, ps, stop, purge, few, short, ⟨length, pages⟩, pass, stops⟩ := ih (n := n) (taken + 1)
          (j := j.setPage a { j.page a with state := .erasing })
          (fun i mem => by simpa [Journal.setPage] using bounds i (by simp [mem]))
        have used (i : Nat) : ((j.setPage a { j.page a with state := .erasing }).page i).used = (j.page i).used := by
          by_cases same : i = a
          · rw [same, setPage_page _ _ _ here]
          · rw [setPage_page_of_ne _ _ same]
        refine ⟨m + 1, ps, stop, ?_, by omega, by simpa using short, ⟨?_, fun i => ⟨?_, ?_⟩⟩, ?_, ?_⟩
        · rw [purge]
          exact congrArg₂ Prod.mk (Nat.add_right_comm _ _ _ |>.trans (Nat.add_assoc _ _ _)) rfl
        · rw [length]
          exact List.length_set ..
        · exact (pages i).1.trans (used i)
        · simp only [List.take_succ_cons, List.mem_cons]
          refine (pages i).2.trans ?_
          by_cases same : i = a
          · rw [same, setPage_page _ _ _ here]
            simp
          · rw [setPage_page_of_ne _ _ same]
            simp [same]
        · intro i mem
          rw [List.take_succ_cons, List.mem_cons] at mem
          rcases mem with rfl | mem
          · exact passes
          · intro r hr
            exact pass i mem r (by rw [used]; exact hr)
        · unfold StopsBy at stops ⊢
          simp only [used, Nat.succ.injEq, List.getElem?_cons_succ] at stops ⊢
          exact stops

theorem mem_filledPages (h : i ∈ j.filledPages) : i < j.pages.length := by
  obtain ⟨-, filled⟩ := List.mem_filter.mp h
  by_contra out
  have empty : j.page i = { state := .erased, used := [] } := List.getD_eq_default _ _ (Nat.le_of_not_lt out)
  rw [empty] at filled
  exact absurd filled (by decide)

/-- The word and the report of a purge that stopped (R161). -/
theorem purge_word (recs : List Record) (mark : Nat) (i q : Nat) :
    (PurgeStop.failed (recs.all fun x => decide (x.seq ≤ mark)) i q).word =
      if ∀ x ∈ recs, x.seq ≤ mark then "RETAINED" else "NOT_EXPORTED" := by
  by_cases all : ∀ x ∈ recs, x.seq ≤ mark
  · rw [if_pos all, List.all_eq_true.mpr fun x mem => decide_eq_true (all x mem)]
    rfl
  · rw [if_neg all]
    cases passed : recs.all fun x => decide (x.seq ≤ mark) with
    | false => rfl
    | true => exact absurd (fun x mem => of_decide_eq_true (List.all_eq_true.mp passed x mem)) all

/-- The PURGE_STOP report of a page that failed (R161). -/
def purgeTold (stop : PurgeStop) (s : State) : State :=
  match stop with
  | .failed x i q => offer .purgeStop .none [(PurgeStop.failed x i q).word, nat i, nat q] s
  | .none | .noPage => s

theorem purgeTold_frame (stop : PurgeStop) (s : State) :
    purgeTold stop s = { s with reports := (purgeTold stop s).reports } := by
  cases stop with
  | failed x i q =>
    obtain ⟨r, told⟩ := offer_frame s .purgeStop .none [(PurgeStop.failed x i q).word, nat i, nat q]
    change offer _ _ _ _ = { s with reports := (offer _ _ _ _).reports }
    rw [told]
  | _ => rfl

theorem purgeTold_congr (stop : PurgeStop) (reports : t.reports = s.reports) (clock : t.clock = s.clock) :
    (purgeTold stop t).reports = (purgeTold stop s).reports := by
  cases stop with
  | failed x i q => exact offer_reports_congr _ _ _ reports clock
  | _ => exact reports

theorem exec_purge_disabled (h : s.journal.purgeLatch = false) (n : Option Int) :
    Refused (.journalPurge n) .state s := by
  change execJournalPurge n s = _
  rw [execJournalPurge, h]
  rfl

theorem exec_purge_param {n : Int} (latch : s.journal.purgeLatch = true) (out : n < 1 ∨ 63 < n) :
    Refused (.journalPurge (some n)) .param s := by
  change execJournalPurge (some n) s = _
  rw [execJournalPurge, latch, numIn_of_not_mem (by omega)]
  rfl

section Enabled
variable {n : Nat} (latch : s.journal.purgeLatch = true) (low : 1 ≤ n) (high : n ≤ 63)
include latch low high

theorem exec_purge_enabled : exec (.journalPurge (some n)) s =
    if s.journal.fault then refuse .state s
    else if s.journal.erasing then refuse .busy s
    else
      let r := Journal.purge s.clock.now s.journal.filledPages n 0 s.journal
      answer (.ok [nat r.1, r.2.2.word]) (purgeTold r.2.2 (s.modJournal fun _ => r.2.1)) := by
  change execJournalPurge (some (n : Int)) s = _
  rw [execJournalPurge, latch, numIn_of_mem low high]
  rfl

/-- What a purge takes and answers (R161). -/
theorem exec_purge (sound : s.journal.fault = false) (rest : s.journal.erasing = false) :
    ∃ m ps stop, m ≤ n ∧ m ≤ s.journal.filledPages.length ∧ Purged s.journal s.journal.filledPages m ps
      ∧ (∀ i ∈ s.journal.filledPages.take m, ∀ r ∈ recordsOf (s.journal.page i).used,
          Passes s.clock.now s.journal r)
      ∧ StopsBy s.clock.now s.journal s.journal.filledPages n m stop
      ∧ AnswersWith (.journalPurge (some n)) (.ok [toString m, stop.word]) s { s with
          journal := { s.journal with pages := ps }, reports := (purgeTold stop s).reports } := by
  obtain ⟨m, ps, stop, purge, few, short, pages, pass, stops⟩ :=
    purge_takes s.clock.now s.journal.filledPages (n := n) 0 (j := s.journal) fun i => mem_filledPages
  refine ⟨m, ps, stop, few, short, pages, pass, stops, ?_⟩
  have line := exec_purge_enabled latch low high
  rw [if_neg (by simp [sound]), if_neg (by simp [rest])] at line
  rw [purge] at line
  dsimp only at line
  rw [purgeTold_frame, purgeTold_congr (s := s) (t := s.modJournal _) _ rfl rfl, Nat.zero_add] at line
  exact line

end Enabled

/-! ### The settings (R153, R157 to R159) -/

/-- A new low threshold reports a count that comes to stand at or below it at once (R157). -/
theorem levelReports_low (s : State) (n : Nat) :
    levelReports s.journal (s.modJournal fun j => { j with low := n }) =
      if s.journal.low < s.journal.erasedCount ∧ s.journal.erasedCount ≤ n then
        offer .journalLow .none [toString s.journal.erasedCount, toString n]
          { s with journal := { s.journal with low := n } }
      else { s with journal := { s.journal with low := n } } := by
  unfold levelReports
  exact if_neg fun ⟨full, not⟩ => not full

theorem exec_exported_param {q : Int} (some_ : 1 ≤ s.journal.nextSeq)
    (out : q < s.journal.exported ∨ (s.journal.nextSeq : Int) ≤ q) : Refused (.journalExported (some q)) .param s := by
  change execJournalExported (some q) s = _
  rw [execJournalExported, numIn_of_not_mem (by unfold Journal.lastSeq; omega)]
  rfl

theorem exec_exported {q : Nat} (low : s.journal.exported ≤ q) (high : q < s.journal.nextSeq) :
    AnswersWith (.journalExported (some q)) (.ok [toString q]) s
      { s with journal := { s.journal with exported := q } } := by
  change execJournalExported (some (q : Int)) s = _
  rw [execJournalExported, numIn_of_mem low (by unfold Journal.lastSeq; omega)]
  rfl

/-- Settles O39: the settings line by line, the purge in the order of its table. -/
theorem journalSettingsAndPurge : Obligations.JournalSettingsAndPurge := by
  unfold Obligations.JournalSettingsAndPurge
  refine ⟨?_, ?_⟩
  · intro s j put
    refine ⟨fun run p => laneWrite_of_run run, fun setup => ⟨laneWrite_of_setup setup, fun p =>
      laneWrite_of_setup setup⟩, rfl, rfl, rfl, rfl, fun v => ?_, fun v => rfl, fun q out some_ =>
      exec_exported_param some_ out, fun q low high => exec_exported low high, rfl, rfl, rfl⟩
    exact congrArg (fun x => answer (settingReply (v.clamped 1 8) [v.value 1 8 4]) x) (levelReports_low s _)
  · intro s j
    refine ⟨rfl, fun latch n => exec_purge_disabled latch n, fun latch => ⟨?_, fun n =>
      exec_purge_param latch, fun n low high => ⟨fun fault => ?_, fun sound busy => ?_, fun sound rest => ?_⟩⟩⟩
    · change execJournalPurge none s = _
      rw [execJournalPurge, latch]
      rfl
    · exact (exec_purge_enabled latch low high).trans (if_pos fault)
    · exact (exec_purge_enabled latch low high).trans ((if_neg (ne_true_of_eq_false sound)).trans (if_pos busy))
    · intro filled passes
      obtain ⟨m, ps, stop, few, short, ⟨length, pages⟩, pass, stops, line⟩ := exec_purge latch low high sound rest
      refine ⟨_, m, stop.word, line, few, short, length, pages, pass, ?_, rfl⟩
      unfold StopsBy at stops
      by_cases whole : m = n
      · rw [if_pos whole] at stops ⊢
        rw [stops]
        exact ⟨rfl, rfl⟩
      · rw [if_neg whole] at stops ⊢
        change match s.journal.filledPages[m]? with | none => _ | some i => _
        cases next_ : s.journal.filledPages[m]? with
        | none =>
          rw [next_] at stops
          obtain rfl : stop = .noPage := stops
          exact ⟨rfl, rfl⟩
        | some i =>
          rw [next_] at stops
          obtain ⟨before, r, after, split_, earlier, fails, rfl⟩ := stops
          exact ⟨before, r, after, split_, earlier, fails, purge_word .., rfl⟩

end Sys2Proof.Machine
end

section
/-! PROOFS. Chapter 9: the LAYOUT and TICKET command lines (R169, R171, R177, R180, R181), and the printer's
faults (R178). -/

namespace Sys2Proof.Machine

-- One declaration after another: at once they ask for more threads than the check's limits allow.
set_option Elab.async false

variable {s t u : State} {d : Deck}

/-! ### The LAYOUT lines (R171) -/

theorem layoutHeld_iff {n : Nat} : s.layoutHeld n = true ↔ (∃ j ∈ s.decks.a.printer.queue, j.layout = n)
    ∨ ∃ j ∈ s.decks.b.printer.queue, j.layout = n := by
  simp [State.layoutHeld, Printer.holdsLayout]

theorem exec_layout_index {n : Int} (h : n < 0 ∨ 7 < n) (k : Option Int) (t : Text) :
    Refused (.layoutLine n k t) .param s ∧ Refused (.layoutClear n) .param s ∧ Refused (.layoutLineQuery n k) .param s := by
  change execLayoutLine n k t s = _ ∧ execLayoutClear n s = _ ∧ execLayoutLineQuery n k s = _
  unfold execLayoutLine execLayoutClear execLayoutLineQuery
  rw [inRange_of_not_mem (by omega)]
  exact ⟨rfl, rfl, rfl⟩

theorem numIn_out {lo hi : Nat} {k : Option Int} (h : ∀ x, k = some x → x < lo ∨ (hi : Int) < x) :
    numIn lo hi k = none := by
  cases k with
  | none => rfl
  | some x => exact numIn_of_not_mem (h x rfl)

theorem exec_layout_line_index {k : Option Int} (h : ∀ x, k = some x → x < 1 ∨ 24 < x) (n : Int) (t : Text) :
    Refused (.layoutLine n k t) .param s ∧ Refused (.layoutLineQuery n k) .param s := by
  change execLayoutLine n k t s = _ ∧ execLayoutLineQuery n k s = _
  unfold execLayoutLine execLayoutLineQuery
  rw [numIn_out (lo := 1) (hi := 24) h]
  cases inRange 0 7 n <;> exact ⟨rfl, rfl⟩

section Line
variable {n k : Nat} (layout : n ≤ 7) (low : 1 ≤ k) (high : k ≤ 24)
include layout low high

theorem exec_layoutLine (t : Text) : exec (.layoutLine n (some k) t) s =
    if 40 < t.length ∨ t.all printable = false then refuse .param s
    else if 40 < printedWidth t then refuse .param s
    else if s.layoutHeld n then refuse .busy s
    else answer (.ok [nat (printedWidth t)]) (s.setLayout n ((s.layout n).set (k - 1) t)) := by
  change execLayoutLine (n : Int) (some (k : Int)) t s = _
  unfold execLayoutLine
  rw [inRange_of_mem (lo := 0) (by omega) (by omega : (n : Int) ≤ (7 : Nat)), Int.toNat_natCast, numIn_of_mem low high]

theorem exec_layoutLineQuery : Answers (.layoutLineQuery n (some k)) (.ok (match (s.layout n).getD (k - 1) [] with
    | [] => []
    | c :: cs => [String.ofList (c :: cs)])) s := by
  change execLayoutLineQuery (n : Int) (some (k : Int)) s = _
  unfold execLayoutLineQuery
  rw [inRange_of_mem (lo := 0) (by omega) (by omega : (n : Int) ≤ (7 : Nat)), Int.toNat_natCast, numIn_of_mem low high]
  dsimp only
  cases (s.layout n).getD (k - 1) [] <;> rfl

end Line

theorem exec_layoutClear {n : Nat} (layout : n ≤ 7) : exec (.layoutClear n) s =
    if s.layoutHeld n then refuse .busy s
    else answer (.ok ["0"]) (s.setLayout n (List.replicate 24 [])) := by
  change execLayoutClear (n : Int) s = _
  unfold execLayoutClear
  rw [inRange_of_mem (lo := 0) (by omega) (by omega : (n : Int) ≤ (7 : Nat)), Int.toNat_natCast]
  rfl

/-! ### The TICKET lines (R177, R180, R181) -/

theorem exec_reprint_param {q : Int} (h : q < 1 ∨ 4294967295 < q) : Refused (.ticketReprint d (some q)) .param s := by
  change execTicketReprint d (some q) s = _
  rw [execTicketReprint, numIn_of_not_mem (by simp only [Config.lastSequence]; omega)]
  rfl

section Reprint
variable {q : Nat} (low : 1 ≤ q) (high : q ≤ 4294967295)
include low high

theorem exec_reprint_absent (h : s.journal.record? q = none) : Refused (.ticketReprint d (some q)) .notFound s := by
  change execTicketReprint d (some (q : Int)) s = _
  rw [execTicketReprint, numIn_of_mem (hi := Config.lastSequence) low high]
  dsimp only
  rw [h]
  rfl

theorem exec_reprint_other {r : Record} (h : s.journal.record? q = some r) (other : ∀ c, r.body ≠ .settle c) :
    Refused (.ticketReprint d (some q)) .notFound s := by
  change execTicketReprint d (some (q : Int)) s = _
  rw [execTicketReprint, numIn_of_mem (hi := Config.lastSequence) low high]
  dsimp only
  rw [h]
  obtain ⟨seq, stamp, body⟩ := r
  cases body with
  | settle c => exact absurd rfl (other c)
  | _ => rfl

theorem exec_reprint {r : Record} {c : Settlement} (h : s.journal.record? q = some r) (body : r.body = .settle c) :
    exec (.ticketReprint d (some q)) s =
      if (s.deck d).printer.room then
        answer (.ok [nat ((joinQueue d (s.jobOf q true r.stamp c) s).deck d).printer.queue.length])
          (joinQueue d (s.jobOf q true r.stamp c) s)
      else refuse .full s := by
  change execTicketReprint d (some (q : Int)) s = _
  rw [execTicketReprint, numIn_of_mem (hi := Config.lastSequence) low high]
  dsimp only
  rw [h]
  obtain ⟨seq, stamp, body⟩ := r
  dsimp only at body
  subst body
  rfl

end Reprint

theorem room_iff (p : Printer) : p.room = true ↔ p.queue.length < 4 :=
  decide_eq_true_iff

theorem all_printable_iff (t : Text) : t.all printable = false ↔ ∃ c ∈ t, printable c = false := by
  simp

theorem well_first {t : Text} (well : ¬ (40 < t.length ∨ 40 < printedWidth t ∨ ∃ c ∈ t, printable c = false)) :
    ¬ (40 < t.length ∨ t.all printable = false) := by
  rw [all_printable_iff]
  exact fun h => well (h.imp_right .inr)

/-- TICKET x? as R181 lists its fields. -/
theorem ticketQuery_fields (s : State) (d : Deck) :
    let p := (s.deck d).printer
    let l := (s.deck d).lines
    let mark (j : Job) : String := if j.copy then "/C" else ""
    let act (b : Bool) : String := if b then "ACT" else "INACT"
    Answers (.ticketQuery d) (.ok [
      (match p.state with
        | .ready => "READY"
        | .printing => "PRINTING"
        | .waitTake => "WAIT_TAKE"
        | .fault => "FAULT"),
      (match p.presented with
        | some j => toString j.seq ++ mark j
        | none => "-"),
      toString p.queue.length,
      commas (p.queue.map fun j => toString j.seq ++ "/" ++ toString j.layout ++ mark j),
      (if p.state = .printing then match p.send with
        | some ⟨_, []⟩ => "END"
        | some pos => toString pos.line
        | none => "-"
      else "-"),
      act l.busy ++ "," ++ act l.paper ++ "," ++ act l.taken,
      (match p.uncollected with
        | .running n => toString n
        | .expired => "EXPIRED"
        | .stopped => "-")]) s := by
  intro p l mark act
  have line : exec (.ticketQuery d) s = execTicketQuery d s := rfl
  unfold execTicketQuery at line
  have lines : commas [activeWord l.busy, activeWord l.paper, activeWord l.taken] =
      act l.busy ++ "," ++ act l.paper ++ "," ++ act l.taken := by
    cases l.busy <;> cases l.paper <;> cases l.taken <;> rfl
  have sent : p.lineField = if p.state = .printing then match p.send with
      | some ⟨_, []⟩ => "END"
      | some pos => toString pos.line
      | none => "-"
    else "-" := by
    unfold Printer.lineField
    rcases p.send with _ | ⟨n, _ | ⟨c, rest⟩⟩ <;> rfl
  dsimp only at line
  have shown : dash (fun j => nat j.seq ++ copyMark j) p.presented = match p.presented with
      | some j => toString j.seq ++ mark j
      | none => "-" := by
    cases p.presented <;> rfl
  rw [lines, sent, shown] at line
  exact line

/-- Settles O47: the LAYOUT lines in the order of their table, the TICKET lines as their entries say. -/
theorem layoutAndTicketCommands : Obligations.LayoutAndTicketCommands := by
  unfold Obligations.LayoutAndTicketCommands
  intro s busy
  refine ⟨fun n k t out => exec_layout_index out k t, fun n k t _ out => exec_layout_line_index out n t, ?_, ?_, ?_⟩
  · intro n k t layout low high bad
    have line := exec_layoutLine (s := s) layout low high t
    refine ⟨fun ill => ?_, fun well held => ?_, fun well free => ?_, exec_layoutLineQuery layout low high⟩
    · by_cases first : 40 < t.length ∨ t.all printable = false
      · exact line.trans (if_pos first)
      · refine line.trans ((if_neg first).trans (if_pos ?_))
        rw [all_printable_iff] at first
        rcases ill with long | wide | bad
        exacts [absurd (.inl long) first, wide, absurd (.inr bad) first]
    · rw [if_neg (well_first well), if_neg fun wide => well (.inr (.inl wide))] at line
      exact line.trans (if_pos (layoutHeld_iff.mpr held))
    · rw [if_neg (well_first well), if_neg fun wide => well (.inr (.inl wide))] at line
      exact line.trans (if_neg fun held => free (layoutHeld_iff.mp held))
  · intro n layout
    have line := exec_layoutClear (s := s) layout
    exact ⟨fun held => line.trans (if_pos (layoutHeld_iff.mpr held)),
      fun free => line.trans (if_neg fun held => free (layoutHeld_iff.mp held))⟩
  · intro d p l mark act
    refine ⟨rfl, fun v => rfl, rfl, rfl, fun q => exec_reprint_param, fun q low high => ⟨fun absent => ?_,
      fun r found => ⟨exec_reprint_other low high found, fun c body => ⟨fun full => ?_, fun room => ?_⟩⟩⟩, ?_⟩
    · exact exec_reprint_absent low high (List.find?_eq_none.mpr fun r mem => by simpa using absent r mem)
    · refine (exec_reprint low high found body).trans (if_neg ?_)
      rw [room_iff]
      exact Nat.not_lt.mpr full
    · refine (exec_reprint low high found body).trans ((if_pos ((room_iff _).mpr room)).trans ?_)
      unfold joinQueue
      rw [State.modPrinter_deck]
      refine congrArg (fun n => answer (.ok [nat n]) _) ?_
      exact List.length_append
    · exact ticketQuery_fields s d

end Sys2Proof.Machine
end

section
/-! PROOFS. Chapter 9, the printer's events: the PRN condition (R178), a job printed and its ticket taken
(R175 to R177). -/

namespace Sys2Proof.Machine

-- One declaration after another: at once they ask for more threads than the check's limits allow.
set_option Elab.async false

variable {s t u : State} {d : Deck} {n : Nat}

theorem Timer.isRunning_iff (x : Timer) : x.isRunning = true ↔ ∃ n, x = .running n := by
  cases x <;> simp [Timer.isRunning]

/-! ### The PRN condition (R178) -/

/-- A printer as the PRN condition takes it into FAULT (R178). -/
def Printer.faulted (p : Printer) : Printer :=
  let sent := decide (p.state = .printing)
  { p with
    state := .fault, condition := true
    send := if sent then none else p.send
    charGoing := if sent then false else p.charGoing
    busyAfterEnd := if sent then false else p.busyAfterEnd
    endTimer := if sent then .stopped else p.endTimer
    uncollected := if p.state = .waitTake then .stopped else p.uncollected }

theorem printerFaultEntry_eq (d : Deck) (s : State) :
    printerFaultEntry d s = condArises (.prn d) (s.modPrinter d Printer.faulted) := by
  unfold printerFaultEntry
  congr 2
  funext p
  unfold Printer.faulted
  cases p.state <;> rfl

/-- The entry into FAULT from a state whose printer and faults are those of `s` (R178). -/
theorem printerFaultEntry_spec {s0 : State} {p : Printer} (printer : (s0.deck d).printer = p)
    (frame : s0 = { s with decks := s0.decks }) :
    let t := printerFaultEntry d s0
    t = condArises (.prn d) (s0.modPrinter d Printer.faulted)
      ∧ (t.deck d).printer = p.faulted ∧ (t.faults.get (.prn d)).state = .active
      ∧ (∀ f, f ≠ .prn d → t.faults.get f = s.faults.get f)
      ∧ t = { s with decks := t.decks, faults := t.faults, reports := t.reports } := by
  intro t
  have shape : t = condArises (.prn d) (s0.modPrinter d Printer.faulted) := printerFaultEntry_eq d s0
  clear_value t
  subst shape
  refine ⟨rfl, ?_, condArises_active _ _, fun f ne => ?_, ?_⟩
  · obtain ⟨v, r, arisen, -⟩ := condArises_spec (s0.modPrinter d Printer.faulted) (.prn d)
    rw [arisen]
    change ((s0.modPrinter d Printer.faulted).deck d).printer = _
    rw [State.modPrinter_deck, printer]
  · rw [show (condArises (.prn d) (s0.modPrinter d Printer.faulted)).faults.get f =
      (s0.modPrinter d Printer.faulted).faults.get f from signal_entry_of_ne ne .arises _, frame] <;> rfl
  · obtain ⟨v, r, arisen, -⟩ := condArises_spec (s0.modPrinter d Printer.faulted) (.prn d)
    rw [arisen, frame]
    rfl

theorem condEnds_quiet (f : FaultSource) (s : State) : ((condEnds f s).faults.get f).state ≠ .active := by
  rw [show ((condEnds f s).faults.get f).state = _ from signal_entry f .ends s]
  cases (s.faults.get f).state <;> decide

theorem exec_paper (b : Bool) : exec (.paperChange d b) s = .next
    (if b then printerConditionBegins d (s.modDeckLines d fun l => { l with paper := b })
      else printerConditionEnds d (s.modDeckLines d fun l => { l with paper := b })) := rfl

theorem begins_present (h : (s.deck d).printer.condition = true) : printerConditionBegins d s = s := if_pos h

theorem begins_absent (h : (s.deck d).printer.condition = false) :
    printerConditionBegins d s = printerFaultEntry d s := if_neg (ne_true_of_eq_false h)

theorem ends_stays (h : (s.deck d).printer.condition = false ∨ (s.deck d).lines.paper = true
    ∨ (s.deck d).lines.busy = true) : printerConditionEnds d s = s := by
  refine if_neg ?_
  rcases h with h | h | h <;> simp [h]

theorem ends_both (condition : (s.deck d).printer.condition = true) (paper : (s.deck d).lines.paper = false)
    (busy : (s.deck d).lines.busy = false) : printerConditionEnds d s =
      condEnds (.prn d) (s.modPrinter d fun p => { p with condition := false }) :=
  if_pos (by simp [condition, paper, busy])

/-- BUSY read inactive, the stuck timer stopped (R178). -/
def unbusied (d : Deck) (s : State) : State :=
  (s.modDeckLines d fun l => { l with busy := false }).modPrinter d fun p => { p with stuck := .stopped }

theorem unbusied_deck (d : Deck) (s : State) : (unbusied d s).deck d = { s.deck d with
    lines := { (s.deck d).lines with busy := false }, printer := { (s.deck d).printer with stuck := .stopped } } := by
  rw [unbusied, State.modPrinter_deck, State.modDeckLines_deck]

theorem exec_busy_same (b : Bool) (h : (s.deck d).lines.busy = b) : exec (.busyChange d b) s = .next s := if_pos h

theorem exec_busy_on (h : (s.deck d).lines.busy = false) : exec (.busyChange d true) s = .next (busyOn d s) :=
  if_neg (by simp [h])

theorem exec_busy_off (h : (s.deck d).lines.busy = true) : exec (.busyChange d false) s = .next (busyOff d s) :=
  if_neg (by simp [h])

theorem busyOff_idle (h : (s.deck d).printer.state ≠ .printing) :
    busyOff d s = printerConditionEnds d (unbusied d s) := by
  have printer : ((unbusied d s).deck d).printer.state ≠ .printing := by
    rw [unbusied_deck]
    exact h
  exact congrArg (printerConditionEnds d) (if_neg printer)

theorem exec_stuck_rests (h : ∀ n, (s.deck d).printer.stuck ≠ .running n) :
    exec (.stuckTimerExpiry d) s = .next s :=
  if_neg fun running => by
    obtain ⟨n, is⟩ := (Timer.isRunning_iff _).mp running
    exact h n is

theorem exec_stuck_runs (h : (s.deck d).printer.stuck = .running n) : exec (.stuckTimerExpiry d) s = .next
    (if (s.deck d).lines.busy then
      printerConditionBegins d (s.modPrinter d fun p => { p with stuck := .expired })
    else s.modPrinter d fun p => { p with stuck := .expired }) :=
  if_pos ((Timer.isRunning_iff _).mpr ⟨n, h⟩)

/-- Settles O46: by the condition, PAPER and BUSY. -/
theorem printerFaultsFollowPaperAndBusy : Obligations.PrinterFaultsFollowPaperAndBusy := by
  unfold Obligations.PrinterFaultsFollowPaperAndBusy
  intro s d u p paperIs busyOver ended faulted
  have enters {i : Instr} {s0 : State} {p0 : Printer} (line : exec i s = .next (printerFaultEntry d s0))
      (printer : (s0.deck d).printer = p0) (state : p0.state = p.state) (queue : p0.queue = p.queue)
      (presented : p0.presented = p.presented) (frame : s0 = { s with decks := s0.decks }) : faulted i s0 := by
    obtain ⟨shape, unit, active, others, rest⟩ := printerFaultEntry_spec printer frame
    refine ⟨_, line, shape, ?_, ?_, ?_, ?_, active, fun printing => ?_, fun waiting => ?_, others, rest⟩
    · rw [unit]
      rfl
    · rw [unit]
      rfl
    · rw [unit]
      exact queue
    · rw [unit]
      exact presented
    · rw [unit, Printer.faulted, state, printing]
      exact ⟨rfl, rfl, rfl⟩
    · rw [unit, Printer.faulted, state, waiting]
      rfl
  have paperDeck (b : Bool) : (paperIs b).deck d = { u with lines := { u.lines with paper := b } } :=
    State.modDeckLines_deck s d _
  have paperPrinter (b : Bool) : ((paperIs b).deck d).printer = p := by
    rw [paperDeck]
  have busyPrinter : (busyOver.deck d).printer.condition = p.condition := by
    rw [show busyOver.deck d = _ from unbusied_deck d s]
  have busyLines : (busyOver.deck d).lines = { u.lines with busy := false } := by
    rw [show busyOver.deck d = _ from unbusied_deck d s]
  refine ⟨fun present => ?_, fun absent => ?_, fun either => ?_, fun present busy => ?_, fun busy present idle =>
    ⟨fun paper => ?_, fun paper => ?_⟩, exec_stuck_rests, fun n running => ⟨fun either => ?_, fun busy absent => ?_⟩⟩
  · exact (exec_paper true).trans (congrArg _ (begins_present (by rw [paperPrinter]; exact present)))
  · exact enters ((exec_paper true).trans (congrArg _ (begins_absent (by rw [paperPrinter]; exact absent))))
      (paperPrinter true) rfl rfl rfl rfl
  · refine (exec_paper false).trans (congrArg _ (ends_stays ?_))
    rw [paperDeck]
    exact either.imp_right .inr
  · have line := (exec_paper (s := s) (d := d) false).trans (congrArg Host.Outcome.next (ends_both
      (by rw [paperPrinter]; exact present) (by rw [paperDeck]) (by rw [paperDeck]; exact busy)))
    exact ⟨_, line, condEnds_quiet _ _, rfl⟩
  · refine (exec_busy_off busy).trans (congrArg _ ((busyOff_idle idle).trans (ends_stays (.inr (.inl ?_)))))
    exact (congrArg DeckReadings.paper busyLines).trans paper
  · have line := (exec_busy_off busy).trans (congrArg Host.Outcome.next ((busyOff_idle idle).trans
      (ends_both (busyPrinter.trans present) ((congrArg DeckReadings.paper busyLines).trans paper)
        (congrArg DeckReadings.busy busyLines))))
    exact ⟨_, line, condEnds_quiet _ _, rfl⟩
  · refine (exec_stuck_runs running).trans (congrArg _ ?_)
    by_cases busy : u.lines.busy = true
    · refine (if_pos busy).trans (begins_present ?_)
      rw [State.modPrinter_deck]
      exact either.resolve_left (by simp [busy])
    · exact if_neg busy
  · refine enters (p0 := { p with stuck := .expired }) ((exec_stuck_runs running).trans (congrArg _
      ((if_pos busy).trans (begins_absent ?_)))) ?_ rfl rfl rfl rfl
    · rw [State.modPrinter_deck]
      exact absent
    · rw [State.modPrinter_deck]

end Sys2Proof.Machine
end

section
/-! PROOFS. Chapter 9, a job printed, and its ticket taken or pushed aside (R117, R172, R175 to R177). -/

namespace Sys2Proof.Machine

-- One declaration after another: at once they ask for more threads than the check's limits allow.
set_option Elab.async false

variable {s t u : State} {d : Deck} {n : Nat} {j : Job} {js : List Job}

/-! ### What the sequencer is told (R117) -/

/-- What becomes of `s1` when a sequencer that stands as `q` learns that the ticket of settlement `sq` has come
to `pr`. -/
def Told (d : Deck) (q : Sequencer) (time : Nat) (t s1 : State) (sq : Nat) (pr : TicketProgress) : Prop :=
  ((q.state ≠ .ticketing ∨ q.ticket.map Ticket.seq ≠ some sq) → t = s1)
    ∧ (q.state = .ticketing → q.ticket.map Ticket.seq = some sq →
        (q.release = .atTaken → pr = .printed → t = s1.modSeq d fun q =>
          { q with ticket := some ⟨sq, pr⟩, take := .running time })
        ∧ (q.release = .atPrinted ∨ pr = .taken → q.approach ≠ none →
            (t.deck d).seq.state = .departing ∧ (t.deck d).seq.ticket = some ⟨sq, pr⟩
            ∧ (t.deck d).seq.take = .stopped))

theorem State.modSeq_congr {f g : Sequencer → Sequencer} (h : f (s.deck d).seq = g (s.deck d).seq) :
    s.modSeq d f = s.modSeq d g :=
  State.modDeck_congr (congrArg (fun q => { s.deck d with seq := q }) h)

theorem State.modPrinter_congr {f g : Printer → Printer} (h : f (s.deck d).printer = g (s.deck d).printer) :
    s.modPrinter d f = s.modPrinter d g :=
  State.modDeck_congr (congrArg (fun p => { s.deck d with printer := p }) h)

theorem State.modPrinter_modPrinter (s : State) (d : Deck) (f g : Printer → Printer) :
    (s.modPrinter d f).modPrinter d g = s.modPrinter d (g ∘ f) := by
  cases d <;> rfl

/-- The record of a sequencer that learns of a ticket (R117). -/
def Sequencer.informed (q : Sequencer) (time sq : Nat) (pr : TicketProgress) : Sequencer :=
  { q with
    ticket := some { seq := sq, progress := pr }
    take := if pr = .printed ∧ q.release = .atTaken then .running time else q.take }

theorem ticketProgress_other {sq : Nat} {pr : TicketProgress}
    (h : ¬ ((s.deck d).seq.state = .ticketing ∧ (s.deck d).seq.ticket.map Ticket.seq = some sq)) :
    ticketProgress d sq pr s = s := if_neg h

theorem ticketProgress_own {sq : Nat} {pr : TicketProgress} (state : (s.deck d).seq.state = .ticketing)
    (ticket : (s.deck d).seq.ticket.map Ticket.seq = some sq) : ticketProgress d sq pr s =
      testRelease d (s.modSeq d fun q => q.informed (s.deck d).settings.takeTime sq pr) := if_pos ⟨state, ticket⟩

theorem testRelease_stays (h : (s.deck d).seq.released = false) : testRelease d s = s :=
  if_neg fun ⟨_, yes⟩ => by simp [h] at yes

theorem testRelease_leaves {e : EndId} (state : (s.deck d).seq.state = .ticketing)
    (released : (s.deck d).seq.released = true) (approach : (s.deck d).seq.approach = some e) :
    testRelease d s = enterPassage d .departing e.other s :=
  (if_pos ⟨state, released⟩).trans (enterDeparting_eq _ _ _ approach)

theorem ticketProgress_told {q : Sequencer} {time sq : Nat} {pr : TicketProgress} (seq : (s.deck d).seq = q)
    (settings : (s.deck d).settings.takeTime = time) (late : pr = .printed ∨ pr = .taken) :
    Told d q time (ticketProgress d sq pr s) s sq pr := by
  subst seq settings
  refine ⟨fun other => ticketProgress_other fun ⟨state, ticket⟩ => ?_, fun state ticket => ⟨fun release printed => ?_,
    fun out approach => ?_⟩⟩
  · exact other.elim (fun h => h state) fun h => h ticket
  · subst printed
    rw [ticketProgress_own state ticket, testRelease_stays]
    · exact State.modSeq_congr (by simp [Sequencer.informed, release])
    · rw [State.modSeq_deck]
      simp [Sequencer.informed, Sequencer.released, release]
  · obtain ⟨e, approach⟩ := Option.ne_none_iff_exists'.mp approach
    rw [ticketProgress_own state ticket]
    have informed := State.modSeq_deck s d fun q => q.informed (s.deck d).settings.takeTime sq pr
    have released : ((s.deck d).seq.informed (s.deck d).settings.takeTime sq pr).released = true := by
      unfold Sequencer.informed Sequencer.released
      rcases out with printed | rfl
      · rw [printed]
        rcases late with rfl | rfl <;> rfl
      · cases (s.deck d).seq.release <;> rfl
    rw [testRelease_leaves (e := e) (by rw [informed]; exact state) (by rw [informed]; exact released)
      (by rw [informed]; exact approach), enterPassage_deck, informed]
    exact ⟨rfl, rfl, rfl⟩

theorem ticketProgress_printer (sq : Nat) (pr : TicketProgress) (s : State) :
    ((ticketProgress d sq pr s).deck d).printer = (s.deck d).printer := by
  unfold ticketProgress testRelease enterDeparting
  dsimp only
  split
  · split
    · split
      · rw [enterPassage_deck, State.modSeq_deck]
      · rw [State.modSeq_deck]
    · rw [State.modSeq_deck]
  · rfl

/-! ### A job printed (R175) -/

/-- The state in which a job has been printed and reported. -/
def printedState (d : Deck) (j : Job) (js : List Job) (s : State) : State :=
  offer .ticketPrinted (.deck d) [toString j.seq, if j.copy then "COPY" else "ORIGINAL", toString j.layout]
    (s.modPrinter d fun p => { p with
      queue := js, presented := some j, endTimer := .stopped, send := none, charGoing := false
      state := .waitTake, uncollected := .running p.uncollectedTime })

theorem printedState_deck (s : State) : (printedState d j js s).deck d = { s.deck d with printer := { (s.deck d).printer with
    queue := js, presented := some j, endTimer := .stopped, send := none, charGoing := false
    state := .waitTake, uncollected := .running (s.deck d).printer.uncollectedTime } } := by
  rw [printedState, offer_deck, State.modPrinter_deck]

theorem jobPrinted_eq (queue : (s.deck d).printer.queue = j :: js) : jobPrinted d s =
    if j.copy then printedState d j js s else ticketProgress d j.seq .printed (printedState d j js s) := by
  unfold jobPrinted
  rw [queue] <;> rfl

theorem jobPrinted_condition (s : State) :
    ((jobPrinted d s).deck d).printer.condition = (s.deck d).printer.condition := by
  cases queue : (s.deck d).printer.queue with
  | nil =>
    unfold jobPrinted
    rw [queue]
  | cons j js =>
    rw [jobPrinted_eq queue]
    split
    · rw [printedState_deck]
    · rw [ticketProgress_printer, printedState_deck]

/-- A job printed, for a sequencer and settings that stand as in `s` (R117, R175). -/
theorem jobPrinted_spec {q : Sequencer} {time : Nat} (queue : (s.deck d).printer.queue = j :: js)
    (seq : (s.deck d).seq = q) (settings : (s.deck d).settings.takeTime = time) :
    (j.copy = true → jobPrinted d s = printedState d j js s)
      ∧ (j.copy = false → Told d q time (jobPrinted d s) (printedState d j js s) j.seq .printed) := by
  rw [jobPrinted_eq queue]
  refine ⟨fun copy => if_pos copy, fun original => ?_⟩
  rw [if_neg (ne_true_of_eq_false original)]
  exact ticketProgress_told (by rw [printedState_deck]; exact seq) (by rw [printedState_deck]; exact settings) (.inl rfl)

/-! ### The end timer and BUSY (R175) -/

theorem exec_endTimer_rests (h : (s.deck d).printer.state ≠ .printing ∨ ∀ n, (s.deck d).printer.endTimer ≠ .running n) :
    exec (.printerEndTimerExpiry d) s = .next s := by
  refine if_neg fun ⟨state, running⟩ => ?_
  obtain ⟨n, is⟩ := (Timer.isRunning_iff _).mp running
  exact h.elim (fun no => no state) fun no => no n is

theorem exec_endTimer (state : (s.deck d).printer.state = .printing) (timer : (s.deck d).printer.endTimer = .running n) :
    exec (.printerEndTimerExpiry d) s = if (s.deck d).printer.busyAfterEnd
      then .next (s.modPrinter d fun p => { p with endTimer := .stopped }) else .next (jobPrinted d s) :=
  if_pos ⟨state, (Timer.isRunning_iff _).mpr ⟨n, timer⟩⟩

theorem lastSent_eq (p : Printer) : p.lastSent = match p.send with
    | some pos => pos.rest.isEmpty
    | none => false := by
  unfold Printer.lastSent
  rfl

theorem lastSent_iff (p : Printer) : p.lastSent = true ↔ ∃ n, p.send = some { line := n, rest := [] } := by
  unfold Printer.lastSent
  rcases p.send with _ | ⟨n, _ | ⟨c, rest⟩⟩ <;> simp

theorem busyOff_continues (state : (s.deck d).printer.state = .printing) (more : ¬ (s.deck d).printer.lastSent = true)
    (condition : (s.deck d).printer.condition = false) :
    busyOff d s = (unbusied d s).modPrinter d fun p => { p with charGoing := true } := by
  have printer := unbusied_deck d s
  have state' : ((unbusied d s).deck d).printer.state = .printing := by rw [printer]; exact state
  have more' : ¬ ((unbusied d s).deck d).printer.lastSent = true := by rw [printer]; exact more
  refine (congrArg (printerConditionEnds d) ((if_pos state').trans (if_neg more'))).trans (ends_stays (.inl ?_))
  rw [State.modPrinter_deck]
  change ((unbusied d s).deck d).printer.condition = false
  rw [printer]
  exact condition

theorem busyOff_prints (state : (s.deck d).printer.state = .printing) (last : (s.deck d).printer.lastSent = true)
    (awaited : (s.deck d).printer.busyAfterEnd = true) (condition : (s.deck d).printer.condition = false) :
    busyOff d s = jobPrinted d (unbusied d s) := by
  have printer := unbusied_deck d s
  have state' : ((unbusied d s).deck d).printer.state = .printing := by rw [printer]; exact state
  have last' : ((unbusied d s).deck d).printer.lastSent = true := by rw [printer]; exact last
  have awaited' : ((unbusied d s).deck d).printer.busyAfterEnd = true := by rw [printer]; exact awaited
  refine (congrArg (printerConditionEnds d) ((if_pos state').trans ((if_pos last').trans (if_pos awaited')))).trans
    (ends_stays (.inl ?_))
  rw [jobPrinted_condition]
  change ((unbusied d s).deck d).printer.condition = false
  rw [printer]
  exact condition

/-! ### Taking (R176, R177) -/

/-- The state in which the presented ticket has been taken. -/
def takenState (d : Deck) (s : State) : State :=
  s.modPrinter d fun p =>
    if p.state = .waitTake then { p with presented := none, uncollected := .stopped, state := .ready }
    else { p with presented := none }

theorem exec_take_stays (h : (s.deck d).lines.taken = true) : exec (.takeEvent d) s = .next s := if_pos h

/-- TAKEN read active. -/
def tookState (d : Deck) (s : State) : State := s.modDeckLines d fun l => { l with taken := true }

theorem exec_take (h : (s.deck d).lines.taken = false) :
    exec (.takeEvent d) s = .next (ticketTaken d (tookState d s)) := if_neg (ne_true_of_eq_false h)

theorem ticketTaken_none (h : (s.deck d).printer.presented = none) : ticketTaken d s = s := by
  unfold ticketTaken
  rw [h]

theorem ticketTaken_some (h : (s.deck d).printer.presented = some j) : ticketTaken d s =
    if j.copy then takenState d s else ticketProgress d j.seq .taken (takenState d s) := by
  unfold ticketTaken
  rw [h]
  rfl

theorem exec_uncollected_rests (h : ∀ n, (s.deck d).printer.uncollected ≠ .running n) :
    exec (.uncollectedTimerExpiry d) s = .next s :=
  if_neg fun running => by
    obtain ⟨n, is⟩ := (Timer.isRunning_iff _).mp running
    exact h n is

/-- The uncollected timer expired. -/
def uncollectedOut (d : Deck) (s : State) : State := s.modPrinter d fun p => { p with uncollected := .expired }

theorem exec_uncollected (h : (s.deck d).printer.uncollected = .running n) :
    exec (.uncollectedTimerExpiry d) s = .next (if ((uncollectedOut d s).deck d).printer.mayStart
      then startJob d (uncollectedOut d s) else uncollectedOut d s) :=
  if_pos ((Timer.isRunning_iff _).mpr ⟨n, h⟩)

theorem mayStart_waiting {p : Printer} (state : p.state = .waitTake) (expired : p.uncollected = .expired)
    (queue : p.queue = j :: js) : p.mayStart = true := by
  simp [Printer.mayStart, state, expired, queue]

theorem mayStart_empty {p : Printer} (queue : p.queue = []) : p.mayStart = false := by
  simp [Printer.mayStart, queue]

/-- A printer as its head job starts (R174, R177). -/
def Printer.started (p : Printer) (busy : Bool) (rest : Text) : Printer :=
  { p with
    state := .printing, presented := none, uncollected := .stopped, busyAfterEnd := false
    charGoing := !busy, endTimer := .stopped, send := some { line := 1, rest := rest } }

theorem startJob_eq (queue : (s.deck d).printer.queue = j :: js) :
    startJob d s = s.modPrinter d fun p => p.started (s.deck d).lines.busy (lineChars s j 1) := by
  unfold startJob
  rw [queue]
  rfl

/-- Settles O45: what prints a job, what takes its ticket, and what the sequencer learns of either. -/
theorem jobsPrintAndTicketsAreTaken : Obligations.JobsPrintAndTicketsAreTaken := by
  unfold Obligations.JobsPrintAndTicketsAreTaken
  intro s d u p q told prints busyIs
  have prints_ {i : Instr} {s0 : State} {j : Job} {js : List Job} (line : exec i s = .next (jobPrinted d s0))
      (queue : (s0.deck d).printer.queue = j :: js) (seq : (s0.deck d).seq = q)
      (settings : (s0.deck d).settings.takeTime = u.settings.takeTime) : prints i s0 j js := by
    obtain ⟨copy, original⟩ := jobPrinted_spec queue seq settings
    exact ⟨_, line, copy, original⟩
  have deck0 := unbusied_deck d s
  have took := State.modDeckLines_deck s d fun l => { l with taken := true }
  refine ⟨exec_endTimer_rests, fun n state timer => ⟨fun again => ?_, fun quiet j js queue => ?_⟩,
    exec_busy_same _ rfl, fun quiet => ?_, fun busy sound => ⟨fun idle => ?_, fun state more => ?_,
    fun n j js state last awaited queue => ?_⟩, exec_take_stays, fun free => ⟨fun none_ => ?_, fun j presented => ?_⟩,
    rfl, exec_uncollected_rests, fun n running => ⟨fun empty => ?_, fun j js state queue => ?_⟩⟩
  · exact (exec_endTimer state timer).trans (if_pos again)
  · exact prints_ ((exec_endTimer state timer).trans (if_neg (ne_true_of_eq_false quiet))) queue rfl rfl
  · refine (exec_busy_on quiet).trans (congrArg _ ?_)
    unfold busyOn
    simp only [lastSent_eq] <;> rfl
  · exact (exec_busy_off busy).trans (congrArg _ ((busyOff_idle idle).trans (ends_stays (.inl (by
      rw [deck0]
      exact sound)))))
  · refine (exec_busy_off busy).trans (congrArg _ ((busyOff_continues state ?_ sound).trans ?_))
    · rw [lastSent_iff]
      exact fun ⟨n, is⟩ => more n is
    · rw [unbusied, State.modPrinter_modPrinter]
      rfl
  · refine prints_ (s0 := unbusied d s) ((exec_busy_off busy).trans (congrArg _
      (busyOff_prints state ((lastSent_iff _).mpr ⟨n, last⟩) awaited sound))) ?_ ?_ ?_ <;> rw [deck0]
    · exact queue
  · refine (exec_take free).trans (congrArg _ (ticketTaken_none ?_))
    rw [tookState, took]
    exact none_
  · have here : ((tookState d s).deck d).printer.presented = some j := by
      rw [tookState, took]
      exact presented
    refine ⟨_, (exec_take free).trans (congrArg _ (ticketTaken_some here)), fun copy => if_pos copy, fun original => ?_⟩
    rw [if_neg (ne_true_of_eq_false original)]
    refine ticketProgress_told ?_ ?_ (.inr rfl) <;> rw [takenState, State.modPrinter_deck, tookState, took]
  · have unit := State.modPrinter_deck s d fun p => { p with uncollected := .expired }
    refine (exec_uncollected running).trans (congrArg _ (if_neg ?_))
    rw [uncollectedOut, unit]
    exact ne_true_of_eq_false (mayStart_empty empty)
  · have unit : (uncollectedOut d s).deck d = { u with printer := { p with uncollected := .expired } } :=
      State.modPrinter_deck ..
    have starts : ((uncollectedOut d s).deck d).printer.mayStart = true := by
      rw [unit]
      exact mayStart_waiting state rfl queue
    have start := startJob_eq (s := uncollectedOut d s) (d := d) (j := j) (js := js) (by rw [unit]; exact queue)
    have printer : ((startJob d (uncollectedOut d s)).deck d).printer =
        { p with uncollected := .expired }.started u.lines.busy (lineChars s j 1) := by
      rw [start, State.modPrinter_deck, unit]
      rfl
    refine ⟨_, (exec_uncollected running).trans (congrArg _ (if_pos starts)), ?_, ?_, ?_, ?_, ?_, ?_⟩
    · rw [printer]
      rfl
    · rw [printer]
      rfl
    · rw [printer]
      rfl
    · rw [start]
      rfl
    · rw [printer]
      rfl
    · rw [printer, start, unit]
      rw [uncollectedOut, State.modPrinter_modPrinter]
      exact State.modPrinter_congr rfl

end Sys2Proof.Machine
end

section
/-! PROOFS. Chapter 9, how a printer sends its head job (R172, R174, R177), and the fields of a line (R170). -/

namespace Sys2Proof.Machine

-- One declaration after another: at once they ask for more threads than the check's limits allow.
set_option Elab.async false

variable {s t u : State} {d : Deck} {n : Nat} {j : Job} {js : List Job} {name : Text}

/-! ### The job's characters (R172) -/

theorem mayStart_iff (p : Printer) : p.mayStart = true ↔
    p.queue ≠ [] ∧ (p.state = .ready ∨ p.state = .waitTake ∧ p.uncollected = .expired) := by
  unfold Printer.mayStart
  cases p.state <;> simp

/-- The text of a line of a job after replacement. -/
def lineText (s : State) (j : Job) (n : Nat) : Text :=
  expandLine (s.cls j.values.cls).name j ((s.layout j.layout).getD (n - 1) [])

theorem lineChars_inner (h : n < layoutLength (s.layout j.layout)) :
    lineChars s j n = lineText s j n ++ [Char.ofNat 13, Char.ofNat 10] := by
  unfold lineChars
  dsimp only
  rw [if_neg (Nat.not_le.mpr h), if_pos h.le]
  rfl

theorem lineChars_last (s : State) (j : Job) : lineChars s j (layoutLength (s.layout j.layout)) =
    lineText s j (layoutLength (s.layout j.layout)) ++ [Char.ofNat 13, Char.ofNat 10, Char.ofNat 12] := by
  unfold lineChars
  dsimp only
  rw [if_pos le_rfl, if_pos le_rfl, List.append_assoc]
  rfl

theorem lineChars_empty (h : layoutLength (s.layout j.layout) = 0) : lineChars s j 1 = [Char.ofNat 12] := by
  unfold lineChars
  dsimp only
  rw [h]
  rfl

/-! ### Its sending (R172, R174) -/

theorem exec_jobStart_stays (h : ¬ (s.deck d).printer.mayStart = true) : exec (.printerJobStart d) s = .next s := if_neg h

theorem exec_jobStart (h : (s.deck d).printer.mayStart = true) :
    exec (.printerJobStart d) s = .next (startJob d s) := if_pos h

theorem exec_sent_stays (h : (s.deck d).printer.charGoing = false ∨ (s.deck d).printer.send = none) :
    exec (.printerCharacterSent d) s = .next s ∧ exec (.printerLastCharacterSent d) s = .next s := by
  change execPrinterCharacterSent d s = _ ∧ execPrinterLastCharacterSent d s = _
  unfold execPrinterCharacterSent execPrinterLastCharacterSent
  dsimp only
  rcases h with still | none_
  · constructor
    · split
      · exact if_neg (by simp [still])
      · rfl
    · split
      · exact if_neg (by simp [still])
      · rfl
  · rw [none_]
    exact ⟨rfl, rfl⟩

/-- The state in which a printer sends from a position. -/
def sendsFrom (d : Deck) (pos : SendPosition) (s : State) : State :=
  s.modPrinter d fun p => { p with send := some pos, charGoing := !(s.deck d).lines.busy }

theorem exec_sent {c : Char} {rest : Text} (queue : (s.deck d).printer.queue = j :: js)
    (going : (s.deck d).printer.charGoing = true)
    (send : (s.deck d).printer.send = some { line := n, rest := c :: rest }) (more : c :: rest ≠ [formFeed]) :
    exec (.printerCharacterSent d) s = .next (sendsFrom d
      (if rest.isEmpty then { line := n + 1, rest := lineChars s j (n + 1) } else { line := n, rest := rest }) s) := by
  change execPrinterCharacterSent d s = _
  unfold execPrinterCharacterSent
  dsimp only
  rw [send, queue]
  exact if_pos ⟨going, fun h => more (congrArg SendPosition.rest (Option.some.inj h))⟩

theorem exec_lastSent (going : (s.deck d).printer.charGoing = true)
    (send : (s.deck d).printer.send = some { line := n, rest := [formFeed] }) :
    exec (.printerLastCharacterSent d) s = .next (s.modPrinter d fun p =>
      { p with send := some { line := n, rest := [] }, charGoing := false, endTimer := .running 2
               busyAfterEnd := (s.deck d).lines.busy }) := by
  change execPrinterLastCharacterSent d s = _
  unfold execPrinterLastCharacterSent
  dsimp only
  rw [send]
  exact if_pos ⟨going, rfl⟩

/-! ### The fields of a line (R170) -/

theorem markerWidth_none {c : Char} (h : c ∉ ['G', 'T', 'N', 'C', 'B', 'Q', 'V', 'P', 'A', 'K', 'D', 'H', 'Z', 'S', 'X']) :
    markerWidth c = none := by
  unfold markerWidth
  split <;> first | rfl | exact absurd (by decide) h

theorem expandLine_plain {c : Char} (rest : Text) (h : c ≠ '~') :
    expandLine name j (c :: rest) = c :: expandLine name j rest := by
  rw [expandLine.eq_def]
  split
  next same => exact absurd (List.cons.inj same).1 h
  next same =>
    obtain ⟨rfl, rfl⟩ := List.cons.inj same
    rfl
  next same => cases same

theorem padRight_length {w : Nat} {x : Text} (h : x.length ≤ w) : (padRight w x).length = w := by
  simp [padRight]
  omega

/-- A line whose fields fit prints exactly its printed width (R170). -/
theorem expandLine_length (short : name.length ≤ 12)
    (fit : ∀ c w, markerWidth c = some w → c ≠ 'K' → (fieldText name j c w).length = w) (x : Text) :
    (expandLine name j x).length = printedWidth x := by
  have width {c : Char} {w : Nat} (h : markerWidth c = some w) : (fieldText name j c w).length = w := by
    by_cases k : c = 'K'
    · subst k
      obtain rfl : 12 = w := Option.some.inj h
      exact padRight_length short
    · exact fit c w h k
  induction x using printedWidth.induct with
  | case1 c rest w marker ih =>
    rw [expandLine, printedWidth, marker]
    simp only [List.length_append, width marker, ih]
  | case2 c rest marker ih =>
    rw [expandLine, printedWidth, marker]
    simp only [List.length_cons, ih]
    omega
  | case3 c rest no ih =>
    have wide : printedWidth (c :: rest) = 1 + printedWidth rest := by
      rw [printedWidth]
      exact no
    rw [wide, Nat.add_comm, ← ih]
    by_cases tilde : c = '~'
    · subst tilde
      cases rest with
      | nil => rfl
      | cons x rest => exact absurd rfl (no x rest rfl)
    · rw [expandLine_plain rest tilde, List.length_cons]
  | case4 => rfl

/-- Settles O44: the send position's course, and the fields of R170 one by one. -/
theorem printerSendsTheHeadJob : Obligations.PrinterSendsTheHeadJob := by
  unfold Obligations.PrinterSendsTheHeadJob
  refine ⟨?_, ?_, fun name j x short fit => expandLine_length short fit x⟩
  · intro s d u p may sends
    refine ⟨fun no => exec_jobStart_stays fun yes => no ((mayStart_iff p).mp yes), exec_sent_stays, ?_⟩
    intro j js queue l text
    refine ⟨fun yes => (exec_jobStart ((mayStart_iff p).mpr yes)).trans (congrArg _ (startJob_eq queue)),
      fun n _ inner => lineChars_inner inner, fun _ => lineChars_last s j, lineChars_empty,
      fun going => ⟨fun n c x rest send => exec_sent queue going send (by simp), fun n c other send => ?_,
        fun n send => exec_lastSent going send⟩⟩
    exact exec_sent queue going send fun h => other (List.cons.inj h).1
  · intro name j v right left mark fields
    refine ⟨fun c w x mem => ?_, fun c absent => markerWidth_none absent, rfl, rfl,
      fun c rest => expandLine_plain rest, fun c rest => ?_⟩
    · have second : v.secondText = String.toList (match v.second, v.tare with
          | some p, _ => toString p.1
          | none, some p => toString p.1
          | none, none => "") := by
        unfold Settlement.secondText
        cases v.second <;> cases v.tare <;> rfl
      have copied : padRight 4 (if j.copy then "COPY".toList else []) =
          if j.copy then ['C', 'O', 'P', 'Y'] else [' ', ' ', ' ', ' '] := by
        cases j.copy <;> rfl
      simp only [fields, List.mem_cons, List.not_mem_nil, or_false, Prod.mk.injEq] at mem
      rcases mem with ⟨rfl, rfl, rfl⟩ | ⟨rfl, rfl, rfl⟩ | ⟨rfl, rfl, rfl⟩ | ⟨rfl, rfl, rfl⟩ | ⟨rfl, rfl, rfl⟩
        | ⟨rfl, rfl, rfl⟩ | ⟨rfl, rfl, rfl⟩ | ⟨rfl, rfl, rfl⟩ | ⟨rfl, rfl, rfl⟩ | ⟨rfl, rfl, rfl⟩
        | ⟨rfl, rfl, rfl⟩ | ⟨rfl, rfl, rfl⟩ | ⟨rfl, rfl, rfl⟩ | ⟨rfl, rfl, rfl⟩ | ⟨rfl, rfl, rfl⟩
      case inr.inl => exact ⟨rfl, congrArg (padLeft 7) second⟩
      case inr.inr.inr.inr.inr.inr.inr.inr.inr.inr.inr.inr.inr.inr => exact ⟨rfl, copied⟩
      all_goals exact ⟨rfl, rfl⟩
    · rw [expandLine] <;> rfl

end Sys2Proof.Machine
end

section
/-! PROOFS. Chapter 10, carrying out a line: what is read from a line is one of the host's commands, and is
carried out as that command (R186, R187). -/

namespace Sys2Proof.Machine

-- One declaration after another: at once they ask for more threads than the check's limits allow.
set_option Elab.async false

variable {s t u : State} {ι : Type}

/-- A command that a line may hold: carrying it out is its own effect. -/
def Hosted (i : Instr) : Prop := ∀ s, carryOut i s = exec i s

/-- What is read is a host's command, or an error. -/
def Reading.Hosts : Reading → Prop
  | .command i => Hosted i
  | .wrong _ => True

/-- A form gives host's commands only. -/
def Form.Hosts : Form ι → Prop
  | .plain f => ∀ ts i, f ts = some i → Hosted i
  | .indexed f => ∀ x ts i, f x ts = some i → Hosted i

/-- Every form of an action gives host's commands only. -/
def Action.Hosts (a : Action ι) : Prop :=
  (∀ f, a.order = some f → f.Hosts) ∧ (∀ f, a.query = some f → f.Hosts) ∧ ∀ f, a.last = some f → f.Hosts

/-! ### Reading keeps to them -/

theorem readForm_hosts {f : Form ι} (h : f.Hosts) (x : Index ι) (ts : List Text) : (readForm f x ts).Hosts := by
  unfold readForm
  dsimp only
  split
  · trivial
  next g =>
    cases given : g ts with
    | none => trivial
    | some i => exact h ts i given
  next g v =>
    cases given : g v ts with
    | none => trivial
    | some i => exact h v ts i given
  · trivial
  · trivial
  · trivial
  · trivial

theorem readAction_hosts {acts : List (Action ι)} (h : ∀ a ∈ acts, a.Hosts) (x : Index ι) (w : Word)
    (ps : List Word) : (readAction acts x w ps).Hosts := by
  unfold readAction
  split
  · trivial
  next a found =>
    obtain ⟨order, query, last⟩ := h a (List.mem_of_find?_eq_some found)
    dsimp only
    split
    · trivial
    next f form =>
      refine readForm_hosts ?_ x _
      split at form
      exacts [order f form, query f form, last f form, absurd form (by simp)]

theorem readPlain_hosts {own : Option Instr} {acts : List (Action Unit)} (hown : ∀ i, own = some i → Hosted i)
    (h : ∀ a ∈ acts, a.Hosts) (subj : Word) (ws : List Word) : (readPlain own acts subj ws).Hosts := by
  unfold readPlain
  split
  · exact hown _ rfl
  · exact readAction_hosts h _ _ _
  · trivial

theorem bare_hosts {i : Instr} (h : Hosted i) {ts : List Text} {k : Instr} (given : bare i ts = some k) : Hosted k := by
  unfold bare at given
  split at given
  · exact Option.some.inj given ▸ h
  · cases given

theorem readIndexed_hosts {index : Text → Index ι} {own : Option (ι → Instr)} {acts : List (Action ι)}
    (hown : ∀ f, own = some f → ∀ x, Hosted (f x)) (h : ∀ a ∈ acts, a.Hosts) (subj : Word) (ws : List Word) :
    (readIndexed index own acts subj ws).Hosts := by
  unfold readIndexed
  split
  · split
    next f _ =>
      have form : Form.Hosts (.indexed fun x => bare (f x)) := fun x _ _ given => bare_hosts (hown f rfl x) given
      exact readForm_hosts form _ _
    · trivial
  · split
    · trivial
    · exact readAction_hosts h _ _ _
  · trivial

theorem readOptional_hosts {isIndex : Text → Bool} {index : Text → Index ι} {whole : Option Instr} {own : ι → Instr}
    {acts : List (Action ι)} (hwhole : ∀ i, whole = some i → Hosted i) (hown : ∀ x, Hosted (own x))
    (h : ∀ a ∈ acts, a.Hosts) (subj : Word) (ws : List Word) :
    (readOptional isIndex index whole own acts subj ws).Hosts := by
  unfold readOptional
  split
  · exact hwhole _ rfl
  · split
    · refine readIndexed_hosts (fun f given => ?_) h subj _
      exact Option.some.inj given ▸ hown
    · exact readAction_hosts h _ _ _
  · trivial

/-! ### The tables -/

@[simp] theorem hosts_indexed_iff {g : ι → List Text → Instr} :
    Form.Hosts (.indexed fun x ts => some (g x ts)) ↔ ∀ x ts, Hosted (g x ts) :=
  ⟨fun h x ts => h x ts _ rfl, fun h x ts _ given => Option.some.inj given ▸ h x ts⟩

@[simp] theorem hosts_indexed_bare_iff {g : ι → Instr} :
    Form.Hosts (.indexed fun x => bare (g x)) ↔ ∀ x, Hosted (g x) :=
  ⟨fun h x => h x [] _ rfl, fun h x _ _ given => bare_hosts (h x) given⟩

@[simp] theorem hosts_plain_iff {g : List Text → Instr} :
    Form.Hosts (.plain fun ts => some (g ts) : Form ι) ↔ ∀ ts, Hosted (g ts) :=
  ⟨fun h ts => h ts _ rfl, fun h ts _ given => Option.some.inj given ▸ h ts⟩

@[simp] theorem hosts_plain_bare_iff {i : Instr} : Form.Hosts (.plain (bare i) : Form ι) ↔ Hosted i :=
  ⟨fun h => h [] _ rfl, fun h _ _ given => bare_hosts h given⟩

theorem deckActions_host : ∀ a ∈ deckActions, a.Hosts := by
  simp [deckActions, Action.Hosts]
  and_intros <;> intros <;> exact fun _ => rfl

theorem endActions_host : ∀ a ∈ endActions, a.Hosts := by
  simp [endActions, Action.Hosts]
  and_intros <;> intros <;> exact fun _ => rfl

theorem barrierActions_host : ∀ a ∈ barrierActions, a.Hosts := by
  simp [barrierActions, Action.Hosts]
  and_intros <;> intros <;> exact fun _ => rfl

theorem visitActions_host : ∀ a ∈ visitActions, a.Hosts := by
  simp [visitActions, Action.Hosts]
  and_intros <;> intros <;> exact fun _ => rfl

theorem tagActions_host : ∀ a ∈ tagActions, a.Hosts := by
  simp [tagActions, Action.Hosts]
  and_intros <;> intros <;> exact fun _ => rfl

theorem tareActions_host : ∀ a ∈ tareActions, a.Hosts := by
  simp [tareActions, Action.Hosts]
  and_intros <;> intros <;> exact fun _ => rfl

theorem accountActions_host : ∀ a ∈ accountActions, a.Hosts := by
  simp [accountActions, Action.Hosts]
  and_intros <;> intros <;> exact fun _ => rfl

theorem classActions_host : ∀ a ∈ classActions, a.Hosts := by
  simp [classActions, Action.Hosts]
  and_intros <;> intros <;> exact fun _ => rfl

theorem purgeOf_hosted (ts : List Text) : Hosted (purgeOf ts) := by
  unfold purgeOf
  split <;> exact fun _ => rfl

theorem journalActions_host : ∀ a ∈ journalActions, a.Hosts := by
  simp [journalActions, Action.Hosts, purgeOf_hosted]
  and_intros <;> intros <;> exact fun _ => rfl

theorem outcomeActions_host : ∀ a ∈ outcomeActions, a.Hosts := by
  simp [outcomeActions, Action.Hosts]
  and_intros <;> intros <;> exact fun _ => rfl

theorem reportActions_host : ∀ a ∈ reportActions, a.Hosts := by
  simp [reportActions, Action.Hosts]
  and_intros <;> intros <;> exact fun _ => rfl

theorem faultActions_host : ∀ a ∈ faultActions, a.Hosts := by
  simp [faultActions, Action.Hosts]
  and_intros <;> intros <;> exact fun _ => rfl

theorem ticketActions_host : ∀ a ∈ ticketActions, a.Hosts := by
  simp [ticketActions, Action.Hosts]
  and_intros <;> intros <;> exact fun _ => rfl

theorem layoutActions_host : ∀ a ∈ layoutActions, a.Hosts := by
  simp [layoutActions, Action.Hosts]
  and_intros <;> intros <;> exact fun _ => rfl

theorem calActions_host : ∀ a ∈ calActions, a.Hosts := by
  simp [calActions, Action.Hosts]
  and_intros <;> intros <;> exact fun _ => rfl

theorem metroActions_host : ∀ a ∈ metroActions, a.Hosts := by
  simp [metroActions, Action.Hosts]
  and_intros <;> intros <;> exact fun _ => rfl

theorem clockActions_host : ∀ a ∈ clockActions, a.Hosts := by
  simp [clockActions, Action.Hosts]
  and_intros <;> intros <;> exact fun _ => rfl

theorem partActions_host : ∀ a ∈ partActions, a.Hosts := by
  simp [partActions, Action.Hosts]
  and_intros <;> intros <;> exact fun _ => rfl

theorem linkActions_host : ∀ a ∈ linkActions, a.Hosts := by
  simp [linkActions, Action.Hosts]
  and_intros <;> intros <;> exact fun _ => rfl

/-- The query of a subject's own is a host's command. -/
theorem own_hosted {i k : Instr} (h : Hosted i) (own : some i = some k) : Hosted k := Option.some.inj own ▸ h

theorem own_indexed_hosted {f g : ι → Instr} (h : ∀ x, Hosted (f x)) (own : some f = some g) (x : ι) : Hosted (g x) :=
  Option.some.inj own ▸ h x

theorem none_hosted {P : ι → Prop} (i : ι) (h : (none : Option ι) = some i) : P i := by cases h

theorem subjects_host : ∀ p ∈ subjects, ∀ w ws, (p.2 w ws).Hosts := by
  simp only [subjects, List.forall_mem_cons]
  exact ⟨readIndexed_hosts (fun _ => own_indexed_hosted fun _ _ => rfl) deckActions_host,
    readIndexed_hosts (fun _ => own_indexed_hosted fun _ _ => rfl) endActions_host,
    readIndexed_hosts (fun _ => own_indexed_hosted fun _ _ => rfl) barrierActions_host,
    readOptional_hosts none_hosted (fun _ _ => rfl) visitActions_host,
    readOptional_hosts none_hosted (fun _ _ => rfl) tagActions_host,
    readOptional_hosts none_hosted (fun _ _ => rfl) tareActions_host,
    readOptional_hosts none_hosted (fun _ _ => rfl) accountActions_host,
    readIndexed_hosts (fun _ => own_indexed_hosted fun _ _ => rfl) classActions_host,
    readPlain_hosts (fun _ => own_hosted fun _ => rfl) journalActions_host,
    readPlain_hosts (fun _ => own_hosted fun _ => rfl) outcomeActions_host,
    readPlain_hosts (fun _ => own_hosted fun _ => rfl) reportActions_host,
    readOptional_hosts (fun _ => own_hosted fun _ => rfl) (fun _ _ => rfl) faultActions_host,
    readIndexed_hosts (fun _ => own_indexed_hosted fun _ _ => rfl) ticketActions_host,
    readIndexed_hosts none_hosted layoutActions_host,
    readIndexed_hosts none_hosted calActions_host,
    readPlain_hosts (fun _ => own_hosted fun _ => rfl) metroActions_host,
    readPlain_hosts (fun _ => own_hosted fun _ => rfl) clockActions_host,
    readPlain_hosts none_hosted partActions_host,
    readPlain_hosts (fun _ => own_hosted fun _ => rfl) linkActions_host, by simp⟩

theorem readLayoutLine_hosts (n : Int) (t : Text) (rest : List Text) : (readLayoutLine n t rest).Hosts := by
  unfold readLayoutLine
  split
  · exact fun _ => rfl
  · split
    · trivial
    · split <;> exact fun _ => rfl

theorem readText_hosts {t : Text} {ws : List Text} {r : Reading} (h : readText t ws = some r) : r.Hosts := by
  unfold readText at h
  split at h
  next w x a rest =>
    dsimp only at h
    cases index : numberOf x with
    | none =>
      rw [index] at h
      split at h
      · exact Option.some.inj h ▸ trivial
      · split at h
        · exact Option.some.inj h ▸ trivial
        · cases h
    | some n =>
      rw [index] at h
      split at h
      · exact Option.some.inj h ▸ fun _ => rfl
      · split at h
        · exact Option.some.inj h ▸ readLayoutLine_hosts n t rest
        · cases h
  next => cases h

/-- What is read from a line is a host's command (R187). -/
theorem readLine_hosts (t : Text) : (readLine t).Hosts := by
  unfold readLine
  split
  next r h => exact readText_hosts h
  next =>
    unfold readWords
    split
    · trivial
    next w ws _ =>
      split
      · trivial
      next p found => exact subjects_host p (List.mem_of_find?_eq_some found) w ws

/-- A line taken has exactly the effect of the command it names (R186, R187). -/
theorem take_framed (t : Text) (s : State) : take (.framed t) s = match readLine t with
    | .command i => exec i s
    | .wrong c => refuse c s := by
  have hosts := readLine_hosts t
  unfold take
  dsimp only
  cases read : readLine t with
  | command i =>
    rw [read] at hosts
    exact hosts s
  | wrong c => rfl

end Sys2Proof.Machine
end

section
/-! PROOFS. Chapter 10, framing: how the characters of a line are judged, and whether the line is taken, held
or refused for order (R184, R185, R186, R193). -/

namespace Sys2Proof.Machine

-- One declaration after another: at once they ask for more threads than the check's limits allow.
set_option Elab.async false

variable {s t u : State} {p : Parity} {cs : List LineChar}

/-! ### Parity -/

/-- Folding exclusive or over a list gives the parity of how many of its entries are set. -/
theorem foldl_xor (f : Nat → Bool) (ks : List Nat) (b : Bool) :
    ks.foldl (fun b k => Bool.xor b (f k)) b = Bool.xor b ((ks.filter f).length % 2 == 1) := by
  induction ks generalizing b with
  | nil => simp
  | cons k ks ih =>
    rw [List.foldl_cons, ih]
    cases set : f k with
    | false => rw [List.filter_cons_of_neg (by simp [set]), Bool.xor_false]
    | true =>
      rw [List.filter_cons_of_pos set, List.length_cons, Bool.xor_assoc, Bool.true_xor]
      congr 1
      rcases Nat.mod_two_eq_zero_or_one (ks.filter f).length with even | odd
      · simp [even, Nat.add_mod]
      · simp [odd, Nat.add_mod]

theorem evenParityBit_eq (c : Char) : evenParityBit c
    = (((List.range 8).filter fun k => c.toNat.testBit k).length % 2 == 1) := by
  unfold evenParityBit
  rw [foldl_xor fun k => c.toNat.testBit k, Bool.false_xor]

theorem goodChar_iff (p : Parity) (c : LineChar) : goodChar p c = true ↔ c.stop = true
    ∧ printable c.code = true ∧ (p = .even → c.parity
      = some (((List.range 8).filter fun k => c.code.toNat.testBit k).length % 2 == 1)) := by
  unfold goodChar
  cases p with
  | none => simp [parityHolds]
  | even =>
    simp only [parityHolds, parityBit, evenParityBit_eq, Bool.and_eq_true, beq_iff_eq, forall_const]
    tauto

/-! ### The receive buffer -/

/-- A buffer that discards what follows keeps what it is. -/
theorem foldl_receive_stopped {b : RxBuffer} (stopped : (b.spoiled || b.overflow) = true) :
    cs.foldl (RxBuffer.receive p) b = b := by
  induction cs with
  | nil => rfl
  | cons c cs ih => rw [List.foldl_cons, show b.receive p c = b from if_pos stopped, ih]

/-- The buffer after good characters only. -/
def RxBuffer.holding (t : Text) : RxBuffer := { chars := t, spoiled := false, overflow := false }

theorem receive_good {t : Text} {c : LineChar} (room : t.length < 200) (good : goodChar p c = true) :
    (RxBuffer.holding t).receive p c = .holding (t ++ [c.code]) :=
  (if_neg Bool.false_ne_true).trans ((if_neg (Nat.not_le.2 room)).trans (if_pos good))

theorem receive_bad {t : Text} {c : LineChar} (room : t.length < 200) (bad : goodChar p c = false) :
    (RxBuffer.holding t).receive p c = { RxBuffer.holding t with spoiled := true } :=
  (if_neg Bool.false_ne_true).trans
    ((if_neg (Nat.not_le.2 room)).trans (if_neg (ne_true_of_eq_false bad)))

theorem receive_full {t : Text} {c : LineChar} (full : 200 ≤ t.length) :
    (RxBuffer.holding t).receive p c = { RxBuffer.holding t with overflow := true } :=
  (if_neg Bool.false_ne_true).trans (if_pos full)

/-- Good characters that fit are kept (R185). -/
theorem foldl_receive_good (good : ∀ c ∈ cs, goodChar p c = true) {t : Text}
    (room : t.length + cs.length ≤ 200) :
    cs.foldl (RxBuffer.receive p) (.holding t) = .holding (t ++ cs.map (·.code)) := by
  induction cs generalizing t with
  | nil => simp
  | cons c cs ih =>
    simp only [List.length_cons] at room
    rw [List.foldl_cons, receive_good (by omega) (good c List.mem_cons_self),
      ih (fun x mem => good x (List.mem_cons_of_mem _ mem)) (by simp; omega)]
    simp

/-- A character in error that is within reach spoils the line (R185). -/
theorem foldl_receive_bad {t : Text} (room : t.length ≤ 200)
    (bad : ∃ c ∈ cs.take (200 - t.length), goodChar p c = false) :
    (cs.foldl (RxBuffer.receive p) (.holding t)).spoiled = true := by
  induction cs generalizing t with
  | nil => simp at bad
  | cons c cs ih =>
    have short : t.length < 200 := by
      by_contra full
      rw [show 200 - t.length = 0 by omega] at bad
      simp at bad
    rw [List.foldl_cons]
    cases judged : goodChar p c with
    | false =>
      rw [receive_bad short judged, foldl_receive_stopped rfl]
    | true =>
      rw [receive_good short judged]
      refine ih (by simp; omega) ?_
      obtain ⟨x, mem, wrong⟩ := bad
      rw [show 200 - t.length = (200 - (t ++ [c.code]).length) + 1 by simp; omega,
        List.take_succ_cons, List.mem_cons] at mem
      rcases mem with rfl | mem
      · rw [judged] at wrong
        exact absurd wrong (by decide)
      · exact ⟨x, mem, wrong⟩

/-- A line that is good as far as it fits, and longer, is overlong (R185). -/
theorem foldl_receive_long {t : Text} (room : t.length ≤ 200) (long : 200 < t.length + cs.length)
    (good : ∀ c ∈ cs.take (200 - t.length), goodChar p c = true) :
    (cs.foldl (RxBuffer.receive p) (.holding t)).spoiled = false
      ∧ (cs.foldl (RxBuffer.receive p) (.holding t)).overflow = true := by
  induction cs generalizing t with
  | nil => simp at long; omega
  | cons c cs ih =>
    rw [List.foldl_cons]
    by_cases full : 200 ≤ t.length
    · rw [receive_full full, foldl_receive_stopped rfl]
      exact ⟨rfl, rfl⟩
    · rw [show 200 - t.length = (200 - (t ++ [c.code]).length) + 1 by simp; omega,
        List.take_succ_cons] at good
      rw [receive_good (by omega) (good c List.mem_cons_self)]
      simp only [List.length_cons] at long
      exact ih (by simp; omega) (by simp; omega) fun x mem => good x (List.mem_cons_of_mem _ mem)

/-! ### A completed line -/

/-- The line a completion finds in an empty buffer. -/
def completed (p : Parity) (cs : List LineChar) : Option Line :=
  (cs.foldl (RxBuffer.receive p) (.holding [])).line

theorem completed_blank (good : ∀ c ∈ cs, goodChar p c = true ∧ c.code = ' ') (fits : cs.length ≤ 200) :
    completed p cs = none := by
  unfold completed
  rw [foldl_receive_good (fun c mem => (good c mem).1) (by simpa using fits)]
  refine (if_neg Bool.false_ne_true).trans ((if_neg Bool.false_ne_true).trans (if_pos ?_))
  simpa [RxBuffer.holding] using fun c mem => (good c mem).2

theorem completed_spoiled (bad : ∃ c ∈ cs.take 200, goodChar p c = false) :
    completed p cs = some .spoiled :=
  if_pos (foldl_receive_bad (t := []) (by simp) bad)

theorem completed_overlong (long : 200 < cs.length) (good : ∀ c ∈ cs.take 200, goodChar p c = true) :
    completed p cs = some .overlong := by
  obtain ⟨clean, full⟩ := foldl_receive_long (t := []) (by simp) (by simpa using long) good
  exact (if_neg (ne_true_of_eq_false clean)).trans (if_pos full)

theorem completed_framed (good : ∀ c ∈ cs, goodChar p c = true) (fits : cs.length ≤ 200)
    (word : ∃ c ∈ cs, c.code ≠ ' ') : completed p cs = some (.framed (cs.map (·.code))) := by
  unfold completed
  rw [foldl_receive_good good (by simpa using fits)]
  refine (if_neg Bool.false_ne_true).trans ((if_neg Bool.false_ne_true).trans (if_neg ?_))
  obtain ⟨c, mem, ne⟩ := word
  simpa [RxBuffer.holding] using ⟨c, mem, ne⟩

/-- LINE_COMPLETE with an empty buffer (R185, R193). -/
theorem exec_lineComplete (empty : s.link.rx = .fresh) : exec (.lineComplete cs) s =
    match completed s.link.lineParity cs with
    | none => .next s
    | some l => offerLine l (if l.isFramed then attach s else s) := by
  have same : (s.modLink fun l => { l with rx := .fresh }) = s := by
    unfold State.modLink
    rw [← empty]
  change execLineComplete cs s = _
  unfold execLineComplete completed
  dsimp only
  rw [same, empty] <;> rfl

theorem exec_line_none (empty : s.link.rx = .fresh) (line : completed s.link.lineParity cs = none) :
    exec (.lineComplete cs) s = .next s := by
  rw [exec_lineComplete empty, line]

theorem exec_line_some (empty : s.link.rx = .fresh) {l : Line}
    (line : completed s.link.lineParity cs = some l) : exec (.lineComplete cs) s
      = offerLine l (if l.isFramed then attach s else s) := by
  rw [exec_lineComplete empty, line]

/-! ### A line offered (R186) -/

theorem offerLine_taken {l : Line} (held : s.link.held = none) (refusals : s.link.refusals = 0)
    (reply : s.link.reply = none) : offerLine l s = take l s := by
  unfold offerLine
  rw [reply, held]
  exact if_pos refusals

theorem offerLine_held {l : Line} (held : s.link.held = none) (refusals : s.link.refusals = 0)
    (reply : s.link.reply ≠ none) :
    offerLine l s = .next (s.modLink fun k => { k with held := some l }) := by
  obtain ⟨r, busy⟩ := Option.ne_none_iff_exists'.1 reply
  unfold offerLine
  rw [busy, held]
  exact if_pos refusals

theorem offerLine_counted {l : Line} (h : s.link.held ≠ none ∨ s.link.refusals ≠ 0) :
    offerLine l s = .next (s.modLink Link.refuseOne) := by
  unfold offerLine
  rcases reply : s.link.reply with _ | r <;> rcases held : s.link.held with _ | k
  case none.none => exact if_neg (h.resolve_left (· held))
  case some.none => exact if_neg (h.resolve_left (· held))
  all_goals rfl

/-- The link unit once a correctly framed line is complete (R193). -/
def Link.attached (l : Link) : Link := { l with
  silenceTimer := silenceStart l.silence
  attended := true
  detachedSince := if l.attended then l.detachedSince else none }

theorem attach_link (s : State) : (attach s).link = s.link.attached := by
  unfold attach Link.attached
  cases attended : s.link.attended with
  | true => simp [attended]
  | false => simp

/-- Settles O48: the characters are folded into the buffer, which gives the kind of line; the line is then
offered to the link. -/
theorem linesAreJudgedAndOffered : Obligations.LinesAreJudgedAndOffered := by
  intro s cs empty ones good s1 offered
  have judged (c : LineChar) : goodChar s.link.lineParity c = true ↔ good c := goodChar_iff _ c
  have attaches : attach s = s1 := by
    unfold attach
    cases attended : s.link.attended with
    | true => exact (if_pos (by simp)).trans (if_pos attended).symm
    | false => exact (if_neg (by simp)).trans (if_neg (by simp [attended])).symm
  refine ⟨fun blank fits => ?_, fun ⟨c, mem, bad⟩ => ?_, fun long fine => ?_, fun fine fits word => ?_⟩
  · exact exec_line_none empty
      (completed_blank (fun c mem => ⟨(judged c).2 (blank c mem).1, (blank c mem).2⟩) fits)
  · have line := exec_line_some empty (completed_spoiled
      ⟨c, mem, Bool.eq_false_iff.2 fun ok => bad ((judged c).1 ok)⟩)
    exact ⟨fun held refusals reply => line.trans (offerLine_taken held refusals reply),
      fun held refusals reply => line.trans (offerLine_held held refusals reply),
      fun full => line.trans (offerLine_counted full)⟩
  · have line := exec_line_some empty (completed_overlong long fun c mem => (judged c).2 (fine c mem))
    exact ⟨fun held refusals reply => line.trans (offerLine_taken held refusals reply),
      fun held refusals reply => line.trans (offerLine_held held refusals reply),
      fun full => line.trans (offerLine_counted full)⟩
  · have line := exec_line_some empty
      (completed_framed (fun c mem => (judged c).2 (fine c mem)) fits word)
    have link := attach_link s
    rw [attaches] at link
    replace line : exec (.lineComplete cs) s = offerLine (.framed (cs.map (·.code))) s1 :=
      line.trans (by rw [← attaches]; rfl)
    have refusals : s1.link.refusals = s.link.refusals := by rw [link]; rfl
    have held : s1.link.held = s.link.held := by rw [link]; rfl
    have reply : s1.link.reply = s.link.reply := by rw [link]; rfl
    refine ⟨fun noHeld noRefusals noReply => ?_, fun noHeld noRefusals busy => ?_, fun full => ?_⟩
    · have taken := line.trans ((offerLine_taken (held.trans noHeld) (refusals.trans noRefusals)
        (reply.trans noReply)).trans (take_framed _ s1))
      cases read : readLine (cs.map (·.code)) with
      | wrong c => rw [read] at taken; exact taken
      | command i => rw [read] at taken; exact taken
    · exact line.trans (offerLine_held (held.trans noHeld) (refusals.trans noRefusals)
        (reply ▸ busy))
    · refine (line.trans (offerLine_counted (held ▸ refusals ▸ full))).trans ?_
      rw [← refusals]
      rfl

end Sys2Proof.Machine
end

section
/-! PROOFS. Chapter 10, replies and silence: what follows a reply sent, and what a silent host does to the
link and to the ends that wait for it (R92, R184, R186, R193). -/

namespace Sys2Proof.Machine

-- One declaration after another: at once they ask for more threads than the check's limits allow.
set_option Elab.async false

variable {s t u y z : State} {e x : EndId} {es : List EndId}

/-! ### What follows a reply (R184, R186) -/

/-- The link unit when the reply in progress has gone out (R184). -/
def Link.replied (l : Link) : Link :=
  if l.lineChange = true then { l with
    lineBaud := l.baud, lineParity := l.parity, lineChange := false, reply := none, rx := .fresh }
  else { l with reply := none }

theorem exec_replySent {r : Readings} (busy : s.link.reply ≠ none) (asked : s.link.resetAsked = false) :
    exec (.replySent r) s = nextLine { s with link := s.link.replied } := by
  obtain ⟨x, reply⟩ := Option.ne_none_iff_exists'.1 busy
  change execReplySent r s = _
  unfold execReplySent
  rw [reply]
  refine (if_neg (ne_true_of_eq_false asked)).trans
    (congrArg (fun l => nextLine { s with link := l }) ?_)
  unfold Link.settingsTakeEffect Link.replied
  dsimp only
  by_cases changed : s.link.lineChange = true
  · simp only [if_pos changed]
  · simp only [if_neg changed]

theorem replied_held (l : Link) : l.replied.held = l.held := by
  unfold Link.replied
  split <;> rfl

theorem replied_refusals (l : Link) : l.replied.refusals = l.refusals := by
  unfold Link.replied
  split <;> rfl

theorem nextLine_held {l : Line} (held : s.link.held = some l) :
    nextLine s = take l (s.modLink fun k => { k with held := none }) := by
  unfold nextLine
  rw [held]

theorem nextLine_none (held : s.link.held = none) : nextLine s =
    if s.link.refusals = 0 then .next s
    else answer (.er .busy []) (s.modLink fun k => { k with refusals := k.refusals - 1 }) := by
  unfold nextLine
  rw [held]

/-! ### The ends of a link that becomes DETACHED (R92) -/

theorem detachEnd_referred (h : (s.machine e).state = .referred) :
    detachEnd s e = refuseEnd e .detached (s.machine e).reason s := if_pos h

theorem detachEnd_stays (h : (s.machine e).state ≠ .referred) : detachEnd s e = s := if_neg h

/-- No end is REFERRED after its part in a detachment. -/
theorem detachEnd_state (e : EndId) (s : State) : ((detachEnd s e).machine e).state ≠ .referred := by
  by_cases referred : (s.machine e).state = .referred
  · rw [detachEnd_referred referred]
    by_cases expired : (s.machine e).clearTimer = .expired
    · rw [(refuseEnd_expired _ _ expired).1]
      decide
    · rw [refuseEnd_live _ _ expired, offer_machine, modMachine_machine]
      exact fun h => EndState.noConfusion h
  · rwa [detachEnd_stays referred]

theorem detachEnd_machine (referred : (s.machine e).state = .referred)
    (live : (s.machine e).clearTimer ≠ .expired) :
    (detachEnd s e).machine e = (s.machine e).refused .detached (s.machine e).reason := by
  rw [detachEnd_referred referred, refuseEnd_live _ _ live, offer_machine, modMachine_machine,
    removeVisit?_machine]
  rfl

/-- The reports of one end's part in a detachment. -/
theorem detachEnd_reports (e : EndId) (s : State) : (detachEnd s e).reports =
    (if (s.machine e).state = .referred then
      offer .refused (.atEnd e) ["DETACHED", reasonWord (s.machine e).reason,
        dash tagText (s.machine e).tag] s
    else s).reports := by
  split
  next referred =>
    rw [detachEnd_referred referred, refuseEnd_eq, sentAway]
    have same : ((s.removeVisit? (s.machine e).visit).modMachine e fun x => { x with
        state := .refused, reason := .detached, prior := (s.machine e).reason, visit := none
        idTimer := .stopped, decideTimer := .stopped }).reports = s.reports := by
      cases (s.machine e).visit <;> rfl
    have clock : ((s.removeVisit? (s.machine e).visit).modMachine e fun x => { x with
        state := .refused, reason := .detached, prior := (s.machine e).reason, visit := none
        idTimer := .stopped, decideTimer := .stopped }).clock = s.clock := by
      cases (s.machine e).visit <;> rfl
    split
    all_goals exact offer_reports_congr _ _ _ same clock
  next stays => rw [detachEnd_stays stays]

/-- The visits stay when the end has no open visit. -/
theorem detachEnd_visits (h : (s.machine e).state = .referred → (s.machine e).visit = none) :
    (detachEnd s e).visits = s.visits := by
  by_cases referred : (s.machine e).state = .referred
  · have offered (k : ReportKind) (x : Subject) (ps : List String) (u : State) :
        (offer k x ps u).visits = u.visits := by
      obtain ⟨r, out⟩ := offer_frame u k x ps
      rw [out]
    rw [detachEnd_referred referred, refuseEnd_eq, sentAway, h referred]
    split
    all_goals exact offered _ _ _ _
  · rw [detachEnd_stays referred]

/-- What one part leaves alone elsewhere, the parts of the others leave alone. -/
theorem foldl_view_of_not_mem {ι α : Type} {view : State → α} {f : State → ι → State} {i : ι} {is : List ι}
    (kept : ∀ s x, i ≠ x → view (f s x) = view s) (h : i ∉ is) : view (is.foldl f s) = view s := by
  induction is generalizing s with
  | nil => rfl
  | cons x is ih =>
    rw [List.mem_cons, not_or] at h
    rw [List.foldl_cons, ih h.2, kept s x h.1]

/-- Each of several ends or decks takes its part over what it shows before all of them. -/
theorem foldl_view {ι α : Type} {view : State → α} {f : State → ι → State} {i : ι} {is : List ι}
    (kept : ∀ s x, i ≠ x → view (f s x) = view s) (nodup : is.Nodup) (mem : i ∈ is) :
    ∃ z : State, view z = view s ∧ view (is.foldl f s) = view (f z i) := by
  induction is generalizing s with
  | nil => simp at mem
  | cons x is ih =>
    obtain ⟨apart, nodup⟩ := List.nodup_cons.1 nodup
    rcases List.mem_cons.1 mem with rfl | mem
    · exact ⟨s, rfl, foldl_view_of_not_mem kept apart⟩
    · obtain ⟨z, same, out⟩ := ih (s := f s x) nodup mem
      exact ⟨z, same.trans (kept s x fun h => apart (h ▸ mem)), out⟩

/-- The reports of a detachment, said of the ends as they stood before. -/
theorem foldl_detach_reports (nodup : es.Nodup) (same : ∀ e ∈ es, y.machine e = s.machine e)
    (reports : y.reports = z.reports) (clock : y.clock = z.clock) :
    (es.foldl detachEnd y).reports = (es.foldl (fun y e => if (s.machine e).state = .referred then
      offer .refused (.atEnd e) ["DETACHED", reasonWord (s.machine e).reason,
        dash tagText (s.machine e).tag] y
      else y) z).reports := by
  induction es generalizing y z with
  | nil => exact reports
  | cons x es ih =>
    obtain ⟨apart, nodup⟩ := List.nodup_cons.1 nodup
    have here := same x List.mem_cons_self
    have only := detachEnd_endOnly x y
    rw [List.foldl_cons, List.foldl_cons]
    refine ih nodup (fun e mem => ?_) ?_ ?_
    · exact (only.machine_of_ne fun h => apart (h ▸ mem)).trans (same e (List.mem_cons_of_mem _ mem))
    · rw [detachEnd_reports, here]
      split
      · exact offer_reports_congr _ _ _ reports clock
      · exact reports
    · obtain ⟨m, v, r, out⟩ := only
      rw [out]
      split
      · obtain ⟨r, out⟩ := offer_frame z .refused (.atEnd x) ["DETACHED", reasonWord (s.machine x).reason,
          dash tagText (s.machine x).tag]
        rw [out]
        exact clock
      · exact clock

theorem foldl_detach_visits (nodup : es.Nodup)
    (h : ∀ e ∈ es, (s.machine e).state = .referred → (s.machine e).visit = none) :
    (es.foldl detachEnd s).visits = s.visits := by
  induction es generalizing s with
  | nil => rfl
  | cons x es ih =>
    obtain ⟨apart, nodup⟩ := List.nodup_cons.1 nodup
    rw [List.foldl_cons, ih nodup, detachEnd_visits (h x List.mem_cons_self)]
    intro e mem
    rw [(detachEnd_endOnly x s).machine_of_ne fun k => apart (k ▸ mem)]
    exact h e (List.mem_cons_of_mem _ mem)

/-- What the parts of several ends can change. -/
theorem foldl_ends_frame {f : State → EndId → State} (only : ∀ s x, EndOnly x s (f s x)) (es : List EndId)
    (s : State) : ∃ en v r, es.foldl f s = { s with ends := en, visits := v, reports := r } := by
  induction es generalizing s with
  | nil => exact ⟨s.ends, s.visits, s.reports, rfl⟩
  | cons x es ih =>
    obtain ⟨m, v, r, first⟩ := only s x
    obtain ⟨en, v', r', rest⟩ := ih (f s x)
    exact ⟨en, v', r', by rw [List.foldl_cons, rest, first]⟩

theorem mem_ends (e : EndId) : e ∈ EndId.all := by cases e <;> decide

theorem ends_nodup : EndId.all.Nodup := by decide

/-! ### The silence timer (R193) -/

/-- The link unit of a silent host (R193). -/
def State.silent (s : State) : State := s.modLink fun l =>
  { l with attended := false, detachedSince := some s.clock.now, silenceTimer := .stopped }

/-- The part of a silent host, before its ends are refused. -/
def State.toldDetached (s : State) : State :=
  offer .detached .none [toString s.link.silence] s.silent

theorem exec_silenceTimer {n : Nat} (running : s.link.silenceTimer = .running n)
    (attended : s.link.attended = true) :
    exec .silenceTimerExpiry s = .next (EndId.all.foldl detachEnd s.toldDetached) :=
  if_pos ⟨(Timer.isRunning_iff _).2 ⟨n, running⟩, attended⟩

theorem exec_silenceTimer_idle
    (h : (∀ n, s.link.silenceTimer ≠ .running n) ∨ s.link.attended = false) :
    exec .silenceTimerExpiry s = .next s := by
  refine if_neg fun ⟨runs, attended⟩ => ?_
  rcases h with stopped | detached
  · obtain ⟨n, running⟩ := (Timer.isRunning_iff _).1 runs
    exact stopped n running
  · exact ne_true_of_eq_false detached attended

/-- What the detachment leaves (R92, R193). -/
theorem detached_spec (s : State) :
    let t := EndId.all.foldl detachEnd s.toldDetached
    t.link = s.silent.link
      ∧ (∀ e, (t.machine e).state ≠ .referred)
      ∧ (∀ e, (s.machine e).state ≠ .referred → t.station e = s.station e)
      ∧ (∀ e, (s.machine e).state = .referred → (s.machine e).clearTimer ≠ .expired →
          t.machine e = (s.machine e).refused .detached (s.machine e).reason)
      ∧ t.reports = (EndId.all.foldl (fun y e => if (s.machine e).state = .referred then
            offer .refused (.atEnd e) ["DETACHED", reasonWord (s.machine e).reason,
              dash tagText (s.machine e).tag] y
          else y) (offer .detached .none [toString s.link.silence] s)).reports
      ∧ ((∀ e, (s.machine e).state = .referred → (s.machine e).visit = none) → t.visits = s.visits)
      ∧ t = { s with link := t.link, ends := t.ends, visits := t.visits, reports := t.reports } := by
  intro t
  obtain ⟨r, told⟩ := offer_frame s.silent .detached .none [toString s.link.silence]
  replace told : s.toldDetached = { s.silent with reports := r } := told
  have station (e : EndId) : s.toldDetached.station e = s.station e := by rw [told]; rfl
  have machine (e : EndId) : s.toldDetached.machine e = s.machine e := congrArg (·.machine) (station e)
  obtain ⟨en, v, r', frame⟩ := foldl_ends_frame (fun s x => detachEnd_endOnly x s) EndId.all s.toldDetached
  replace frame : t = { s.silent with ends := en, visits := v, reports := r' } := by
    refine frame.trans ?_
    rw [told]
  have own (e : EndId) : ∃ z : State, z.station e = s.station e
      ∧ t.station e = (detachEnd z e).station e := by
    obtain ⟨z, same, out⟩ := foldl_view (s := s.toldDetached) (view := fun s => s.station e)
      (fun s x ne => (detachEnd_endOnly x s).station_of_ne ne) ends_nodup (mem_ends e)
    exact ⟨z, same.trans (station e), out⟩
  refine ⟨by rw [frame], fun e => ?_, fun e stays => ?_, fun e referred live => ?_, ?_, fun none => ?_, ?_⟩
  · obtain ⟨z, _, out⟩ := own e
    rw [show t.machine e = (detachEnd z e).machine e from congrArg (·.machine) out]
    exact detachEnd_state e z
  · obtain ⟨z, same, out⟩ := own e
    have before : z.machine e = s.machine e := congrArg (·.machine) same
    rw [out, detachEnd_stays (by rwa [before]), same]
  · obtain ⟨z, same, out⟩ := own e
    have before : z.machine e = s.machine e := congrArg (·.machine) same
    rw [show t.machine e = (detachEnd z e).machine e from congrArg (·.machine) out,
      detachEnd_machine (by rwa [before]) (by rwa [before]), before]
  · refine foldl_detach_reports ends_nodup (fun e _ => machine e) (offer_reports_congr _ _ _ rfl rfl) ?_
    obtain ⟨r, out⟩ := offer_frame s .detached .none [toString s.link.silence]
    rw [out, told]
    rfl
  · rw [show t.visits = s.toldDetached.visits from
      foldl_detach_visits ends_nodup fun e _ => by rw [machine]; exact none e, told]
    rfl
  · rw [frame]
    rfl

/-- Settles O49: what follows a reply, and the detachment of a silent host, from their lemmas. -/
theorem repliesAndSilence : Obligations.RepliesAndSilence := by
  intro s
  refine ⟨fun none r => ?_, fun busy asked => ?_, exec_silenceTimer_idle, fun n running attended => ?_⟩
  · change execReplySent r s = _
    unfold execReplySent
    rw [none]
  · have sent (r : Readings) := exec_replySent (r := r) busy asked
    have held {l : Line} (h : s.link.held = some l) (r : Readings) : exec (.replySent r) s
        = take l { s with link := { s.link.replied with held := none } } :=
      (sent r).trans (nextLine_held ((replied_held s.link).trans h))
    have free (h : s.link.held = none) (r : Readings) :=
      (sent r).trans (nextLine_none ((replied_held s.link).trans h))
    refine ⟨fun t r h => ?_, fun r h => held h r, fun r h => held h r,
      fun r h zero => (free h r).trans (if_pos ((replied_refusals s.link).trans zero)), fun r h some => ?_⟩
    · have taken := (held h r).trans (take_framed t _)
      cases read : readLine t with
      | wrong c => rw [read] at taken; exact taken
      | command i => rw [read] at taken; exact taken
    · refine ((free h r).trans (if_neg ?_)).trans ?_
      · change s.link.replied.refusals ≠ 0
        rw [replied_refusals]
        omega
      · change answer _ { s with link := { s.link.replied with
          refusals := s.link.replied.refusals - 1 } } = _
        rw [replied_refusals]
        rfl
  · exact ⟨_, exec_silenceTimer running attended, detached_spec s⟩

end Sys2Proof.Machine
end

section
/-! PROOFS. Chapter 10, the lines of LINK and PART (R78, R184, R189, R192, R195 to R197, R199, R202). -/

namespace Sys2Proof.Machine

-- One declaration after another: at once they ask for more threads than the check's limits allow.
set_option Elab.async false

variable {s t u y z : State} {e x : EndId}

/-! ### The lines of LINK (R184, R192, R202) -/

theorem mem_baudRates {r : Nat} : r ∈ baudRates ↔
    r = 9600 ∨ r = 19200 ∨ r = 38400 ∨ r = 57600 ∨ r = 115200 := by
  simp [baudRates]

/-- The baud rate a number gives (R184, R191). -/
theorem baud_spec (n : Int) : roundDown baudRates 9600 n ∈ baudRates
    ∧ (n < 19200 → roundDown baudRates 9600 n = 9600) ∧ (115200 ≤ n → roundDown baudRates 9600 n = 115200)
    ∧ (9600 ≤ n → (roundDown baudRates 9600 n : Int) ≤ n)
    ∧ ∀ k ∈ baudRates, ((k : Nat) : Int) ≤ n → k ≤ roundDown baudRates 9600 n := by
  have least : ∀ v ∈ baudRates, 9600 ≤ v := by decide
  by_cases low : n < (9600 : Nat)
  · have eq := roundDown_of_lt least low
    rw [eq]
    refine ⟨by decide, fun _ => rfl, fun _ => by omega, fun _ => by omega, fun k mem below => ?_⟩
    have := least k mem
    omega
  · obtain ⟨mem, below, greatest⟩ := roundDown_of_le (legal := baudRates) (by decide) (by decide) least
      (not_lt.1 low)
    refine ⟨mem, fun _ => ?_, fun _ => ?_, fun _ => below, greatest⟩
    · rcases mem_baudRates.1 mem with h | h | h | h | h <;> omega
    · have top := greatest 115200 (by decide)
      rcases mem_baudRates.1 mem with h | h | h | h | h <;> omega

theorem exec_linkBaud_clamped {n : Int} (h : n ≠ roundDown baudRates 9600 n) :
    AnswersWith (.linkBaud (some (.num n))) (.clamped [toString (roundDown baudRates 9600 n)]) s
      { s with link := { s.link with baud := roundDown baudRates 9600 n, lineChange := true } } := by
  have differs : (SetArg.num n).steppedDiffers baudRates 9600 = true := bne_iff_ne.2 h.symm
  change answer (shownReply ((SetArg.num n).steppedDiffers baudRates 9600) _) _ = _
  rw [differs]
  rfl

theorem silenceTimeOf_num {n : Int} (h : n ≠ 0) : silenceTimeOf (.time (.num n))
    = ((SetArg.num n).value 5 600 120, (SetArg.num n).clamped 5 600) := by
  unfold silenceTimeOf
  split
  case h_1 off => cases off
  case h_2 zero =>
    cases zero
    exact absurd rfl h
  case h_3 arg _ num =>
    cases num
    rfl

/-- The silence time of a number inside the range (R192). -/
theorem silenceTimeOf_inside {n : Nat} (low : 5 ≤ n) (high : n ≤ 600) :
    silenceTimeOf (.time (.num n)) = (n, false) := by
  obtain ⟨-, -, -, inside, -⟩ := clampInt_spec (lo := 5) (hi := 600) (by decide) n
  rw [silenceTimeOf_num (by omega)]
  refine Prod.ext ?_ ?_
  · change (clampInt 5 600 n).toNat = n
    rw [inside (by omega) (by omega)]
    rfl
  · change (decide ((n : Int) < 5) || decide ((600 : Int) < n)) = false
    rw [decide_eq_false (by omega), decide_eq_false (by omega)]
    rfl

theorem silenceTimeOf_below {n : Int} (low : n < 5) (h : n ≠ 0) :
    silenceTimeOf (.time (.num n)) = (5, true) := by
  obtain ⟨-, -, below, -, -⟩ := clampInt_spec (lo := 5) (hi := 600) (by decide) n
  rw [silenceTimeOf_num h]
  refine Prod.ext ?_ ?_
  · change (clampInt 5 600 n).toNat = 5
    rw [below low]
    rfl
  · change (decide (n < 5) || decide ((600 : Int) < n)) = true
    rw [decide_eq_true low]
    rfl

theorem silenceTimeOf_above {n : Int} (high : 600 < n) :
    silenceTimeOf (.time (.num n)) = (600, true) := by
  obtain ⟨-, -, -, -, above⟩ := clampInt_spec (lo := 5) (hi := 600) (by decide) n
  rw [silenceTimeOf_num (by omega)]
  refine Prod.ext ?_ ?_
  · change (clampInt 5 600 n).toNat = 600
    rw [above high]
    rfl
  · change (decide (n < 5) || decide ((600 : Int) < n)) = true
    rw [decide_eq_true high, Bool.or_true]

/-- What LINK SILENCE does with a value (R192). -/
theorem exec_linkSilence {a : SilenceArg} {n : Nat} {clamped : Bool}
    (h : silenceTimeOf a = (n, clamped)) : AnswersWith (.linkSilence (some a))
      (if clamped then .clamped [toString n] else .ok [silenceText n]) s
      { s with link := { s.link with silence := n, silenceTimer := silenceStart n } } := by
  change (let t := silenceTimeOf a
    answer (if t.2 then .clamped [nat t.1] else .ok [silenceText t.1])
      (s.modLink fun l => { l with silence := t.1, silenceTimer := silenceStart t.1 })) = _
  rw [h]
  rfl

theorem silenceText_ne {n : Nat} (h : n ≠ 0) : silenceText n = toString n := if_neg h

/-- The reply in progress as it goes out (R184). -/
theorem sentLine_eq {r : Reply} (h : s.link.reply = some r) : s.sentLine = some (s.link.lineBaud,
    (r.text.toList ++ ['\r', '\n']).map fun c =>
      { code := c, stop := true
        parity := if s.link.lineParity = .even then
          some (((List.range 8).filter fun k => c.toNat.testBit k).length % 2 == 1) else none }) := by
  have each : sentChar s.link.lineParity = fun c =>
      { code := c, stop := true
        parity := if s.link.lineParity = .even then
          some (((List.range 8).filter fun k => c.toNat.testBit k).length % 2 == 1) else none } := by
    funext c
    unfold sentChar
    cases s.link.lineParity with
    | none => rfl
    | even => exact congrArg (fun p => (⟨c, p, true⟩ : LineChar)) (congrArg some (evenParityBit_eq c))
  unfold State.sentLine
  rw [h, Option.map_some, each]

/-! ### PART START (R195) -/

/-- The check of R195 at a deck. -/
theorem startable_iff (d : Deck) : (s.deck d).params.startable = true ↔
    (let c := (s.deck d).params.cells
     c.c1 = true ∨ c.c2 = true ∨ c.c3 = true ∨ c.c4 = true)
      ∧ (s.deck d).params.max ≤ 10000 * (s.deck d).params.interval := by
  unfold Params.startable Params.consistent PerChan.toList
  simp

theorem failingDecks_eq (s : State) : s.failingDecks =
    (if (s.deck .a).params.startable then [] else ["A"])
      ++ if (s.deck .b).params.startable then [] else ["B"] := by
  unfold State.failingDecks Deck.all
  simp only [List.filter_cons, List.filter_nil]
  cases (s.deck .a).params.startable <;> cases (s.deck .b).params.startable <;> rfl

theorem exec_partStart_fails (run : s.part.run = false) {l : String} {ls : List String}
    (h : s.failingDecks = l :: ls) : Answers .partStart (.er .state ("INCONSISTENT" :: l :: ls)) s := by
  change execPartStart s = _
  unfold execPartStart
  rw [if_neg (ne_true_of_eq_false run), h]
  rfl

theorem exec_partStart (run : s.part.run = false) (h : s.failingDecks = []) :
    AnswersWith .partStart (.ok ["RUN"]) s (wakeAll (s.setRun true)) := by
  change execPartStart s = _
  unfold execPartStart
  rw [if_neg (ne_true_of_eq_false run), h]
  rfl

/-- What one end's test reads and writes, and the deck and mode that the test reads. -/
def wakeView (e : EndId) (s : State) : Station × PerDeck DeckUnit × Part := (s.station e, s.decks, s.part)

/-- Each end takes the test of R85 over what it shows before the four tests. -/
theorem wakeAll_station (e : EndId) (s : State) : ∃ z, z.station e = s.station e ∧ SameAtEnd e s z
    ∧ (wakeAll s).station e = (wakeTest e z).station e := by
  obtain ⟨z, same, out⟩ := foldl_view (s := s) (view := wakeView e) (f := fun s e => wakeTest e s)
    (fun s x ne => by
      have only := wakeTest_endOnly x s
      exact Prod.ext (only.station_of_ne ne) (Prod.ext only.decks only.part))
    ends_nodup (mem_ends e)
  unfold wakeView at same out
  simp only [Prod.mk.injEq] at same out
  obtain ⟨station, decks, part⟩ := same
  exact ⟨z, station, ⟨decks, part, congrArg (·.machine) station, congrArg (·.lines) station⟩, out.1⟩

theorem wakeAll_frame (s : State) : ∃ en v r,
    wakeAll s = { s with ends := en, visits := v, reports := r } :=
  foldl_ends_frame (fun s x => wakeTest_endOnly x s) EndId.all s

/-- An end that is not IDLE, or whose approach loop reads clear, is not woken (R85). -/
theorem wakeAll_stays (h : (s.machine e).state ≠ .idle ∨ (s.station e).lines.approach = false) :
    (wakeAll s).station e = s.station e := by
  obtain ⟨z, station, same, out⟩ := wakeAll_station e s
  rw [out, wakeTest_stays, station]
  rw [same.machine, same.lines]
  rintro ⟨-, idle, occ⟩
  exact h.elim (· idle) fun clear => Bool.false_ne_true (clear.symm.trans occ)

theorem wakeAll_woken (run : s.part.run = true) (idle : (s.machine e).state = .idle)
    (occ : (s.station e).lines.approach = true) (h : s.isApproach e = true)
    (conflict : (s.machine e).conflict = false) (unread : (s.machine e).heldRead = none)
    (live : (s.machine e).clearTimer ≠ .expired) :
    (wakeAll s).machine e = (s.machine e).woken (s.movementAt e) := by
  obtain ⟨z, station, same, out⟩ := wakeAll_station e s
  rw [show (wakeAll s).machine e = (wakeTest e z).machine e from congrArg (·.machine) out,
    wakeTest_approach (by rwa [same.part]) (by rwa [same.machine]) (by rwa [same.lines])
    (by rwa [same.isApproach]), wake_none (by rwa [same.machine]) (by rwa [same.machine]),
    expiredToIdle_live, modMachine_machine, same.machine, same.movementAt]
  rw [modMachine_machine, same.machine]
  exact live

/-! ### PART STOP (R196, R78) -/

theorem allIdle_iff (s : State) : s.allIdle = true ↔
    (∀ d, (s.deck d).seq.state = .idle) ∧ ∀ e, (s.machine e).state = .idle := by
  unfold State.allIdle
  rw [Bool.and_eq_true, List.all_eq_true, List.all_eq_true]
  simp only [beq_iff_eq]
  exact and_congr ⟨fun h d => h d (by cases d <;> decide), fun h d _ => h d⟩
    ⟨fun h e => h e (mem_ends e), fun h e _ => h e⟩

/-- The lower requests of PART STOP (R196). -/
def lowerAll (s : State) : State := EndId.all.foldl (fun y e => lowered e y) s

theorem lowerBoth_both (s : State) : lowerBoth .b (lowerBoth .a s) = lowerAll s := by
  rw [lowerBoth_eq, lowerBoth_eq]
  rfl

/-- Each barrier takes its lower request over what it shows before the four requests. -/
theorem lowerAll_driver (e : EndId) (s : State) : ∃ z : State, z.station e = s.station e
    ∧ (lowerAll s).station e = (lowered e z).station e :=
  foldl_view (s := s) (view := fun s => s.station e) (f := fun s e => lowered e s)
    (fun s x ne => (lowered_driverOnly x s).station_of_ne ne) ends_nodup (mem_ends e)

theorem lowerAll_frame (s : State) : (lowerAll s).part = s.part ∧ (lowerAll s).decks = s.decks
    ∧ (lowerAll s).visits = s.visits := by
  have each (e : EndId) (s : State) : (lowered e s).part = s.part ∧ (lowered e s).decks = s.decks
      ∧ (lowered e s).visits = s.visits := by
    obtain ⟨b, v, r, out⟩ := lowered_driverOnly e s
    rw [out]
    exact ⟨rfl, rfl, rfl⟩
  unfold lowerAll
  induction EndId.all generalizing s with
  | nil => exact ⟨rfl, rfl, rfl⟩
  | cons e es ih =>
    obtain ⟨part, decks, visits⟩ := ih (lowered e s)
    obtain ⟨part', decks', visits'⟩ := each e s
    exact ⟨part.trans part', decks.trans decks', visits.trans visits'⟩

/-- A barrier DOWN or LOWERING stays so at a lower request (R66). -/
theorem lowered_down_state (h : (s.driver e).state = .down ∨ (s.driver e).state = .lowering) :
    ((lowered e s).driver e).state = (s.driver e).state := by
  rw [lowered_down h]
  split
  · rw [modDriver_driver]
  · rfl

theorem safetyOcc_congr (h : t.station e = s.station e) : t.safetyOcc e = s.safetyOcc e := by
  unfold State.safetyOcc
  rw [h]

/-- Settles O50: the lines of LINK by their values, PART START and PART STOP by the four tests and the four
lower requests, each taken over what its end shows before. -/
theorem linkAndPartCommands : Obligations.LinkAndPartCommands := by
  refine ⟨fun s => ?_, fun s => ?_⟩
  · intro l put baud silence
    refine ⟨rfl, rfl, rfl, fun b mem => ?_, fun n => ?_, rfl, rfl, rfl, fun p => rfl, rfl, fun n => ?_,
      fun n low high => ?_, rfl, rfl, rfl, rfl, rfl, rfl, rfl, fun none => ?_, fun r reply => sentLine_eq reply⟩
    · rcases mem_baudRates.1 mem with rfl | rfl | rfl | rfl | rfl <;> rfl
    · obtain ⟨legal, low, high, below, greatest⟩ := baud_spec n
      exact ⟨_, legal, low, high, below, greatest, exec_linkBaud_clamped⟩
    · intro i
      refine ⟨?_, fun low ne => exec_linkSilence (silenceTimeOf_below low ne),
        fun high => exec_linkSilence (silenceTimeOf_above high)⟩
      rintro rfl
      rfl
    · have out := exec_linkSilence (s := s) (silenceTimeOf_inside low high)
      rw [silenceText_ne (by omega)] at out
      exact out
    · unfold State.sentLine
      rw [show s.link.reply = _ from none]
      rfl
  · intro enabled passes mode idle no
    have startable (d : Deck) : (s.deck d).params.startable = true ↔ passes d := startable_iff d
    have failing := failingDecks_eq s
    refine ⟨fun run => if_pos run, fun run => ⟨fun a b => ?_, fun a b => ?_, fun a b => ?_, fun a b => ?_⟩,
      fun run => ?_, fun run busy => ?_, fun run quiet => ?_, fun run y => laneWrite_of_run run,
      fun run => ⟨laneWrite_of_setup run, fun y => laneWrite_of_setup run⟩, rfl, rfl,
      Config.siliconRevision, rfl⟩
    · rw [if_pos ((startable .a).2 a), if_neg (mt (startable .b).1 b)] at failing
      exact exec_partStart_fails run failing
    · rw [if_neg (mt (startable .a).1 a), if_pos ((startable .b).2 b)] at failing
      exact exec_partStart_fails run failing
    · rw [if_neg (mt (startable .a).1 a), if_neg (mt (startable .b).1 b)] at failing
      exact exec_partStart_fails run failing
    · rw [if_pos ((startable .a).2 a), if_pos ((startable .b).2 b)] at failing
      obtain ⟨en, v, r, frame⟩ := wakeAll_frame (s.setRun true)
      refine ⟨_, exec_partStart run failing, by rw [frame]; rfl, fun e h => wakeAll_stays (s := s.setRun true) h,
        fun e at_ occ approach unread conflict live => ?_, by rw [frame]; rfl, by rw [frame]; rfl,
        by rw [frame]; rfl, by rw [frame]; rfl, rfl⟩
      rw [wakeAll_woken (s := s.setRun true) rfl at_ occ approach conflict unread live]
      exact ⟨rfl, rfl⟩
    · refine if_pos ?_
      rw [run]
      rfl
    · refine (if_neg (by rw [run]; decide)).trans (if_neg ?_)
      exact mt (allIdle_iff s).1 busy
    · obtain ⟨part, decks, visits⟩ := lowerAll_frame (s.setRun false)
      refine ⟨lowerAll (s.setRun false), ?_, part, decks, visits, fun e h => ?_, fun e up => ?_, rfl⟩
      · refine (if_neg (by rw [run]; decide)).trans ((if_pos ((allIdle_iff s).2 quiet)).trans ?_)
        rw [lowerBoth_both]
        rfl
      · obtain ⟨z, station, out⟩ := lowerAll_driver e (s.setRun false)
        have same : z.driver e = s.driver e := congrArg (·.driver) station
        rw [show (lowerAll (s.setRun false)).driver e = (lowered e z).driver e from congrArg (·.driver) out,
          lowered_down_state (by rwa [same]), same]
      · obtain ⟨z, station, out⟩ := lowerAll_driver e (s.setRun false)
        have same : z.driver e = s.driver e := congrArg (·.driver) station
        have occ : z.safetyOcc e = s.safetyOcc e := safetyOcc_congr station
        have lines : (z.station e).lines = (s.station e).lines := congrArg (·.lines) station
        rw [show (lowerAll (s.setRun false)).driver e = (lowered e z).driver e from congrArg (·.driver) out,
          lowered_driver (by rwa [same]), occ, same, lines]
        exact ⟨fun h => if_pos h, fun h => if_neg (ne_true_of_eq_false h)⟩

end Sys2Proof.Machine
end

section
/-! PROOFS. Chapter 10, power-on and RESET ALL: the stages of the restart and what each leaves (R8, R13, R40,
R80, R100, R124, R138, R164, R183, R197, R200, R211). -/

namespace Sys2Proof.Machine

-- One declaration after another: at once they ask for more threads than the check's limits allow.
set_option Elab.async false

variable {s t u : State} {e : EndId} {d : Deck} {f : FaultSource} {r : Readings}

/-- The entry of a condition that has just arisen over a CLEAR one (R209). -/
def FaultEntry.arisen (now : YardTime) : FaultEntry := ⟨.active, false, now, 1⟩

/-! ### One stage after another -/

theorem foldl_rel {ι : Type} {R : State → State → Prop} {f : State → ι → State} (refl : ∀ s, R s s)
    (trans : ∀ {s t u}, R s t → R t u → R s u) (step : ∀ s i, R s (f s i)) (is : List ι) (s : State) :
    R s (is.foldl f s) := by
  induction is generalizing s with
  | nil => exact refl s
  | cons i is ih => exact trans (step s i) (ih _)

/-- A stage of the restart: it may raise the entries of its own sources and place reports, and writes only
the drivers and printers beside. -/
structure RestartStage (own : FaultSource → Prop) (s t : State) : Prop where
  frame : t = { s with decks := t.decks, ends := t.ends, faults := t.faults, reports := t.reports }
  machine : ∀ e, t.machine e = s.machine e
  lines : ∀ e, (t.station e).lines = (s.station e).lines
  other : ∀ f, ¬ own f → t.faults.get f = s.faults.get f
  reported : Reported s t

section Stage
variable {own : FaultSource → Prop}

theorem RestartStage.refl (s : State) : RestartStage own s s :=
  ⟨rfl, fun _ => rfl, fun _ => rfl, fun _ _ => rfl, .of_eq rfl⟩

theorem RestartStage.trans (h : RestartStage own s t) (k : RestartStage own t u) : RestartStage own s u where
  frame := by
    rw [k.frame]
    conv_lhs => rw [h.frame]
  machine e := (k.machine e).trans (h.machine e)
  lines e := (k.lines e).trans (h.lines e)
  other f apart := (k.other f apart).trans (h.other f apart)
  reported := h.reported.trans k.reported

theorem RestartStage.clock (h : RestartStage own s t) : t.clock = s.clock := by rw [h.frame]

/-- The signal of a detector is a stage (R211). -/
theorem restartStage_condArises (h : own f) (s : State) : RestartStage own s (condArises f s) := by
  obtain ⟨v, rep, out, -⟩ := condArises_spec s f
  refine ⟨by rw [out], fun e => by rw [out]; rfl, fun e => by rw [out]; rfl, fun g apart => ?_,
    reported_condArises f s⟩
  exact condArises_entry_of_ne (by rintro rfl; exact apart h) s

end Stage

/-! ### The drivers (R80) -/

/-- The start of every driver. -/
def startDrivers (s : State) : State := EndId.all.foldl (fun s e => startDriver e s) s

/-- The entries that the start of the drivers may raise. -/
def IsBar (f : FaultSource) : Prop := ∃ e, f = .bar e

theorem startDrivers_stage (s : State) : RestartStage IsBar s (startDrivers s) := by
  refine foldl_rel .refl .trans (fun s e => ?_) EndId.all s
  have only := startDriver_driverOnly e s
  refine ⟨?_, only.machine, only.lines, fun f apart => only.fault_of_ne fun h => apart ⟨e, h⟩, ?_⟩
  · obtain ⟨b, v, rep, out⟩ := only
    rw [out]
  · rw [startDriver_eq]
    exact reported_putDriver _ _ _

theorem startDrivers_decks (s : State) : (startDrivers s).decks = s.decks :=
  foldl_rel (R := fun s t => t.decks = s.decks) (fun _ => rfl) (fun h k => k.trans h)
    (fun s e => (startDriver_driverOnly e s).decks) EndId.all s

/-- Each driver is started over what it shows before the four starts. -/
theorem startDrivers_at (e : EndId) (s : State) (clear : s.faults.get (.bar e) = .clear) :
    (startDrivers s).driver e = (s.driver e).started (s.station e).lines (s.safetyOcc e)
      ∧ (startDrivers s).faults.get (.bar e) =
        if ((startDrivers s).driver e).state = .fault then .arisen s.clock.now else .clear := by
  obtain ⟨z, same, out⟩ := foldl_view (s := s) (i := e) (f := fun s e => startDriver e s)
    (view := fun s => (s.driver e, (s.station e).lines, s.faults.get (.bar e), s.clock))
    (fun s x ne => by
      have only := startDriver_driverOnly x s
      rw [only.driver_of_ne ne, only.lines, only.fault_of_ne fun h => ne (FaultSource.bar.inj h), only.clock])
    ends_nodup (mem_ends e)
  simp only [Prod.mk.injEq] at same out
  obtain ⟨driver, lines, entry, clock⟩ := same
  obtain ⟨started, -, raised, -⟩ := out
  have occ : z.safetyOcc e = s.safetyOcc e := by
    unfold State.safetyOcc
    rw [lines]
  rw [startDriver_eq, putDriver_driver, driver, lines, occ] at started
  rw [startDriver_eq, putDriver_fresh (entry.trans clear), driver, lines, occ, clock] at raised
  exact ⟨started, raised.trans
    (congrArg (fun b : Driver => if b.state = .fault then FaultEntry.arisen s.clock.now else .clear) started.symm)⟩

/-- A started driver is in FAULT exactly over both feedback inputs in CONFIRMED mode (R73, R80). -/
theorem started_fault_iff (b : Driver) (l : EndReadings) (occ : Bool) : (b.started l occ).state = .fault ↔
    b.mode = .confirmed ∧ l.up = true ∧ l.down = true := by
  by_cases confirmed : b.mode = .confirmed
  · unfold Driver.started
    dsimp only
    cases up : l.up <;> cases down : l.down <;> cases occ <;>
      simp [confirmed, up, down, drivenDown_state_eq, drivenUp_state]
  · exact ⟨fun h => absurd h (started_unfaulted confirmed), fun h => absurd h.1 confirmed⟩

/-! ### The LOOPFAULT lines (R61) -/

/-- Every LOOPFAULT line signalled. -/
def signalLoops (s : State) : State := EndId.all.foldl loopSignal s

/-- The entries of the LOOPFAULT lines. -/
def IsLoop (f : FaultSource) : Prop := ∃ e, f = .loop e

theorem signalLoops_stage (s : State) : RestartStage IsLoop s (signalLoops s) := by
  refine foldl_rel .refl .trans (fun s e => ?_) EndId.all s
  unfold loopSignal
  split
  · exact restartStage_condArises ⟨e, rfl⟩ s
  · exact .refl s

theorem signalLoops_frame (s : State) : ∃ f rep, signalLoops s = { s with faults := f, reports := rep } := by
  refine foldl_rel (R := fun s t => ∃ f rep, t = { s with faults := f, reports := rep })
    (fun s => ⟨s.faults, s.reports, rfl⟩) ?_ (fun s e => ?_) EndId.all s
  · rintro s t u ⟨f, rep, rfl⟩ ⟨f', rep', rfl⟩
    exact ⟨f', rep', rfl⟩
  · obtain ⟨v, rep, out⟩ := loopSignal_frame s e
    exact ⟨_, rep, out⟩

theorem signalLoops_at (e : EndId) (s : State) (clear : s.faults.get (.loop e) = .clear) :
    (signalLoops s).faults.get (.loop e) =
      if (s.station e).lines.loopfault then .arisen s.clock.now else .clear := by
  obtain ⟨z, same, out⟩ := foldl_view (s := s) (i := e) (f := loopSignal)
    (view := fun s => (s.station e, s.faults.get (.loop e), s.clock))
    (fun s x ne => by
      have entry := loopSignal_fault_of_ne (f := .loop e) (fun h => ne (FaultSource.loop.inj h)) s
      obtain ⟨v, rep, out⟩ := loopSignal_frame s x
      rw [entry, out]
      rfl)
    ends_nodup (mem_ends e)
  simp only [Prod.mk.injEq] at same out
  obtain ⟨station, entry, clock⟩ := same
  obtain ⟨-, raised, -⟩ := out
  rw [loopSignal_fresh (entry.trans clear), station, clock] at raised
  exact raised

/-! ### The PAPER lines (R183) -/

/-- Every PAPER line signalled. -/
def signalPapers (s : State) : State := Deck.all.foldl paperSignal s

/-- The entries of the PAPER lines. -/
def IsPrn (f : FaultSource) : Prop := ∃ d, f = .prn d

theorem paperSignal_active (h : (s.deck d).lines.paper = true) :
    paperSignal s d = condArises (.prn d) (s.modPrinter d Printer.faulted) :=
  (if_pos h).trans (printerFaultEntry_eq d s)

theorem paperSignal_inactive (h : (s.deck d).lines.paper = false) : paperSignal s d = s :=
  if_neg (ne_true_of_eq_false h)

theorem signalPapers_stage (s : State) : RestartStage IsPrn s (signalPapers s) := by
  refine foldl_rel .refl .trans (fun s d => ?_) Deck.all s
  cases paper : (s.deck d).lines.paper with
  | false => rw [paperSignal_inactive paper]; exact .refl s
  | true =>
    rw [paperSignal_active paper]
    have printed : RestartStage IsPrn s (s.modPrinter d Printer.faulted) :=
      ⟨rfl, fun _ => rfl, fun _ => rfl, fun _ _ => rfl, .of_eq rfl⟩
    exact printed.trans (restartStage_condArises ⟨d, rfl⟩ _)

theorem signalPapers_ends (s : State) : (signalPapers s).ends = s.ends := by
  refine foldl_rel (R := fun s t => t.ends = s.ends) (fun _ => rfl) (fun h k => k.trans h) (fun s d => ?_)
    Deck.all s
  cases paper : (s.deck d).lines.paper with
  | false => rw [paperSignal_inactive paper]
  | true =>
    rw [paperSignal_active paper]
    obtain ⟨v, rep, out, -⟩ := condArises_spec (s.modPrinter d Printer.faulted) (.prn d)
    rw [out]
    rfl

theorem mem_decks (d : Deck) : d ∈ Deck.all := by cases d <;> decide

theorem decks_nodup : Deck.all.Nodup := by decide

/-- A deck over its PAPER line (R183). -/
def DeckUnit.papered (u : DeckUnit) : DeckUnit :=
  if u.lines.paper then { u with printer := u.printer.faulted } else u

theorem paperSignal_deck (d : Deck) (s : State) : (paperSignal s d).deck d = (s.deck d).papered := by
  unfold DeckUnit.papered
  cases paper : (s.deck d).lines.paper with
  | false => rw [paperSignal_inactive paper, if_neg Bool.false_ne_true]
  | true =>
    obtain ⟨v, rep, out, -⟩ := condArises_spec (s.modPrinter d Printer.faulted) (.prn d)
    rw [paperSignal_active paper, out, if_pos rfl]
    change (s.modPrinter d Printer.faulted).deck d = _
    exact State.modDeck_deck s d _

theorem paperSignal_fresh (clear : s.faults.get (.prn d) = .clear) : (paperSignal s d).faults.get (.prn d) =
    if (s.deck d).lines.paper then .arisen s.clock.now else .clear := by
  cases paper : (s.deck d).lines.paper with
  | false => rw [paperSignal_inactive paper]; exact clear
  | true =>
    rw [paperSignal_active paper]
    exact condArises_fresh (s := s.modPrinter d Printer.faulted) (congrArg FaultEntry.state clear)

theorem paperSignal_elsewhere {x : Deck} (ne : d ≠ x) (s : State) : (paperSignal s x).deck d = s.deck d
    ∧ (paperSignal s x).faults.get (.prn d) = s.faults.get (.prn d) ∧ (paperSignal s x).clock = s.clock := by
  cases paper : (s.deck x).lines.paper with
  | false => rw [paperSignal_inactive paper]; exact ⟨rfl, rfl, rfl⟩
  | true =>
    have entry := condArises_entry_of_ne (f := .prn x) (g := .prn d) (fun h => ne (FaultSource.prn.inj h))
      (s.modPrinter x Printer.faulted)
    obtain ⟨v, rep, out, -⟩ := condArises_spec (s.modPrinter x Printer.faulted) (.prn x)
    rw [paperSignal_active paper]
    refine ⟨?_, entry, by rw [out]; rfl⟩
    rw [out]
    change (s.modPrinter x Printer.faulted).deck d = _
    exact State.modDeck_deck_of_ne s _ ne

theorem signalPapers_at (d : Deck) (s : State) (clear : s.faults.get (.prn d) = .clear) :
    (signalPapers s).deck d = (s.deck d).papered
      ∧ (signalPapers s).faults.get (.prn d) =
        if (s.deck d).lines.paper then .arisen s.clock.now else .clear := by
  obtain ⟨z, same, out⟩ := foldl_view (s := s) (i := d) (f := paperSignal)
    (view := fun s => (s.deck d, s.faults.get (.prn d), s.clock))
    (fun s x ne => by
      obtain ⟨deck, entry, clock⟩ := paperSignal_elsewhere ne s
      rw [deck, entry, clock])
    decks_nodup (mem_decks d)
  simp only [Prod.mk.injEq] at same out
  obtain ⟨deck, entry, clock⟩ := same
  obtain ⟨printed, raised, -⟩ := out
  rw [paperSignal_deck, deck] at printed
  rw [paperSignal_fresh (entry.trans clear), deck, clock] at raised
  exact ⟨printed, raised⟩

end Sys2Proof.Machine
end

section
/-! PROOFS. Chapter 10, power-on and RESET ALL as a whole (section 10.7). -/

namespace Sys2Proof.Machine

-- One declaration after another: at once they ask for more threads than the check's limits allow.
set_option Elab.async false

variable {s t u : State} {e : EndId} {d : Deck} {f : FaultSource} {r : Readings}

/-! ### The blocks at their power-on values -/

theorem restartBlocks_frame (r : Readings) (s : State) : restartBlocks r s = { s with
    faults := .empty
    reports := (offer .powerUp .none []
      { s with faults := .empty, reports := { s.reports with queue := [], lost := 0 } }).reports
    part := { s.part with run := false }
    link := s.link.restarted
    decks := (restartBlocks r s).decks
    ends := (restartBlocks r s).ends
    metro := { s.metro with compareDue := true }
    visits := s.visits.restarted
    accounts := s.accounts.map fun a => { a with pendingCharge := 0 }
    journal := s.journal.discard } := by
  obtain ⟨rep, out⟩ := offer_frame
    { s with faults := .empty, reports := { s.reports with queue := [], lost := 0 } } .powerUp .none []
  unfold restartBlocks
  rw [out]

theorem restartBlocks_station (e : EndId) : (restartBlocks r s).station e
    = (s.station e).restarted (r.ends.get e) := by
  obtain ⟨rep, out⟩ := offer_frame
    { s with faults := .empty, reports := { s.reports with queue := [], lost := 0 } } .powerUp .none []
  unfold restartBlocks
  rw [out]
  cases e <;> rfl

/-- The report queue of the restart opens with POWER_UP (R208). -/
theorem restartBlocks_queue (r : Readings) (s : State) : (restartBlocks r s).reports.queue =
    [{ number := s.reports.next, time := s.clock.now, kind := .powerUp, subject := .none, lost := 0
       params := [] }] := by
  rw [restartBlocks_frame]
  obtain ⟨-, placed, -⟩ := offer_spec .powerUp .none []
    { s with faults := .empty, reports := { s.reports with queue := [], lost := 0 } }
  dsimp only
  rw [placed rfl (by change 0 < 48; decide)]
  rfl

/-! ### The detectors signal (R211) -/

/-- The clock's condition signalled when it is present (R165). -/
def signalClock (s : State) : State := if s.clock.faulty then condArises .clock s else s

theorem signalClock_frame (s : State) : ∃ f rep, signalClock s = { s with faults := f, reports := rep } := by
  unfold signalClock
  split
  · obtain ⟨v, rep, out, -⟩ := condArises_spec s .clock
    exact ⟨_, rep, out⟩
  · exact ⟨s.faults, s.reports, rfl⟩

theorem signalClock_stage (s : State) : RestartStage (· = .clock) s (signalClock s) := by
  unfold signalClock
  split
  · exact restartStage_condArises (own := (· = .clock)) rfl s
  · exact .refl s

theorem signalClock_at (clear : s.faults.get .clock = .clear) :
    (signalClock s).faults.get .clock = if s.clock.faulty then .arisen s.clock.now else .clear := by
  unfold signalClock
  split
  · exact condArises_fresh (congrArg FaultEntry.state clear)
  · exact clear

/-- The state when the drivers are started and the detectors have signalled. -/
def restartSignalled (r : Readings) (s : State) : State :=
  signalClock (signalPapers (signalLoops (startDrivers (restartBlocks r s))))

/-- Each of the detectors' stages is one of the restart. -/
theorem RestartStage.mono {own own' : FaultSource → Prop} (h : RestartStage own s t)
    (sub : ∀ f, own f → own' f) : RestartStage own' s t :=
  ⟨h.frame, h.machine, h.lines, fun f apart => h.other f (mt (sub f) apart), h.reported⟩

theorem restartSignalled_stage (r : Readings) (s : State) : RestartStage
    (fun f => IsBar f ∨ IsLoop f ∨ IsPrn f ∨ f = .clock) (restartBlocks r s) (restartSignalled r s) :=
  ((((startDrivers_stage _).mono fun _ h => .inl h).trans
    ((signalLoops_stage _).mono fun _ h => .inr (.inl h))).trans
    ((signalPapers_stage _).mono fun _ h => .inr (.inr (.inl h)))).trans
    ((signalClock_stage _).mono fun _ h => .inr (.inr (.inr h)))

theorem signalLoops_driver (e : EndId) (s : State) : (signalLoops s).driver e = s.driver e := by
  obtain ⟨f, rep, out⟩ := signalLoops_frame s
  rw [out]
  rfl

theorem signalClock_driver (e : EndId) (s : State) : (signalClock s).driver e = s.driver e := by
  obtain ⟨f, rep, out⟩ := signalClock_frame s
  rw [out]
  rfl

theorem restartBlocks_faults (f : FaultSource) : (restartBlocks r s).faults.get f = .clear := by
  rw [restartBlocks_frame]
  exact faultTable_empty_get f

theorem restartBlocks_clock : (restartBlocks r s).clock = s.clock := by rw [restartBlocks_frame]

theorem signalLoops_deck (d : Deck) (s : State) : (signalLoops s).deck d = s.deck d := by
  obtain ⟨f, rep, out⟩ := signalLoops_frame s
  rw [out]
  rfl

theorem startDrivers_restarted (e : EndId) (r : Readings) (s : State) :
    (startDrivers (restartBlocks r s)).driver e =
      (s.driver e).started (r.ends.get e) ((r.ends.get e).safety || (r.ends.get e).loopfault) := by
  rw [(startDrivers_at e _ (restartBlocks_faults _)).1]
  unfold State.safetyOcc State.driver
  have station : (restartBlocks r s).ends.get e = (s.ends.get e).restarted (r.ends.get e) :=
    restartBlocks_station e
  rw [State.station, station]
  rfl

theorem restartSignalled_driver (e : EndId) (s : State) : (restartSignalled r s).driver e =
    (s.driver e).started (r.ends.get e) ((r.ends.get e).safety || (r.ends.get e).loopfault) := by
  have papers (u : State) : (signalPapers u).driver e = u.driver e :=
    congrArg (fun ends : PerEnd Station => (ends.get e).driver) (signalPapers_ends u)
  rw [restartSignalled, signalClock_driver, papers, signalLoops_driver, startDrivers_restarted]

theorem restartSignalled_deck (d : Deck) (s : State) : (restartSignalled r s).deck d =
    ((s.deck d).restarted (r.decks.get d)).papered := by
  have clear : (signalLoops (startDrivers (restartBlocks r s))).faults.get (.prn d) = .clear := by
    rw [(signalLoops_stage _).other _ (by rintro ⟨x, h⟩; cases h),
      (startDrivers_stage _).other _ (by rintro ⟨x, h⟩; cases h), restartBlocks_faults]
  have clock (u : State) : (signalClock u).deck d = u.deck d := by
    obtain ⟨f, rep, out⟩ := signalClock_frame u
    rw [out]
    rfl
  rw [restartSignalled, clock, (signalPapers_at d _ clear).1, signalLoops_deck, State.deck, startDrivers_decks]
  exact congrArg DeckUnit.papered (restartBlocks_deck r s d)

theorem restartSignalled_lines (e : EndId) : ((restartSignalled r s).station e).lines = r.ends.get e := by
  rw [(restartSignalled_stage r s).lines, restartBlocks_station]
  rfl

theorem restartSignalled_machine (e : EndId) : (restartSignalled r s).machine e =
    (s.machine e).restarted (r.ends.get e).approach := by
  rw [(restartSignalled_stage r s).machine]
  exact congrArg Station.machine (restartBlocks_station e)

/-- The condition a detector finds present at the restart (R211). -/
def PresentAgain (r : Readings) (s : State) : FaultSource → Prop
  | .cell _ _ | .rdr _ | .journal => False
  | .bar e => (s.driver e).mode = .confirmed ∧ (r.ends.get e).up = true ∧ (r.ends.get e).down = true
  | .loop e => (r.ends.get e).loopfault = true
  | .prn d => (r.decks.get d).paper = true
  | .clock => s.clock.valid = false ∨ s.clock.batteryLow = true

/-- The entry of a source after the restart: ACTIVE once, or CLEAR (R211). -/
def EntryAgain (p : Prop) (now : YardTime) (x : FaultEntry) : Prop :=
  (p → x = .arisen now) ∧ (¬ p → x = .clear)

theorem entryAgain_of_ite {p : Prop} [Decidable p] {q : Prop} {now : YardTime} {x : FaultEntry}
    (h : x = if p then .arisen now else .clear) (same : p ↔ q) : EntryAgain q now x :=
  ⟨fun yes => h.trans (if_pos (same.2 yes)), fun no => h.trans (if_neg (mt same.1 no))⟩

theorem restartSignalled_faults (f : FaultSource) :
    EntryAgain (PresentAgain r s f) s.clock.now ((restartSignalled r s).faults.get f) := by
  have blocks := restartBlocks_faults (r := r) (s := s) f
  have untouched (apart : ¬ (IsBar f ∨ IsLoop f ∨ IsPrn f ∨ f = .clock)) (absent : ¬ PresentAgain r s f) :
      EntryAgain (PresentAgain r s f) s.clock.now ((restartSignalled r s).faults.get f) :=
    ⟨fun present => absurd present absent,
      fun _ => ((restartSignalled_stage r s).other f apart).trans blocks⟩
  have drivers := startDrivers_stage (restartBlocks r s)
  have loops := signalLoops_stage (startDrivers (restartBlocks r s))
  have papers := signalPapers_stage (signalLoops (startDrivers (restartBlocks r s)))
  have clock := signalClock_stage (signalPapers (signalLoops (startDrivers (restartBlocks r s))))
  cases f with
  | cell d c => exact untouched (by simp [IsBar, IsLoop, IsPrn]) id
  | rdr e => exact untouched (by simp [IsBar, IsLoop, IsPrn]) id
  | journal => exact untouched (by simp [IsBar, IsLoop, IsPrn]) id
  | bar e =>
    have driver : (startDrivers (restartBlocks r s)).driver e = (restartSignalled r s).driver e := by
      rw [restartSignalled_driver, startDrivers_restarted]
    obtain ⟨-, entry⟩ := startDrivers_at e _ blocks
    rw [restartSignalled, clock.other _ (by simp), papers.other _ (by simp [IsPrn]),
      loops.other _ (by simp [IsLoop])]
    rw [startDrivers_restarted, restartBlocks_clock] at entry
    exact entryAgain_of_ite entry (started_fault_iff _ _ _)
  | loop e =>
    have entry := signalLoops_at e (startDrivers (restartBlocks r s))
      (by rw [drivers.other _ (by simp [IsBar]), blocks])
    rw [drivers.lines, restartBlocks_station, drivers.clock, restartBlocks_clock] at entry
    rw [restartSignalled, clock.other _ (by simp), papers.other _ (by simp [IsPrn])]
    exact entryAgain_of_ite entry .rfl
  | prn d =>
    obtain ⟨-, entry⟩ := signalPapers_at d (signalLoops (startDrivers (restartBlocks r s)))
      (by rw [loops.other _ (by simp [IsLoop]), drivers.other _ (by simp [IsBar]), blocks])
    rw [signalLoops_deck, State.deck, startDrivers_decks, loops.clock, drivers.clock, restartBlocks_clock] at entry
    rw [show (restartBlocks r s).decks.get d = _ from restartBlocks_deck r s d] at entry
    rw [restartSignalled, clock.other _ (by simp)]
    exact entryAgain_of_ite entry .rfl
  | clock =>
    have entry := signalClock_at (s := signalPapers (signalLoops (startDrivers (restartBlocks r s))))
      (by rw [papers.other _ (by simp [IsPrn]), loops.other _ (by simp [IsLoop]),
        drivers.other _ (by simp [IsBar]), blocks])
    rw [papers.clock, loops.clock, drivers.clock, restartBlocks_clock] at entry
    exact entryAgain_of_ite entry (by simp [YardClock.faulty, PresentAgain])

end Sys2Proof.Machine
end

section
/-! PROOFS. Chapter 10, the end of the restart: pending closes, the part mode, and the state left (R85, R102,
R195, R197). -/

namespace Sys2Proof.Machine

-- One declaration after another: at once they ask for more threads than the check's limits allow.
set_option Elab.async false

variable {s t u : State} {e : EndId} {d : Deck} {f : FaultSource} {r : Readings}

/-! ### Pending closes (R102) -/

/-- Both decks' pending closes completed. -/
def closeBoth (s : State) : State := Deck.all.foldl (fun s d => completeClose d s) s

theorem closeBoth_resting (idle : ∀ d, (s.deck d).seq.state = .idle)
    (rest : ∀ e, (s.machine e).state = .idle) : closeBoth s =
    (s.modSettings .a DeckSettings.closedOut).modSettings .b DeckSettings.closedOut := by
  have first : completeClose .a s = s.modSettings .a DeckSettings.closedOut :=
    completeClose_resting (idle .a) fun e _ => rest e
  have second : completeClose .b (s.modSettings .a DeckSettings.closedOut)
      = (s.modSettings .a DeckSettings.closedOut).modSettings .b DeckSettings.closedOut := by
    refine completeClose_resting ?_ fun e _ => rest e
    rw [State.modSettings_deck_of_ne s _ (by decide)]
    exact idle .b
  change completeClose .b (completeClose .a s) = _
  rw [first, second]

theorem closedOut_deck (d : Deck) (s : State) :
    ((s.modSettings .a DeckSettings.closedOut).modSettings .b DeckSettings.closedOut).deck d
      = { s.deck d with settings := (s.deck d).settings.closedOut } := by
  cases d with
  | a => rw [State.modSettings_deck_of_ne _ _ (by decide), State.modSettings_deck]
  | b => rw [State.modSettings_deck, State.modSettings_deck_of_ne _ _ (by decide)]

/-- The state before the part mode is set. -/
def restartClosed (r : Readings) (s : State) : State :=
  ((restartSignalled r s).modSettings .a DeckSettings.closedOut).modSettings .b DeckSettings.closedOut

theorem restarted_idle (d : Deck) : ((restartSignalled r s).deck d).seq = .cleared := by
  rw [restartSignalled_deck]
  unfold DeckUnit.papered
  split <;> rfl

theorem resetAll_eq (r : Readings) (s : State) : resetAll r s = autostart (restartClosed r s) := by
  refine congrArg autostart (closeBoth_resting (s := restartSignalled r s) (fun d => ?_) fun e => ?_)
  · rw [restarted_idle]
    rfl
  · rw [restartSignalled_machine]
    rfl

theorem restartClosed_deck (d : Deck) : (restartClosed r s).deck d =
    { ((s.deck d).restarted (r.decks.get d)).papered with settings := (s.deck d).settings.closedOut } := by
  have settings : ((restartSignalled r s).deck d).settings = (s.deck d).settings := by
    rw [restartSignalled_deck]
    unfold DeckUnit.papered
    split <;> rfl
  rw [restartClosed, closedOut_deck, settings, restartSignalled_deck]

theorem restartClosed_params (d : Deck) : ((restartClosed r s).deck d).params = (s.deck d).params := by
  rw [restartClosed_deck]
  change ((s.deck d).restarted (r.decks.get d)).papered.params = _
  unfold DeckUnit.papered
  split <;> rfl

/-! ### The part mode (R195, R197) and the tests of R85 (R100) -/

/-- An end whose port is fresh: no conflict, no held read, and a clear timer that has not expired. -/
def EndMachine.Fresh (m : EndMachine) : Prop :=
  m.conflict = false ∧ m.heldRead = none ∧ m.clearTimer ≠ .expired

theorem restarted_fresh (m : EndMachine) (occ : Bool) : (m.restarted occ).Fresh :=
  ⟨rfl, rfl, restarted_live m occ⟩

theorem foldl_wake_fresh {es : List EndId} (nodup : es.Nodup) (fresh : ∀ e ∈ es, (s.machine e).Fresh) :
    (es.foldl (fun s e => wakeTest e s) s).visits = s.visits
      ∧ Reported s (es.foldl (fun s e => wakeTest e s) s) := by
  induction es generalizing s with
  | nil => exact ⟨rfl, .of_eq rfl⟩
  | cons x es ih =>
    obtain ⟨apart, nodup⟩ := List.nodup_cons.1 nodup
    obtain ⟨conflict, unread, live⟩ := fresh x List.mem_cons_self
    obtain ⟨visits, reports⟩ := wakeTest_fresh conflict unread live
    obtain ⟨visits', reports'⟩ := ih (s := wakeTest x s) nodup fun e mem => by
      rw [(wakeTest_endOnly x s).machine_of_ne fun h => apart (h ▸ mem)]
      exact fresh e (List.mem_cons_of_mem _ mem)
    exact ⟨visits'.trans visits, reports.trans reports'⟩

theorem wakeAll_fresh (fresh : ∀ e, (s.machine e).Fresh) :
    (wakeAll s).visits = s.visits ∧ Reported s (wakeAll s) :=
  foldl_wake_fresh ends_nodup fun e _ => fresh e

theorem wakeAll_wrongWay (run : s.part.run = true) (idle : (s.machine e).state = .idle)
    (occ : (s.station e).lines.approach = true) (h : s.isApproach e = false)
    (unmarked : (s.machine e).wrongWay = false) :
    (wakeAll s).machine e = { s.machine e with wrongWay := true } := by
  obtain ⟨z, station, same, out⟩ := wakeAll_station e s
  rw [show (wakeAll s).machine e = (wakeTest e z).machine e from congrArg (·.machine) out,
    wakeTest_wrongWay (by rwa [same.part]) (by rwa [same.machine]) (by rwa [same.lines])
    (by rwa [same.isApproach]), same.machine, if_neg (ne_true_of_eq_false unmarked), offer_machine,
    modMachine_machine, same.machine]

theorem wakeAll_driver (e : EndId) (s : State) : (wakeAll s).driver e = s.driver e :=
  foldl_rel (R := fun s t => t.driver e = s.driver e) (fun _ => rfl) (fun h k => k.trans h)
    (fun s x => (wakeTest_endOnly x s).driver e) EndId.all s

theorem wakeAll_lines (e : EndId) (s : State) : ((wakeAll s).station e).lines = (s.station e).lines :=
  foldl_rel (R := fun s t => (t.station e).lines = (s.station e).lines) (fun _ => rfl) (fun h k => k.trans h)
    (fun s x => (wakeTest_endOnly x s).lines e) EndId.all s

theorem failingDecks_none (s : State) : s.failingDecks.isEmpty = true ↔
    ∀ d, (s.deck d).params.startable = true := by
  have both : (∀ d, (s.deck d).params.startable = true)
      ↔ (s.deck .a).params.startable = true ∧ (s.deck .b).params.startable = true :=
    ⟨fun h => ⟨h .a, h .b⟩, fun h d => by cases d with | a => exact h.1 | b => exact h.2⟩
  rw [failingDecks_eq, both]
  cases (s.deck .a).params.startable <;> cases (s.deck .b).params.startable <;> simp

/-- An end after the part mode is set, over a fresh machine at rest (R85, R100). -/
def EndMachine.afterStart (m : EndMachine) (run occ approach : Bool) (mv : Movement) : EndMachine :=
  if run = true ∧ occ = true then
    if approach = true then m.woken mv else { m with wrongWay := true }
  else m

/-- What setting the part mode leaves, over ends at rest with fresh ports. -/
theorem autostart_spec (run : s.part.run = false) (rest : ∀ e, (s.machine e).state = .idle)
    (fresh : ∀ e, (s.machine e).Fresh) (unmarked : ∀ e, (s.machine e).wrongWay = false) :
    let t := autostart s
    (t.part.run = true ↔ s.part.autostart = true ∧ ∀ d, (s.deck d).params.startable = true)
      ∧ t = { s with part := { s.part with run := t.part.run }, ends := t.ends, reports := t.reports }
      ∧ (∀ e, t.driver e = s.driver e) ∧ (∀ e, (t.station e).lines = (s.station e).lines)
      ∧ (∀ e, t.machine e = (s.machine e).afterStart t.part.run (s.station e).lines.approach
          (s.isApproach e) (s.movementAt e))
      ∧ Reported s t := by
  intro t
  by_cases starts : (s.part.autostart && s.failingDecks.isEmpty) = true
  · have shape : t = wakeAll (s.setRun true) := if_pos starts
    clear_value t
    subst shape
    rw [Bool.and_eq_true, failingDecks_none] at starts
    obtain ⟨en, v, rep, frame⟩ := wakeAll_frame (s.setRun true)
    obtain ⟨visits, reports⟩ := wakeAll_fresh (s := s.setRun true) fresh
    have runs : (wakeAll (s.setRun true)).part.run = true := by rw [frame]; rfl
    refine ⟨⟨fun _ => starts, fun _ => runs⟩, ?_, wakeAll_driver (s := s.setRun true),
      wakeAll_lines (s := s.setRun true), fun e => ?_, reports⟩
    · rw [frame] at visits ⊢
      dsimp only at visits ⊢
      rw [visits]
      rfl
    · rw [runs]
      unfold EndMachine.afterStart
      by_cases occ : (s.station e).lines.approach = true
      · rw [if_pos ⟨rfl, occ⟩]
        by_cases approach : s.isApproach e = true
        · obtain ⟨conflict, unread, live⟩ := fresh e
          rw [if_pos approach]
          exact wakeAll_woken (s := s.setRun true) rfl (rest e) occ approach conflict unread live
        · rw [if_neg approach]
          exact wakeAll_wrongWay (s := s.setRun true) rfl (rest e) occ (Bool.eq_false_iff.2 approach) (unmarked e)
      · rw [if_neg fun h => occ h.2]
        exact congrArg (·.machine)
          (wakeAll_stays (s := s.setRun true) (.inr (Bool.eq_false_iff.2 occ)))
  · have shape : t = s := if_neg starts
    clear_value t
    subst shape
    rw [Bool.and_eq_true, failingDecks_none] at starts
    refine ⟨⟨fun h => absurd h (ne_true_of_eq_false run), fun h => absurd h starts⟩, rfl, fun _ => rfl,
      fun _ => rfl, fun e => ?_, .of_eq rfl⟩
    unfold EndMachine.afterStart
    rw [if_neg fun h => ne_true_of_eq_false run h.1]

/-! ### The state left (section 10.7) -/

theorem modSettings_both (f g : DeckSettings → DeckSettings) (s : State) :
    (s.modSettings .a f).modSettings .b g
      = { s with decks := ((s.modSettings .a f).modSettings .b g).decks } := rfl

theorem restartClosed_frame (r : Readings) (s : State) : restartClosed r s = { s with
    part := { s.part with run := false }
    link := s.link.restarted
    decks := (restartClosed r s).decks
    ends := (restartSignalled r s).ends
    metro := { s.metro with compareDue := true }
    visits := s.visits.restarted
    accounts := s.accounts.map fun a => { a with pendingCharge := 0 }
    journal := s.journal.discard
    reports := (restartSignalled r s).reports
    faults := (restartSignalled r s).faults } := by
  have stage := (restartSignalled_stage r s).frame
  have blocks := restartBlocks_frame r s
  unfold restartClosed
  generalize restartSignalled r s = x at stage ⊢
  generalize restartBlocks r s = a at stage blocks
  rw [modSettings_both]
  conv_lhs => rw [stage]
  conv_lhs => rw [blocks]
  rfl

/-- The blocks that the restart writes alike for every detector and driver. -/
theorem restartClosed_rest (r : Readings) (s : State) : restartClosed r s = { s with
    part := { s.part with run := false }
    link := s.link.restarted
    decks := (restartClosed r s).decks
    ends := (restartClosed r s).ends
    metro := { s.metro with compareDue := true }
    visits := s.visits.restarted
    accounts := s.accounts.map fun a => { a with pendingCharge := 0 }
    journal := s.journal.discard
    reports := (restartClosed r s).reports
    faults := (restartClosed r s).faults } := by
  have frame := restartClosed_frame r s
  generalize restartClosed r s = c at frame ⊢
  rw [frame]

/-- What the restart leaves of a deck (R8, R13, R40, R102, R183). -/
theorem restartClosed_unit (r : Readings) (s : State) (d : Deck) :
    let u := (restartClosed r s).deck d
    u.seq = .cleared ∧ u.capture.state = .idle ∧ u.streak = 0 ∧ u.wcu.latest = none ∧ u.wcu.filterWin = []
      ∧ u.wcu.stabWin = [] ∧ u.wcu.zero = (s.deck d).wcu.zero ∧ u.params = (s.deck d).params
      ∧ u.lines = r.decks.get d ∧ u.printer.queue = [] ∧ u.printer.presented = none
      ∧ u.settings = (s.deck d).settings.closedOut
      ∧ (∀ c : Chan, u.channels.get c = { Channel.fresh with inForce := (s.deck d).params.cells.get c })
      ∧ u.printer.state = (if (r.decks.get d).paper = true then .fault else .ready)
      ∧ u.printer.stuck = (if (r.decks.get d).busy = true then .running 30 else .stopped)
      ∧ u.printer.uncollectedTime = (s.deck d).printer.uncollectedTime := by
  intro u
  have unit : u = { ((s.deck d).restarted (r.decks.get d)).papered with
      settings := (s.deck d).settings.closedOut } := restartClosed_deck d
  clear_value u
  subst unit
  have channels (c : Chan) : ((s.deck d).restarted (r.decks.get d)).channels.get c
      = { Channel.fresh with inForce := (s.deck d).params.cells.get c } := by cases c <;> rfl
  unfold DeckUnit.papered
  cases paper : (r.decks.get d).paper with
  | false =>
    rw [show ((s.deck d).restarted (r.decks.get d)).lines.paper = false from paper]
    exact ⟨rfl, rfl, rfl, rfl, rfl, rfl, rfl, rfl, rfl, rfl, rfl, rfl, channels, rfl, rfl, rfl⟩
  | true =>
    rw [show ((s.deck d).restarted (r.decks.get d)).lines.paper = true from paper]
    exact ⟨rfl, rfl, rfl, rfl, rfl, rfl, rfl, rfl, rfl, rfl, rfl, rfl, channels, rfl, rfl, rfl⟩

/-- A driver started at power-on, by its mode and what is read (R80). -/
theorem started_cases (b : Driver) (l : EndReadings) (occ : Bool) :
    let rest : Driver := { b with
      pending := .none, cause := .none, condition := false, travel := .stopped
      pulsing := false, raiseOut := false, lowerOut := false }
    let down : Driver := { rest with
      state := .lowering, commanded := .down, travel := .running b.travelTime
      lowerOut := decide (b.mode = .pulse), pulsing := decide (b.mode = .pulse) }
    let up : Driver := { rest with
      state := .raising, commanded := .up, travel := .running b.travelTime
      raiseOut := true, pending := .lower }
    (b.mode = .confirmed → l.down = true → l.up = false →
        b.started l occ = { rest with state := .down, commanded := .down })
      ∧ (b.mode ≠ .confirmed ∨ l.down = false → occ = false → b.started l occ = down)
      ∧ (b.mode = .pulse → occ = true →
          b.started l occ = { rest with state := .up, commanded := .up, pending := .lower })
      ∧ (b.mode = .hold → occ = true → b.started l occ = up)
      ∧ (b.mode = .confirmed → l.down = false → l.up = false → occ = true → b.started l occ = up)
      ∧ (b.mode = .confirmed → l.down = false → l.up = true → occ = true →
          b.started l occ = { up with state := .up, travel := .stopped })
      ∧ (b.mode = .confirmed → l.down = true → l.up = true →
          (b.started l occ).state = .fault ∧ (b.started l occ).cause = .both) := by
  intro rest down up
  unfold Driver.started
  refine ⟨fun mode atDown atUp => if_pos ⟨mode, atDown, atUp⟩, fun moves clear => ?_, fun mode occ => ?_,
    fun mode occ => ?_, fun mode atDown atUp occ => ?_, fun mode atDown atUp occ => ?_, fun mode atDown atUp => ?_⟩
  · have away : ¬ (b.mode = .confirmed ∧ l.down = true) := fun h =>
      moves.elim (fun ne => ne h.1) fun clear => ne_true_of_eq_false clear h.2
    have travels : Driver.drivenDown rest l = down := by
      refine (if_neg away).trans ?_
      cases mode : b.mode <;> simp [down, rest, Driver.outputsDown, mode]
    exact (if_neg fun h => away ⟨h.1, h.2.1⟩).trans ((if_pos clear).trans travels)
  · refine (if_neg fun h => ?_).trans ((if_neg (ne_false_of_eq_true occ)).trans (if_pos mode))
    exact DriveMode.noConfusion (mode.symm.trans h.1)
  · refine (if_neg fun h => ?_).trans ((if_neg (ne_false_of_eq_true occ)).trans ((if_neg ?_).trans ?_))
    · exact DriveMode.noConfusion (mode.symm.trans h.1)
    · exact fun h => DriveMode.noConfusion (mode.symm.trans h)
    · refine (if_neg fun h => DriveMode.noConfusion (mode.symm.trans h.1)).trans ?_
      simp [up, rest, Driver.outputsUp, mode]
  · refine (if_neg fun h => ne_true_of_eq_false atDown h.2.1).trans
      ((if_neg (ne_false_of_eq_true occ)).trans ((if_neg ?_).trans ?_))
    · exact fun h => DriveMode.noConfusion (mode.symm.trans h)
    · refine (if_neg fun h => ne_true_of_eq_false atUp h.2).trans ?_
      simp [up, rest, Driver.outputsUp, mode]
  · refine (if_neg fun h => ne_true_of_eq_false atDown h.2.1).trans
      ((if_neg (ne_false_of_eq_true occ)).trans ((if_neg ?_).trans ?_))
    · exact fun h => DriveMode.noConfusion (mode.symm.trans h)
    · refine (if_pos ⟨mode, atUp⟩).trans ((if_neg (ne_true_of_eq_false atDown)).trans ?_)
      simp [up, rest, Driver.outputsUp, mode]
  · have faulted (x : Driver) (same : x.mode = b.mode) (y : Driver)
        (h : y = Driver.drivenDown x l ∨ y = Driver.drivenUp x l) : y.state = .fault ∧ y.cause = .both := by
      rcases h with rfl | rfl
      · rw [show Driver.drivenDown x l = x.outputsDown.failed .both from
          (if_pos ⟨same.trans mode, atDown⟩).trans (if_pos atUp)]
        exact ⟨rfl, rfl⟩
      · rw [show Driver.drivenUp x l = x.outputsUp.failed .both from
          (if_pos ⟨same.trans mode, atUp⟩).trans (if_pos atDown)]
        exact ⟨rfl, rfl⟩
    have both : ¬ (b.mode = .confirmed ∧ l.down = true ∧ l.up = false) :=
      fun h => ne_false_of_eq_true atUp h.2.2
    have moves : ¬ b.mode = .pulse := fun h => DriveMode.noConfusion (mode.symm.trans h)
    dsimp only
    rw [if_neg both, if_neg moves]
    split
    · exact faulted rest rfl _ (.inl rfl)
    · exact faulted { rest with pending := .lower } rfl _ (.inr rfl)

theorem modSettings_both_station (f g : DeckSettings → DeckSettings) (e : EndId) (s : State) :
    ((s.modSettings .a f).modSettings .b g).station e = s.station e := rfl

theorem restartClosed_station (e : EndId) (r : Readings) (s : State) :
    (restartClosed r s).station e = (restartSignalled r s).station e := by
  rw [restartClosed, modSettings_both_station]

theorem restartClosed_machine (e : EndId) (r : Readings) (s : State) :
    (restartClosed r s).machine e = (s.machine e).restarted (r.ends.get e).approach :=
  (congrArg Station.machine (restartClosed_station e r s)).trans (restartSignalled_machine e)

theorem restartClosed_lines (e : EndId) (r : Readings) (s : State) :
    ((restartClosed r s).station e).lines = r.ends.get e :=
  (congrArg Station.lines (restartClosed_station e r s)).trans (restartSignalled_lines e)

theorem restartClosed_driver (e : EndId) (r : Readings) (s : State) : (restartClosed r s).driver e =
    (s.driver e).started (r.ends.get e) ((r.ends.get e).safety || (r.ends.get e).loopfault) :=
  (congrArg Station.driver (restartClosed_station e r s)).trans (restartSignalled_driver e s)

theorem restartClosed_faults (f : FaultSource) (r : Readings) (s : State) :
    EntryAgain (PresentAgain r s f) s.clock.now ((restartClosed r s).faults.get f) := by
  rw [restartClosed_frame]
  exact restartSignalled_faults f

theorem restartClosed_queue (r : Readings) (s : State) : ∃ rs, (restartClosed r s).reports.queue =
    { number := s.reports.next, time := s.clock.now, kind := .powerUp, subject := .none, lost := 0
      params := [] } :: rs := by
  obtain ⟨rs, queue⟩ := (restartSignalled_stage r s).reported
  rw [restartClosed_frame]
  exact ⟨rs, by rw [queue, restartBlocks_queue]; rfl⟩

/-- The restart's fields, one by one. -/
theorem resetAll_spec (r : Readings) (s : State) :
    let t := resetAll r s
    (∀ d, t.deck d = (restartClosed r s).deck d)
      ∧ (∀ e, (t.station e).lines = r.ends.get e
          ∧ t.machine e = ((s.machine e).restarted (r.ends.get e).approach).afterStart t.part.run
              (r.ends.get e).approach (t.isApproach e) (t.movementAt e)
          ∧ t.driver e = (s.driver e).started (r.ends.get e)
              ((r.ends.get e).safety || (r.ends.get e).loopfault))
      ∧ (∀ f, EntryAgain (PresentAgain r s f) s.clock.now (t.faults.get f))
      ∧ (t.part.run = true ↔ s.part.autostart = true ∧ ∀ d, (s.deck d).params.startable = true)
      ∧ (∃ rs, t.reports.queue = { number := s.reports.next, time := s.clock.now, kind := .powerUp
                                   subject := .none, lost := 0, params := [] } :: rs)
      ∧ t = { s with
          part := { s.part with run := t.part.run }, link := s.link.restarted, decks := t.decks, ends := t.ends
          metro := { s.metro with compareDue := true }, visits := s.visits.restarted
          accounts := s.accounts.map fun a => { a with pendingCharge := 0 }
          journal := s.journal.discard, reports := t.reports, faults := t.faults } := by
  intro t
  have closed := restartClosed_rest r s
  have machine := fun e => restartClosed_machine e r s
  have lines := fun e => restartClosed_lines e r s
  have started := fun e => restartClosed_driver e r s
  have entries := fun f => restartClosed_faults f r s
  have params := fun d => restartClosed_params (r := r) (s := s) d
  obtain ⟨rs, queue⟩ := restartClosed_queue r s
  have shape : t = autostart (restartClosed r s) := resetAll_eq r s
  clear_value t
  generalize restartClosed r s = c at *
  obtain ⟨mode, frame, driver, lines', machine', ⟨rs', reports⟩⟩ := autostart_spec (s := c)
    (by rw [closed]) (fun e => by rw [machine]; rfl) (fun e => by rw [machine]; exact restarted_fresh _ _)
    (fun e => by rw [machine]; rfl)
  rw [← shape] at mode frame driver lines' machine' reports
  have decks : t.decks = c.decks := by rw [frame]
  have faults : t.faults = c.faults := by rw [frame]
  have movement (e : EndId) : c.movementAt e = t.movementAt e := by
    unfold State.movementAt State.deck
    rw [decks]
  have approach (e : EndId) : c.isApproach e = t.isApproach e := by
    unfold State.isApproach
    rw [movement]
    unfold State.deck
    rw [decks]
  refine ⟨fun d => congrArg (·.get d) decks, fun e => ⟨?_, ?_, ?_⟩, fun f => ?_, ?_, ?_, ?_⟩
  · exact (lines' e).trans (lines e)
  · rw [machine', machine, lines, approach, movement]
  · exact (driver e).trans (started e)
  · rw [faults]
    exact entries f
  · rw [mode]
    simp only [params]
    rw [closed]
  · exact ⟨rs ++ rs', by rw [reports, queue]; rfl⟩
  · conv_lhs => rw [frame]
    rw [decks, faults]
    conv_lhs => rw [closed]

/-- What the two rows carry: a restart over the readings, with the clock it finds (log entry 21). -/
theorem exec_restart {i : Instr} (h : i = .replySent r ∧ s.link.resetAsked = true ∧ s.link.reply ≠ none
      ∨ ∃ p : PowerUp, i = .powerOn p ∧ p.lines = r) :
    ∃ k : YardClock, exec i s = .next (resetAll r { s with clock := k })
      ∧ (∀ x, i = .replySent x → k = s.clock)
      ∧ ∀ p : PowerUp, i = .powerOn p → k = (match p.clock with
          | some now => { s.clock with now := now, batteryLow := p.batteryLow }
          | none => { now := 0, valid := false, batteryLow := p.batteryLow }) := by
  rcases h with ⟨rfl, asked, busy⟩ | ⟨p, rfl, rfl⟩
  · obtain ⟨x, reply⟩ := Option.ne_none_iff_exists'.1 busy
    refine ⟨s.clock, ?_, fun _ _ => rfl, fun _ h => (by cases h)⟩
    change execReplySent r s = _
    unfold execReplySent
    rw [reply]
    exact if_pos asked
  · refine ⟨s.clock.powered p.clock p.batteryLow, rfl, fun _ h => (by cases h), fun q h => ?_⟩
    cases h
    unfold YardClock.powered
    cases p.clock <;> rfl

/-- Settles O51: both rows restart every block over the readings (`exec_restart`), and the restart's fields are
those of `resetAll_spec`. -/
theorem powerOnAndResetAll : Obligations.PowerOnAndResetAll := by
  intro s r i h
  obtain ⟨k, step, kept, powered⟩ := exec_restart h
  obtain ⟨decks, ends, faults, mode, queue, frame⟩ := resetAll_spec r { s with clock := k }
  generalize resetAll r { s with clock := k } = t at *
  have clock : t.clock = k := by rw [frame]
  refine ⟨t, step, fun d => ?_, fun e => ?_, fun f => ?_, ?_, by rw [frame], ?_, by rw [frame], ?_,
    by rw [frame], by rw [frame], by rw [frame], by rw [frame], by rw [frame], by rw [frame], ?_, ?_,
    fun x same => clock.trans (kept x same), fun p same => clock.trans (powered p same)⟩
  · rw [decks]
    exact restartClosed_unit r { s with clock := k } d
  · obtain ⟨lines, machine, driver⟩ := ends e
    refine ⟨lines, machine, ?_⟩
    intro b l occ rest down up
    have reading : (l.safety || l.loopfault) = decide occ := by
      simp only [occ]
      cases l.safety <;> cases l.loopfault <;> rfl
    change t.driver e = b.started l (l.safety || l.loopfault) at driver
    rw [reading] at driver
    obtain ⟨atDown, lowers, pulse, hold, moves, atUp, both⟩ := started_cases b l (decide occ)
    rw [driver]
    exact ⟨rfl, atDown, fun away clear => lowers away (decide_eq_false clear),
      fun mode occupied => pulse mode (decide_eq_true occupied),
      fun mode occupied => hold mode (decide_eq_true occupied),
      fun mode down up occupied => moves mode down up (decide_eq_true occupied),
      fun mode down up occupied => atUp mode down up (decide_eq_true occupied), both⟩
  · have entry := faults f
    rw [clock]
    cases f <;> exact entry
  · refine mode.trans (and_congr_right fun _ => forall_congr' fun d => ?_)
    unfold Params.startable Params.consistent
    simp only [Bool.and_eq_true, decide_eq_true_eq]
    rfl
  · rw [frame]
    rfl
  · rw [frame]
    refine congrArg (fun table => ({ s.visits with table := table } : Visits)) ?_
    refine congrArg (List.map Visit.reverted) (List.filter_congr fun v _ => ?_)
    cases v.state <;> rfl
  · rw [frame]
    rfl
  · rw [clock]
    exact queue

end Sys2Proof.Machine
end

section
/-! PROOFS. Chapter 8, the completion of an append: the state its owner learns of it in, and the owners CLOCK,
CALIB, ABANDONED and STAGE (R34, R37, R55, R133, R154, R166). -/

namespace Sys2Proof.Machine

-- One declaration after another: at once they ask for more threads than the check's limits allow.
set_option Elab.async false

variable {s t u y : State} {d : Deck} {i : Nat} {r : Record} {j : Journal}

/-! ### The state in which the owner learns of the completion (R148, R149, R154) -/

/-- A slot used in a page with room leaves the erased pages as many. -/
theorem erasedCount_setPage {p : Page} (bound : i < j.pages.length) (before : (j.page i).state ≠ .erased)
    (after : p.state ≠ .erased) : (j.setPage i p).erasedCount = j.erasedCount := by
  have here : j.pages[i] = j.page i := by
    unfold Journal.page
    rw [List.getD_eq_getElem _ _ bound]
  unfold Journal.erasedCount Journal.setPage
  rw [List.countP_set bound, here]
  simp [before, after]

/-- A completion in a page with room and with sequences left gives no level report (R157). -/
theorem written_quiet (current : s.journal.current? = some i) (room : (s.journal.page i).used.length < 255)
    (left : s.journal.nextSeq < 4294967295) : (written r i s).reports = s.reports := by
  obtain ⟨state, -, bound⟩ := firstAfter_spec s.journal current
  replace bound := bound (by decide)
  have write : s.journal.write i r = { s.journal.setPage i
      { state := .current, used := (s.journal.page i).used ++ [.written r] } with
      inProgress := none, nextSeq := s.journal.nextSeq + 1 } := by
    rw [Journal.write, useSlot_room _ room]
  have erased : (s.journal.write i r).erasedCount = s.journal.erasedCount := by
    rw [write]
    exact erasedCount_setPage bound (by rw [state]; decide) PageState.noConfusion
  have notFull : (s.journal.write i r).full = false := by
    have going : (s.journal.write i r).hasCurrent = true := by
      rw [hasCurrent_iff]
      refine ⟨i, ?_, ?_⟩
      · rw [write]
        exact bound.trans_eq (List.length_set ..).symm
      · rw [write]
        change ((s.journal.setPage i _).page i).state = .current
        rw [setPage_page _ _ _ bound]
    have unspent : (s.journal.write i r).spent = false := by
      rw [write]
      exact decide_eq_false (by change ¬ 4294967295 < s.journal.nextSeq + 1; omega)
    rw [Journal.full, going, unspent]
    rfl
  rw [written_reports, fullTold, if_neg fun h => ne_true_of_eq_false notFull h.2.1, lowTold,
    if_neg fun h => ?_]
  rw [erased] at h
  omega

/-- The state with a record written, whatever was reported. -/
def State.recorded (s : State) (ps : List Page) (n : Nat) (x : Reports) : State := { s with
  journal := { s.journal with pages := ps, newest := n, inProgress := none, nextSeq := s.journal.nextSeq + 1 }
  reports := x }

/-- The completion, as its owner learns of it (R154). -/
theorem exec_append_recorded {a : Append} (going : s.journal.inProgress = some a)
    (current : s.journal.current? = some i) : ∃ ps n x,
    exec .appendComplete s = .next (ownerDone a.request.requester
      { seq := s.journal.nextSeq, stamp := a.stamp, body := a.request.body } (s.recorded ps n x))
      ∧ ((s.journal.page i).used.length < 255 ∧ s.journal.nextSeq < 4294967295 → x = s.reports) := by
  have line := exec_append going current
  generalize ({ seq := s.journal.nextSeq, stamp := a.stamp, body := a.request.body } : Record) = r at line ⊢
  obtain ⟨x, frame⟩ := written_frame (i := i) (s := s) r
  obtain ⟨ps, n, write⟩ := write_eq (j := s.journal) (i := i) r
  refine ⟨ps, n, x, ?_, fun quiet => ?_⟩
  · rw [line, frame, write]
    rfl
  · have reports := written_quiet (r := r) current quiet.1 quiet.2
    rw [frame] at reports
    exact reports

/-! ### The clock (R128, R166) -/

theorem condEnds_congr (f : FaultSource) (faults : t.faults = s.faults) :
    (condEnds f t).faults = (condEnds f s).faults
      ∧ (t.reports = s.reports → t.clock = s.clock → (condEnds f t).reports = (condEnds f s).reports) := by
  unfold condEnds
  dsimp only
  rw [faults]
  cases (s.faults.get f).state with
  | active =>
    dsimp only
    rw [offer_faults, offer_faults]
    refine ⟨?_, fun reports clock => offer_reports_congr _ _ _ reports clock⟩
    unfold State.setFault
    rw [faults]
  | clear => exact ⟨faults, fun reports _ => reports⟩
  | latched => exact ⟨faults, fun reports _ => reports⟩

theorem condEnds_frame (f : FaultSource) (s : State) :
    ∃ x rep, condEnds f s = { s with faults := x, reports := rep } := by
  by_cases active : (s.faults.get f).state = .active
  · obtain ⟨rep, out⟩ := (condEnds_spec s f).1 active
    exact ⟨_, rep, out⟩
  · exact ⟨s.faults, s.reports, (condEnds_spec s f).2 active⟩

/-- The clock set, and its condition ended where the battery is good (R165, R166). -/
def clockTold (m : YardTime) (s : State) : State :=
  if s.clock.valid = false ∧ s.clock.batteryLow = false then
    condEnds .clock { s with clock := { s.clock with now := m, valid := true } }
  else { s with clock := { s.clock with now := m, valid := true } }

theorem changeClock_set (m : YardTime) (s : State) :
    changeClock (fun k => { k with now := m, valid := true }) s = clockTold m s := by
  unfold changeClock YardClock.faulty clockTold
  cases valid : s.clock.valid <;> cases battery : s.clock.batteryLow <;> simp [battery]

theorem clockTold_frame (m : YardTime) (s : State) : ∃ x rep, clockTold m s =
    { s with clock := { s.clock with now := m, valid := true }, faults := x, reports := rep } := by
  unfold clockTold
  split
  · exact condEnds_frame .clock { s with clock := { s.clock with now := m, valid := true } }
  · exact ⟨s.faults, s.reports, rfl⟩

theorem clockTold_congr (m : YardTime) (faults : t.faults = s.faults) (clock : t.clock = s.clock) :
    (clockTold m t).faults = (clockTold m s).faults
      ∧ (t.reports = s.reports → (clockTold m t).reports = (clockTold m s).reports) := by
  have ends := condEnds_congr (t := { t with clock := { s.clock with now := m, valid := true } })
    (s := { s with clock := { s.clock with now := m, valid := true } }) .clock faults
  unfold clockTold
  rw [clock]
  split
  · exact ⟨ends.1, fun reports => ends.2 reports rfl⟩
  · exact ⟨faults, id⟩

/-- A visit that overstays at a time, and is not yet flagged (R128). -/
@[reducible] def State.overdue (s : State) (m : Nat) (v : Visit) : Prop :=
  v.overstay = false ∧ v.opened + s.visits.overstay * 3600 ≤ m

/-- The completion of a CLOCK append (R166). -/
theorem clockDone_spec (m : YardTime) (s : State) :
    let t := clockDone m s
    t.clock = { s.clock with now := m, valid := true } ∧ t.faults = (clockTold m s).faults
      ∧ t.visits.table = (s.visits.table.map fun v =>
          if s.overdue m v then { v with overstay := true } else v)
      ∧ t.reports = ((s.visits.table.filter fun v => s.overdue m v).foldl tellOverstay (clockTold m s)).reports := by
  intro t
  have shape : t = overstayTest (clockTold m s) := congrArg overstayTest (changeClock_set m s)
  clear_value t
  subst shape
  have test := overstayTest_eq (clockTold m s) rfl rfl
  obtain ⟨x, rep, frame⟩ := clockTold_frame m s
  rw [test]
  generalize clockTold m s = k at *
  subst frame
  exact ⟨rfl, rfl, rfl, rfl⟩

/-! ### CALIB (R55) -/

theorem calibWritten_spec (s : State) :
    let t := calibWritten s
    t.metro.inProgress = s.metro.waiting ∧ t.metro.waiting = none
      ∧ t.journal.pending = s.journal.pending ++ (match s.metro.waiting with
        | some w => [{ requester := .metrology, deck := none, body := .calib w, attempt := 1 }]
        | none => []) := by
  unfold calibWritten
  cases waiting : s.metro.waiting with
  | none => exact ⟨waiting, rfl, (List.append_nil _).symm⟩
  | some w => exact ⟨waiting, rfl, rfl⟩

/-! ### ABANDONED (R133) -/

theorem abandonedDone_spec {c : Settlement} (kind : c.kind = .abandoned) (r : Record) (s : State) :
    let t := abandonedDone r c s
    t.outcomes.queue = s.outcomes.queue ++ [r] ∧ t.link.closing = none
      ∧ t.visits.table = s.visits.table.filter (fun v => v.number ≠ c.visit)
      ∧ t.accounts = s.accounts ∧ t.tares = s.tares ∧ t.decks = s.decks
      ∧ t.reports = (offer .settled .none (settledParams r.seq c) s).reports := by
  intro t
  have shape : t = offer .settled .none (settledParams r.seq c)
      ((placeOutcome r (s.modLink fun l => { l with closing := none })).removeVisit c.visit) := by
    change abandonedDone r c s = _
    unfold abandonedDone settleVisit
    rw [kind]
  have reports : t.reports = (offer .settled .none (settledParams r.seq c) s).reports := by
    rw [shape]
    exact offer_reports_congr _ _ _ rfl rfl
  clear_value t
  obtain ⟨rep, frame⟩ := offer_frame
    ((placeOutcome r (s.modLink fun l => { l with closing := none })).removeVisit c.visit) .settled .none
    (settledParams r.seq c)
  refine ⟨?_, ?_, ?_, ?_, ?_, ?_, reports⟩ <;> rw [shape, frame]
  case refine_3 =>
    refine List.filter_congr fun v _ => ?_
    rw [bne, Bool.beq_eq_decide_eq, decide_not]
  all_goals rfl

/-! ### STAGE (R34, R37, R39, R40, R43) -/

/-- The sequence goes into the last entry of a stage list that is not empty (R34). -/
theorem stampLast_append (q : Nat) (init : List StageEntry) (en : StageEntry) :
    stampLast q (init ++ [en]) = init ++ [{ en with seq := some q }] := by
  induction init with
  | nil => rfl
  | cons x init ih =>
    obtain ⟨z, zs, rest⟩ := List.exists_cons_of_ne_nil (List.append_ne_nil_of_right_ne_nil init (List.cons_ne_nil en []))
    rw [rest] at ih
    rw [List.cons_append, List.cons_append, rest, ← ih]
    rfl

/-- What the completion of an orphaned append leaves (R39, R40). -/
def Orphaned (s t : State) (d : Deck) : Prop :=
  (t.deck d).capture = (s.deck d).capture.orphanDone ∧ (t.deck d).seq = (s.deck d).seq ∧ t.visits = s.visits
    ∧ t.journal.pending = s.journal.pending

theorem orphanDone_orphaned (k : ReportKind) (x : Subject) (ps : List String) (s : State) (d : Deck) :
    Orphaned s ((offer k x ps s).modCapture d Capture.orphanDone) d := by
  obtain ⟨rep, out⟩ := offer_frame s k x ps
  rw [out]
  refine ⟨?_, ?_, rfl, rfl⟩ <;> rw [State.modCapture_deck] <;> rfl

theorem stageDone_orphaned {q k n : Nat} {v : Int} (orphan : (s.deck d).capture.orphan = true) :
    stageDone d q v k n s = (stageReport d q v k n s).modCapture d Capture.orphanDone := if_pos orphan

/-- The deck's capture after a STAGE append that is one of several (R34). -/
def Capture.nextStage (c : Capture) (q : Nat) : Capture :=
  { c with stages := stampLast q c.stages, stage := c.stage + 1, state := .waiting, blocking := some .next }

theorem stageDone_next {q k n : Nat} {v : Int} (orphan : (s.deck d).capture.orphan = false)
    (state : (s.deck d).capture.state = .stageWrite) :
    stageDone d q v k n s = (stageReport d q v k n s).modCapture d fun c => c.nextStage q := by
  unfold stageDone
  dsimp only
  rw [if_neg (ne_true_of_eq_false orphan), state]
  dsimp only
  rw [State.modCapture, State.modCapture, State.modDeck_modDeck]
  rfl

/-- The last STAGE append requests the WEIGH record (R37). -/
theorem stageDone_last {q k n : Nat} {v : Int} {rq : CaptureRequest} (orphan : (s.deck d).capture.orphan = false)
    (state : (s.deck d).capture.state = .weighWrite) (request : (s.deck d).capture.request = some rq) :
    stageDone d q v k n s = journalRequest (.capture d) (some d)
      (.weigh (s.deck d).capture.weighValue rq.role rq.tag rq.visit
        ((stampLast q (s.deck d).capture.stages).filterMap (·.seq)))
      ((stageReport d q v k n s).modCapture d fun c => { c with stages := stampLast q c.stages }) := by
  unfold stageDone
  dsimp only
  rw [if_neg (ne_true_of_eq_false orphan), state, request]

theorem stageDone_reports (q k n : Nat) (v : Int) (s : State) :
    (stageDone d q v k n s).reports = (stageReport d q v k n s).reports := by
  unfold stageDone
  dsimp only
  split
  · rfl
  · split <;> rfl

end Sys2Proof.Machine
end

section
/-! PROOFS. Chapter 8, the completion of a deck's SETTLE append: the account, the tare table, the visit, the
outcome, the ticket, and the sequencer (R116, R117, R123, R146, R173). -/

namespace Sys2Proof.Machine

-- One declaration after another: at once they ask for more threads than the check's limits allow.
set_option Elab.async false

variable {s t u y : State} {d : Deck} {r : Record} {c : Settlement} {e : EndId}

/-! ### The account (R146) -/

/-- The accounts after a settlement's debit (R146). -/
def State.debited (s : State) (c : Settlement) : List Account :=
  s.accounts.map fun x => if x.number = c.account then
    { x with
      balance := max (-999999999) (x.balance - c.charge)
      pendingCharge := x.pendingCharge - c.charge
      status := if c.flags.limit = true ∧ x.status = .open then .stoppedLimit else x.status }
  else x

/-- ACCOUNT_STOPPED, where an OPEN account's record carries LIMIT (R146). -/
def accountTold (c : Settlement) (s : State) : State :=
  match s.account? c.account with
  | some x =>
    if c.flags.limit = true ∧ x.status = .open then
      offer .accountStopped .none [toString c.account,
        toString (max (-999999999) (x.balance - c.charge)), toString x.limit] s
    else s
  | none => s

theorem debited_absent (absent : s.account? c.account = none) : s.debited c = s.accounts := by
  refine (List.map_congr_left fun x mem => if_neg fun same => ?_).trans (List.map_id _)
  have differs := List.find?_eq_none.1 absent x mem
  rw [same] at differs
  simp at differs

theorem modAccount_debit (c : Settlement) (s : State) :
    (s.modAccount c.account fun x => x.debit c) = { s with accounts := s.debited c } := by
  unfold State.modAccount State.debited
  simp only [beq_iff_eq]
  rfl

theorem debitAccount_frame (c : Settlement) (s : State) :
    ∃ rep, debitAccount c s = { s with accounts := s.debited c, reports := rep } := by
  unfold debitAccount
  cases found : s.account? c.account with
  | none => exact ⟨s.reports, by rw [debited_absent found]⟩
  | some x =>
    dsimp only
    rw [modAccount_debit]
    split
    · exact offer_frame { s with accounts := s.debited c } _ _ _
    · exact ⟨s.reports, rfl⟩

theorem debitAccount_reports (reports : t.reports = s.reports) (clock : t.clock = s.clock)
    (accounts : t.accounts = s.accounts) : (debitAccount c t).reports = (accountTold c s).reports := by
  have look : t.account? c.account = s.account? c.account := by
    unfold State.account?
    rw [accounts]
  unfold debitAccount accountTold
  rw [look]
  cases found : s.account? c.account with
  | none => exact reports
  | some x =>
    have number : x.number = c.account := by simpa using List.find?_some found
    dsimp only
    by_cases stops : c.flags.limit = true ∧ x.status = .open
    · rw [if_pos stops, if_pos stops, number]
      exact offer_reports_congr _ _ _ reports clock
    · rw [if_neg stops, if_neg stops]
      exact reports

theorem accountTold_frame (c : Settlement) (s : State) : ∃ rep, accountTold c s = { s with reports := rep } := by
  unfold accountTold
  split
  · split
    · exact offer_frame s _ _ _
    · exact ⟨s.reports, rfl⟩
  · exact ⟨s.reports, rfl⟩

/-! ### The tare table (R130, R146) -/

theorem updateTare_frame (c : Settlement) (s : State) :
    ∃ x rep, updateTare c s = { s with tares := x, reports := rep } := by
  unfold updateTare storeTare
  cases c.tareUpdate with
  | none => exact ⟨s.tares, s.reports, rfl⟩
  | some u =>
    dsimp only
    split
    · exact ⟨_, s.reports, rfl⟩
    · obtain ⟨rep, out⟩ := offer_frame { s with tares := _ } _ _ _
      exact ⟨_, rep, out⟩

theorem updateTare_congr (c : Settlement) (tares : t.tares = s.tares) (clock : t.clock = s.clock) :
    (updateTare c t).tares = (updateTare c s).tares
      ∧ (t.reports = s.reports → (updateTare c t).reports = (updateTare c s).reports) := by
  have own : t.tareOf? c.tag = s.tareOf? c.tag := by
    unfold State.tareOf?
    rw [tares]
  unfold updateTare storeTare
  cases c.tareUpdate with
  | none => exact ⟨tares, id⟩
  | some u =>
    dsimp only
    rw [own, tares, clock]
    cases (s.tares.place ((s.tareOf? c.tag).map (·.1))).2 with
    | none => exact ⟨rfl, id⟩
    | some old =>
      dsimp only
      exact ⟨by rw [offer_tares, offer_tares], fun reports => offer_reports_congr _ _ _ reports rfl⟩

/-- Where a settlement's tare update goes (R130). -/
theorem updateTare_places {kg n : Nat} (update : c.tareUpdate = some (kg, n)) :
    let put (k : Nat) : Tares := { s.tares with
      table := s.tares.table.set k (some ⟨c.tag, kg, s.clock.now, .weighed, n⟩) }
    (∀ k en, s.tareOf? c.tag = some (k, en) → (updateTare c s).tares = put k)
      ∧ (s.tareOf? c.tag = none →
          (∀ k, s.tares.table.findIdx? (·.isNone) = some k → (updateTare c s).tares = put k)
          ∧ (s.tares.table ≠ [] → (∀ x ∈ s.tares.table, x ≠ none) →
              ∃ k old, s.tares.table[k]? = some (some old)
                ∧ (∀ (m : Nat) en, s.tares.table[m]? = some (some en) →
                    old.stored < en.stored ∨ (old.stored = en.stored ∧ k ≤ m))
                ∧ (updateTare c s).tares = put k)) := by
  have stored : updateTare c s = (storeTare c.tag kg .weighed n s).2.2 := by
    unfold updateTare
    rw [update]
  rw [stored]
  refine ⟨fun k en own => ?_, fun absent => ⟨fun k free => ?_, fun some_ full => ?_⟩⟩
  · rw [storeTare_own own]
    rfl
  · rw [storeTare_free absent free]
    rfl
  · obtain ⟨k, old, oldest, here, least⟩ := oldestTare_spec some_ full
    refine ⟨k, old, here, least, ?_⟩
    rw [storeTare_replaces absent full oldest, offer_tares]
    rfl

/-! ### The visit (R116, R126) -/

/-- The visit table after a settlement (R116, R126). -/
def State.settledVisits (s : State) (c : Settlement) : Visits := { s.visits with
  table := if c.kind = .onePass then s.visits.table.map fun v =>
      if v.number = c.visit then { v with state := .settled, holder := .none } else v
    else s.visits.table.filter fun v => v.number ≠ c.visit }

theorem settleVisit_eq (c : Settlement) (s : State) :
    settleVisit c s = { s with visits := s.settledVisits c } := by
  have removed : s.removeVisit c.visit = { s with visits := { s.visits with
      table := s.visits.table.filter fun v => v.number ≠ c.visit } } := by
    unfold State.removeVisit State.modVisits
    refine congrArg (fun table => ({ s with visits := { s.visits with table := table } } : State))
      (List.filter_congr fun v _ => ?_)
    rw [bne, Bool.beq_eq_decide_eq, decide_not]
  unfold settleVisit State.settledVisits
  cases kind : c.kind with
  | onePass =>
    rw [if_pos rfl]
    unfold State.modVisit State.modVisits
    simp only [beq_iff_eq]
  | twoPass => rw [if_neg (by decide)]; exact removed
  | abandoned => rw [if_neg (by decide)]; exact removed

/-! ### The ticket (R173) -/

/-- The printer with a settlement's job, where its queue has room (R173). -/
def Printer.given (p : Printer) (j : Job) : Printer :=
  if p.queue.length < 4 then { p with queue := p.queue ++ [j] } else p

/-- The progress the sequencer is told (R173). -/
def Printer.progress (p : Printer) : TicketProgress := if p.queue.length < 4 then .queued else .missing

theorem settlementJob_progress (d : Deck) (j : Job) (s : State) :
    (settlementJob d j s).1 = (s.deck d).printer.progress := by
  unfold settlementJob Printer.progress
  simp only [room_iff]
  split <;> rfl

theorem settlementJob_frame (d : Deck) (j : Job) (s : State) : ∃ rep, (settlementJob d j s).2 =
    { s with decks := s.decks.set d { s.deck d with printer := (s.deck d).printer.given j }, reports := rep } := by
  unfold settlementJob Printer.given
  simp only [room_iff]
  split
  · exact ⟨s.reports, rfl⟩
  · obtain ⟨rep, out⟩ := offer_frame s .noTicket (.deck d) [nat j.seq, nat j.values.visit]
    refine ⟨rep, out.trans ?_⟩
    rw [show ({ s.deck d with printer := (s.deck d).printer } : DeckUnit) = s.decks.get d from rfl,
      PerDeck.set_get]

theorem settlementJob_reports (d : Deck) (j : Job) (s : State) : (settlementJob d j s).2.reports =
    (if (s.deck d).printer.queue.length < 4 then s
    else offer .noTicket (.deck d) [toString j.seq, toString j.values.visit] s).reports := by
  unfold settlementJob
  simp only [room_iff]
  split <;> rfl

/-! ### The settlement written (R116, R123) -/

/-- The sequencer's place given up, or the orphaned one (R116, R123). -/
def Sequencer.placed (q : Sequencer) : Sequencer :=
  if q.orphanSettle then { q with orphanSettle := false } else { q with reservation := false }

/-- The outcome placed, the account debited, the tare stored, the visit settled and SETTLED reported. -/
def settleTables (d : Deck) (r : Record) (c : Settlement) (s : State) : State :=
  offer .settled (.deck d) (settledParams r.seq c)
    (settleVisit c (updateTare c (debitAccount c (placeOutcome r (s.modSeq d Sequencer.placed)))))

/-- The job of a settlement (R173). -/
def State.ticketOf (s : State) (r : Record) (c : Settlement) : Job :=
  { seq := r.seq, layout := (s.cls c.cls).layout, copy := false, stamp := r.stamp, values := c }

/-- The settlement with its ticket, before the sequencer goes on. -/
def settleBase (d : Deck) (r : Record) (c : Settlement) (s : State) : State :=
  (settlementJob d (s.ticketOf r c) (settleTables d r c s)).2

theorem settleTables_frame (d : Deck) (r : Record) (c : Settlement) (s : State) : ∃ rep,
    settleTables d r c s = { s with
      decks := s.decks.set d { s.deck d with seq := (s.deck d).seq.placed }
      outcomes := { s.outcomes with queue := s.outcomes.queue ++ [r] }
      accounts := s.debited c, tares := (updateTare c s).tares, visits := s.settledVisits c, reports := rep } := by
  unfold settleTables
  obtain ⟨rep1, debit⟩ := debitAccount_frame c (placeOutcome r (s.modSeq d Sequencer.placed))
  obtain ⟨x, rep2, tare⟩ := updateTare_frame c (debitAccount c (placeOutcome r (s.modSeq d Sequencer.placed)))
  have same := (updateTare_congr c (t := debitAccount c (placeOutcome r (s.modSeq d Sequencer.placed))) (s := s)
    (by rw [debit]; rfl) (by rw [debit]; rfl)).1
  rw [tare] at same
  obtain ⟨rep, out⟩ := offer_frame
    (settleVisit c (updateTare c (debitAccount c (placeOutcome r (s.modSeq d Sequencer.placed)))))
    .settled (.deck d) (settledParams r.seq c)
  refine ⟨rep, ?_⟩
  rw [out, settleVisit_eq, tare, debit, ← same]
  rfl

theorem settleBase_frame (d : Deck) (r : Record) (c : Settlement) (s : State) : ∃ rep,
    settleBase d r c s = { s with
      decks := s.decks.set d { s.deck d with
        seq := (s.deck d).seq.placed, printer := (s.deck d).printer.given (s.ticketOf r c) }
      outcomes := { s.outcomes with queue := s.outcomes.queue ++ [r] }
      accounts := s.debited c, tares := (updateTare c s).tares, visits := s.settledVisits c, reports := rep } := by
  obtain ⟨rep, tables⟩ := settleTables_frame d r c s
  obtain ⟨rep', job⟩ := settlementJob_frame d (s.ticketOf r c) (settleTables d r c s)
  refine ⟨rep', job.trans ?_⟩
  have deck : (settleTables d r c s).deck d = { s.deck d with seq := (s.deck d).seq.placed } := by
    rw [tables]
    exact PerDeck.get_set _ _ _
  rw [deck, tables]
  simp only [PerDeck.set_set]

/-- The reports of a settlement, told from a state of the same tables and reports. -/
def settlementTold (d : Deck) (r : Record) (c : Settlement) (s : State) : State :=
  let s3 := offer .settled (.deck d) (settledParams r.seq c) (updateTare c (accountTold c s))
  if (s.deck d).printer.queue.length < 4 then s3
  else offer .noTicket (.deck d) [toString r.seq, toString c.visit] s3

theorem settleBase_reports (reports : t.reports = s.reports) (clock : t.clock = s.clock)
    (accounts : t.accounts = s.accounts) (tares : t.tares = s.tares) (decks : t.decks = s.decks) :
    (settleBase d r c t).reports = (settlementTold d r c s).reports := by
  let w := debitAccount c (placeOutcome r (t.modSeq d Sequencer.placed))
  obtain ⟨rep1, debit⟩ := debitAccount_frame c (placeOutcome r (t.modSeq d Sequencer.placed))
  obtain ⟨rep2, told⟩ := accountTold_frame c s
  have stops : w.reports = (accountTold c s).reports := debitAccount_reports reports clock accounts
  have tareReports : (updateTare c w).reports = (updateTare c (accountTold c s)).reports :=
    (updateTare_congr c (by rw [show w = _ from debit, told]; exact tares)
      (by rw [show w = _ from debit, told]; exact clock)).2 stops
  obtain ⟨x, rep3, tare⟩ := updateTare_frame c w
  obtain ⟨x', rep4, tare'⟩ := updateTare_frame c (accountTold c s)
  have settled : (settleTables d r c t).reports
      = (offer .settled (.deck d) (settledParams r.seq c) (updateTare c (accountTold c s))).reports := by
    refine offer_reports_congr _ _ _ ?_ ?_
    · rw [settleVisit_eq]
      exact tareReports
    · rw [settleVisit_eq]
      change (updateTare c w).clock = _
      rw [tare, tare', show w = _ from debit, told]
      exact clock
  obtain ⟨rep5, tables⟩ := settleTables_frame d r c t
  obtain ⟨rep6, offered⟩ := offer_frame (updateTare c (accountTold c s)) .settled (.deck d) (settledParams r.seq c)
  have printer : ((settleTables d r c t).deck d).printer = (s.deck d).printer := by
    rw [tables, State.deck, PerDeck.get_set, State.deck, State.deck, decks]
  have clocks : (settleTables d r c t).clock
      = (offer .settled (.deck d) (settledParams r.seq c) (updateTare c (accountTold c s))).clock := by
    rw [offered, tare', told, tables]
    exact clock
  unfold settleBase settlementTold
  rw [settlementJob_reports, printer]
  split
  · exact settled
  · exact offer_reports_congr _ _ _ settled clocks

/-! ### The sequencer (R116, R117, R123) -/

/-- The settlement and what the sequencer then does (R116, R123). -/
theorem settleDone_eq (d : Deck) (r : Record) (c : Settlement) (s : State) : settleDone d r c s =
    if (s.deck d).seq.orphanSettle then settleBase d r c s
    else enterTicketing d ((settleBase d r c s).modSeq d fun q =>
      { q with ticket := some { seq := r.seq, progress := (s.deck d).printer.progress } }) := by
  have placed : (s.modSeq d fun q => if (s.deck d).seq.orphanSettle then { q with orphanSettle := false }
      else { q with reservation := false }) = s.modSeq d Sequencer.placed := State.modSeq_congr rfl
  obtain ⟨rep, tables⟩ := settleTables_frame d r c s
  have job : (settleTables d r c s).jobOf r.seq false r.stamp c = s.ticketOf r c := by
    rw [tables]
    rfl
  have progress : (settlementJob d (s.ticketOf r c) (settleTables d r c s)).1 = (s.deck d).printer.progress := by
    rw [settlementJob_progress, tables, State.deck, PerDeck.get_set]
  unfold settleDone
  dsimp only
  rw [placed]
  change (if (s.deck d).seq.orphanSettle = true then
      (settlementJob d ((settleTables d r c s).jobOf r.seq false r.stamp c) (settleTables d r c s)).2
    else enterTicketing d ((settlementJob d ((settleTables d r c s).jobOf r.seq false r.stamp c)
      (settleTables d r c s)).2.modSeq d fun q => { q with ticket := some { seq := r.seq, progress :=
        (settlementJob d ((settleTables d r c s).jobOf r.seq false r.stamp c) (settleTables d r c s)).1 } })) = _
  rw [job, progress]
  rfl

theorem reported_testRelease (d : Deck) (s : State) : Reported s (testRelease d s) :=
  (aside_testRelease d s).reports

/-- Entering TICKETING, over a known approach end and a ticket just queued or missing (R117). -/
theorem enterTicketing_spec {k : Ticket} {missing : Prop} [Decidable missing]
    (approach : (s.deck d).seq.approach = some e) (ticket : (s.deck d).seq.ticket = some k)
    (progress : k.progress = if missing then .missing else .queued) :
    let t := enterTicketing d s
    (t.deck d).seq.reservation = (s.deck d).seq.reservation ∧ (t.deck d).seq.ticket = some k
      ∧ (t.deck d).seq.state = (if (s.deck d).settings.release = .atSettle ∨ missing then .departing
          else .ticketing)
      ∧ ((t.deck d).seq.state = .departing → (t.deck d).seq.passage = some e.other) := by
  intro t
  let w := s.modSeq d fun q => { q with state := .ticketing, release := (s.deck d).settings.release }
  have unit : w.deck d = { s.deck d with seq := { (s.deck d).seq with
      state := .ticketing, release := (s.deck d).settings.release } } := State.modSeq_deck s d _
  have shape : t = testRelease d w := rfl
  have released : (w.deck d).seq.released
      = decide ((s.deck d).settings.release = .atSettle ∨ missing) := by
    rw [unit]
    unfold Sequencer.released
    dsimp only
    rw [ticket, Option.map_some, progress]
    cases (s.deck d).settings.release <;> by_cases h : missing <;> simp [h]
  clear_value t
  subst shape
  by_cases leaves : (s.deck d).settings.release = .atSettle ∨ missing
  · rw [testRelease_leaves (by rw [unit]) (released.trans (decide_eq_true leaves)) (by rw [unit]; exact approach),
      enterPassage_deck, unit, if_pos leaves]
    exact ⟨rfl, ticket, rfl, fun _ => rfl⟩
  · rw [testRelease_stays (released.trans (decide_eq_false leaves)), unit, if_neg leaves]
    exact ⟨rfl, ticket, rfl, fun h => SeqState.noConfusion h⟩

theorem enterTicketing_printer (d : Deck) (s : State) :
    ((enterTicketing d s).deck d).printer = (s.deck d).printer := by
  have leaves (w : State) : ((enterDeparting d w).deck d).printer = (w.deck d).printer := by
    unfold enterDeparting
    split
    · rw [enterPassage_deck]
    · rfl
  have tested (w : State) : ((testRelease d w).deck d).printer = (w.deck d).printer := by
    unfold testRelease
    split
    · exact leaves w
    · rfl
  refine (tested _).trans ?_
  rw [State.modSeq_deck]

end Sys2Proof.Machine
end

section
/-! PROOFS. Chapter 8, the completions of WEIGH and SETTLE appends, and all owners together (R34 to R37, R114,
R116, R142, R154). -/

namespace Sys2Proof.Machine

-- One declaration after another: at once they ask for more threads than the check's limits allow.
set_option Elab.async false

variable {s t u y : State} {d : Deck} {r : Record} {c : Settlement} {e : EndId}

/-! ### SETTLE (R116, R117, R123, R173) -/

/-- The tables after a deck's settlement, whatever its sequencer then does (R116). -/
theorem settleDone_tables (d : Deck) (r : Record) (c : Settlement) (s : State) : ∃ k en f rep,
    settleDone d r c s = { s with
      decks := k, ends := en, faults := f, reports := rep
      outcomes := { s.outcomes with queue := s.outcomes.queue ++ [r] }
      accounts := s.debited c, tares := (updateTare c s).tares, visits := s.settledVisits c } := by
  obtain ⟨rep, base⟩ := settleBase_frame d r c s
  rw [settleDone_eq, base]
  split
  · exact ⟨_, s.ends, s.faults, rep, rfl⟩
  · obtain ⟨u, en, f, rep', out⟩ := enterTicketing_frame (({ s with
      decks := s.decks.set d { s.deck d with
        seq := (s.deck d).seq.placed, printer := (s.deck d).printer.given (s.ticketOf r c) }
      outcomes := { s.outcomes with queue := s.outcomes.queue ++ [r] }
      accounts := s.debited c, tares := (updateTare c s).tares
      visits := s.settledVisits c, reports := rep } : State).modSeq d fun q =>
      { q with ticket := some { seq := r.seq, progress := (s.deck d).printer.progress } }) d
    exact ⟨_, en, f, rep', out⟩

theorem settleDone_orphan (orphan : (s.deck d).seq.orphanSettle = true) :
    settleDone d r c s = settleBase d r c s := by
  rw [settleDone_eq, if_pos orphan]

theorem settleDone_reported (d : Deck) (r : Record) (c : Settlement) (s : State) :
    Reported (settleBase d r c s) (settleDone d r c s) := by
  rw [settleDone_eq]
  split
  · exact .of_eq rfl
  · exact (Reported.of_eq rfl).trans (reported_testRelease d _)

theorem settleBase_deck (d : Deck) (r : Record) (c : Settlement) (s : State) : (settleBase d r c s).deck d =
    { s.deck d with
      seq := (s.deck d).seq.placed, printer := (s.deck d).printer.given (s.ticketOf r c) } := by
  obtain ⟨rep, base⟩ := settleBase_frame d r c s
  rw [base]
  exact PerDeck.get_set _ _ _

theorem settleDone_printer (d : Deck) (r : Record) (c : Settlement) (s : State) :
    ((settleDone d r c s).deck d).printer = (s.deck d).printer.given (s.ticketOf r c) := by
  rw [settleDone_eq]
  split
  · rw [settleBase_deck]
  · rw [enterTicketing_printer, State.modSeq_deck, settleBase_deck]

/-- The sequencer at its own settlement (R116, R117). -/
theorem settleDone_sequencer (own : (s.deck d).seq.orphanSettle = false)
    (approach : (s.deck d).seq.approach = some e) :
    let t := settleDone d r c s
    (t.deck d).seq.reservation = false
      ∧ (t.deck d).seq.ticket = some ⟨r.seq, if (s.deck d).printer.queue.length < 4 then .queued else .missing⟩
      ∧ (t.deck d).seq.state = (if (s.deck d).settings.release = .atSettle
          ∨ 4 ≤ (s.deck d).printer.queue.length then .departing else .ticketing)
      ∧ ((t.deck d).seq.state = .departing → (t.deck d).seq.passage = some e.other) := by
  have placed : (s.deck d).seq.placed = { (s.deck d).seq with reservation := false } :=
    if_neg (ne_true_of_eq_false own)
  have unit : ((settleBase d r c s).modSeq d fun q =>
      { q with ticket := some { seq := r.seq, progress := (s.deck d).printer.progress } }).deck d =
      { s.deck d with
        seq := { (s.deck d).seq with
          reservation := false, ticket := some ⟨r.seq, (s.deck d).printer.progress⟩ }
        printer := (s.deck d).printer.given (s.ticketOf r c) } := by
    rw [State.modSeq_deck, settleBase_deck, placed]
  intro t
  have shape : t = enterTicketing d ((settleBase d r c s).modSeq d fun q =>
      { q with ticket := some { seq := r.seq, progress := (s.deck d).printer.progress } }) :=
    (settleDone_eq d r c s).trans (if_neg (ne_true_of_eq_false own))
  clear_value t
  subst shape
  have progress : (s.deck d).printer.progress
      = if 4 ≤ (s.deck d).printer.queue.length then .missing else .queued := by
    unfold Printer.progress
    split
    · rw [if_neg (by omega)]
    · rw [if_pos (by omega)]
  obtain ⟨reservation, ticket, state, passage⟩ := enterTicketing_spec
    (s := (settleBase d r c s).modSeq d fun q =>
      { q with ticket := some { seq := r.seq, progress := (s.deck d).printer.progress } })
    (k := ⟨r.seq, (s.deck d).printer.progress⟩) (by rw [unit]; exact approach) (by rw [unit]) progress
  rw [unit] at reservation state
  exact ⟨reservation, ticket, state, passage⟩

/-! ### WEIGH (R37, R114, R142) -/

/-- What entering DEPARTING leaves, over a known approach end (R110, R114). -/
theorem enterDeparting_spec (approach : (s.deck d).seq.approach = some e) :
    let t := enterDeparting d s
    (t.deck d).capture = (s.deck d).capture ∧ (t.deck d).seq.weighing = (s.deck d).seq.weighing
      ∧ (t.deck d).seq.state = .departing ∧ (t.deck d).seq.passage = some e.other ∧ t.visits = s.visits
      ∧ t.journal = s.journal := by
  dsimp only
  rw [enterDeparting_eq _ _ _ approach, enterPassage_deck, enterPassage_visits, enterPassage_journal]
  exact ⟨rfl, rfl, rfl, rfl, rfl, rfl⟩

/-- The visit table with one visit changed. -/
theorem modVisit_visits (n : Nat) (f : Visit → Visit) (s : State) : (s.modVisit n f).visits =
    { s.visits with table := s.visits.table.map fun x => if x.number = n then f x else x } := by
  unfold State.modVisit State.modVisits
  simp only [beq_iff_eq]

section HandOver
variable {w : Committed} (committing : (s.deck d).seq.state = .committing)
include committing

theorem handOver_first (role : (s.deck d).seq.role = some .first) : handOver d w s =
    enterDeparting d ((s.modSeq d fun q => { q with weighing := some w }).modVisit
      (s.deck d).seq.visit fun v => v.commit w) := by
  unfold handOver commitFirst
  dsimp only
  rw [if_pos committing, role, State.modSeq_deck]

theorem handOver_second (role : (s.deck d).seq.role = some .second) : handOver d w s =
    (s.modSeq d fun q => { q with weighing := some w }).modSeq d fun q => { q with state := .settling } := by
  unfold handOver
  dsimp only
  rw [if_pos committing, role]

/-- A ONE_PASS transaction settles, or its visit is converted and the vehicle leaves (R114, R142). -/
theorem handOver_onePass (role : (s.deck d).seq.role = some .onePass) : handOver d w s =
    if ((s.visit? (s.deck d).seq.visit).bind (·.tare)).any fun u =>
        onePassHolds w.value u.value (s.deck d).params.interval then
      (s.modSeq d fun q => { q with weighing := some w }).modSeq d fun q => { q with state := .settling }
    else enterDeparting d ((s.modSeq d fun q => { q with weighing := some w }).modVisit
      (s.deck d).seq.visit fun v => v.convert w) := by
  unfold handOver convertOnePass
  dsimp only
  rw [if_pos committing, role, State.modSeq_deck]
  dsimp only
  cases (s.visit? (s.deck d).seq.visit).bind (·.tare) with
  | none => rfl
  | some u => rfl

end HandOver

/-- The vehicle leaves with its committed weighing written to its visit (R114). -/
theorem handOver_leaves {w : Committed} (approach : (s.deck d).seq.approach = some e) (f : Visit → Visit) :
    let t := enterDeparting d ((s.modSeq d fun q => { q with weighing := some w }).modVisit
      (s.deck d).seq.visit f)
    (t.deck d).capture = (s.deck d).capture ∧ (t.deck d).seq.weighing = some w
      ∧ (t.deck d).seq.state = .departing ∧ (t.deck d).seq.passage = some e.other
      ∧ t.visits = { s.visits with
          table := s.visits.table.map fun x => if x.number = (s.deck d).seq.visit then f x else x }
      ∧ t.journal = s.journal := by
  have unit : ((s.modSeq d fun q => { q with weighing := some w }).modVisit (s.deck d).seq.visit f).deck d
      = { s.deck d with seq := { (s.deck d).seq with weighing := some w } } := by
    change (s.modSeq d fun q => { q with weighing := some w }).deck d = _
    exact State.modSeq_deck s d _
  obtain ⟨capture, weighing, state, passage, visits, journal⟩ := enterDeparting_spec
    (s := (s.modSeq d fun q => { q with weighing := some w }).modVisit (s.deck d).seq.visit f)
    (d := d) (e := e) (by rw [unit]; exact approach)
  rw [unit] at capture weighing
  rw [modVisit_visits] at visits
  exact ⟨capture, weighing, state, passage, visits, journal⟩

/-- The vehicle stays to be settled, with its committed weighing (R114). -/
theorem handOver_settles (w : Committed) (d : Deck) (s : State) :
    let t := (s.modSeq d fun q => { q with weighing := some w }).modSeq d fun q => { q with state := .settling }
    (t.deck d).capture = (s.deck d).capture ∧ (t.deck d).seq.weighing = some w
      ∧ (t.deck d).seq.state = .settling ∧ t.visits = s.visits ∧ t.journal = s.journal := by
  dsimp only
  rw [State.modSeq_deck, State.modSeq_deck]
  exact ⟨rfl, rfl, rfl, rfl, rfl⟩

/-- The state in which a committed weighing is handed over (R37). -/
def captured (d : Deck) (q : Nat) (v : Int) (ro : Role) (n : Nat) (staged : Bool) (s : State) : State :=
  (offer .captured (.deck d) [roleWord ro, toString v, toString q, toString n, yn staged] s).modCapture d
    fun c => c.toIdle false

theorem captured_frame (d : Deck) (q : Nat) (v : Int) (ro : Role) (n : Nat) (staged : Bool) (s : State) :
    ∃ rep, captured d q v ro n staged s = { s with
      decks := s.decks.set d { s.deck d with capture := (s.deck d).capture.toIdle false }, reports := rep } := by
  obtain ⟨rep, out⟩ := offer_frame s .captured (.deck d)
    [roleWord ro, toString v, toString q, toString n, yn staged]
  refine ⟨rep, ?_⟩
  unfold captured
  rw [out]
  rfl

theorem weighDone_handed {q count n : Nat} {v : Int} {ro : Role} {staged : Bool}
    (orphan : (s.deck d).capture.orphan = false) (state : (s.deck d).capture.state = .weighWrite) :
    weighDone d q count v ro n staged s = handOver d ⟨v, q, d, count, staged⟩ (captured d q v ro n staged s) :=
  (if_neg (ne_true_of_eq_false orphan)).trans (if_pos state)

theorem weighDone_orphaned {q count n : Nat} {v : Int} {ro : Role} {staged : Bool}
    (orphan : (s.deck d).capture.orphan = true) : weighDone d q count v ro n staged s =
      (offer .captured (.deck d) [roleWord ro, toString v, toString q, toString n, yn staged] s).modCapture d
        Capture.orphanDone := if_pos orphan

theorem weighDone_reported (q count n : Nat) (v : Int) (ro : Role) (staged : Bool) (s : State) :
    Reported (offer .captured (.deck d) [roleWord ro, toString v, toString q, toString n, yn staged] s)
      (weighDone d q count v ro n staged s) := by
  cases orphan : (s.deck d).capture.orphan with
  | true =>
    rw [weighDone_orphaned orphan]
    exact .of_eq rfl
  | false =>
    by_cases state : (s.deck d).capture.state = .weighWrite
    · rw [weighDone_handed orphan state]
      exact (Reported.of_eq rfl).trans (aside_handOver _ _).reports
    · rw [show weighDone d q count v ro n staged s = _ from
        (if_neg (ne_true_of_eq_false orphan)).trans (if_neg state)]
      exact .of_eq rfl

end Sys2Proof.Machine
end

section
/-! PROOFS. Chapter 8: the completion of an append reaches the owner of each record kind (R34 to R37, R55, R114
to R117, R133, R142, R146, R154, R166). -/

namespace Sys2Proof.Machine

-- One declaration after another: at once they ask for more threads than the check's limits allow.
set_option Elab.async false

variable {s t u y : State} {d : Deck} {r : Record} {c : Settlement} {e : EndId}

/-! ### One owner for each kind of record (R154) -/

section Owner
variable {rq : Requester}

theorem ownerDone_clock {m : YardTime} (owner : rq = .clock) (body : r.body = .clock m) :
    ownerDone rq r y = clockDone m y := by
  subst owner
  unfold ownerDone
  rw [body]

theorem ownerDone_calib {b : CalibBody} (owner : rq = .metrology) (body : r.body = .calib b) :
    ownerDone rq r y = calibWritten y := by
  subst owner
  unfold ownerDone
  rw [body]

theorem ownerDone_abandoned (owner : rq = .link) (body : r.body = .settle c) :
    ownerDone rq r y = abandonedDone r c y := by
  subst owner
  unfold ownerDone
  rw [body]

theorem ownerDone_settle (owner : rq = .settle d) (body : r.body = .settle c) :
    ownerDone rq r y = settleDone d r c y := by
  subst owner
  unfold ownerDone
  rw [body]

theorem ownerDone_stage {v : Int} {g : Tag} {k n : Nat} (owner : rq = .capture d) (body : r.body = .stage v k g n) :
    ownerDone rq r y = stageDone d r.seq v k n y := by
  subst owner
  unfold ownerDone
  rw [body]

theorem ownerDone_weigh {v : Int} {g : Tag} {ro : Role} {n : Nat} {ss : List Nat} (owner : rq = .capture d)
    (body : r.body = .weigh v ro g n ss) :
    ownerDone rq r y = weighDone d r.seq r.stamp.count v ro n (!ss.isEmpty) y := by
  subst owner
  unfold ownerDone
  rw [body]

end Owner

/-! ### The committed weighing handed over (R114, R142) -/

/-- What the hand-over of a committed weighing leaves, by the transaction's role, over a state `k` whose
sequencer, visits and requests are those of `s` (R114, R142). -/
theorem handOver_spec {k : State} {w : Committed} (seq : (k.deck d).seq = (s.deck d).seq)
    (interval : (k.deck d).params.interval = (s.deck d).params.interval) (visits : k.visits = s.visits)
    (pending : k.journal.pending = s.journal.pending) (committing : (s.deck d).seq.state = .committing)
    (approach : (s.deck d).seq.approach = some e) (some_ : (s.deck d).seq.role ≠ none)
    (noPass : (s.deck d).seq.role ≠ some .pass) :
    let t := handOver d w k
    (t.deck d).capture = (k.deck d).capture ∧ (t.deck d).seq.weighing = some w
      ∧ ((s.deck d).seq.role = some .first →
          (t.deck d).seq.state = .departing ∧ (t.deck d).seq.passage = some e.other
          ∧ t.visits.table = s.visits.table.map fun x =>
              if x.number = (s.deck d).seq.visit then x.commit w else x)
      ∧ ((s.deck d).seq.role = some .second → (t.deck d).seq.state = .settling ∧ t.visits = s.visits)
      ∧ (∀ x u, (s.deck d).seq.role = some .onePass → s.visit? (s.deck d).seq.visit = some x →
          x.tare = some u →
          if (u.value : Int) + 20 * (s.deck d).params.interval ≤ w.value then
            (t.deck d).seq.state = .settling ∧ t.visits = s.visits
              ∧ t.journal.pending = s.journal.pending
          else
            (t.deck d).seq.state = .departing ∧ (t.deck d).seq.passage = some e.other
            ∧ t.journal.pending = s.journal.pending
            ∧ t.visits = { s.visits with table := s.visits.table.map fun y =>
                if y.number = (s.deck d).seq.visit then y.convert w else y }) := by
  intro t
  have here : (k.deck d).seq.state = .committing := by rw [seq, committing]
  have way : (k.deck d).seq.approach = some e := by rw [seq, approach]
  rcases role : (s.deck d).seq.role with _ | _ | _ | _ | _
  case none => exact absurd role some_
  case some.pass => exact absurd role noPass
  case some.first =>
    have shape := handOver_first (w := w) here (by rw [seq, role])
    obtain ⟨capture, weighing, state, passage, table, -⟩ := handOver_leaves way (w := w) fun v => v.commit w
    rw [← shape] at capture weighing state passage table
    rw [seq, visits] at table
    exact ⟨capture, weighing, fun _ => ⟨state, passage, congrArg Visits.table table⟩, fun h => (by cases h),
      fun _ _ h => (by cases h)⟩
  case some.second =>
    have shape := handOver_second (w := w) here (by rw [seq, role])
    obtain ⟨capture, weighing, state, table, -⟩ := handOver_settles w d k
    rw [← shape] at capture weighing state table
    exact ⟨capture, weighing, fun h => (by cases h), fun _ => ⟨state, table.trans visits⟩,
      fun _ _ h => (by cases h)⟩
  case some.onePass =>
    have shape := handOver_onePass (w := w) here (by rw [seq, role])
    have look : k.visit? (k.deck d).seq.visit = s.visit? (s.deck d).seq.visit := by
      unfold State.visit?
      rw [visits, seq]
    rw [look, interval] at shape
    by_cases passes : (((s.visit? (s.deck d).seq.visit).bind (·.tare)).any fun u =>
        onePassHolds w.value u.value (s.deck d).params.interval) = true
    · rw [if_pos passes] at shape
      obtain ⟨capture, weighing, state, table, journal⟩ := handOver_settles w d k
      rw [← shape] at capture weighing state table journal
      refine ⟨capture, weighing, fun h => (by cases h), fun h => (by cases h), fun x u _ visit tare => ?_⟩
      rw [visit, Option.bind_some, tare, Option.any_some, onePassHolds_iff] at passes
      rw [if_pos passes]
      exact ⟨state, table.trans visits, (congrArg Journal.pending journal).trans pending⟩
    · rw [if_neg passes] at shape
      obtain ⟨capture, weighing, state, passage, table, journal⟩ :=
        handOver_leaves way (w := w) fun v => v.convert w
      rw [← shape] at capture weighing state passage table journal
      rw [seq, visits] at table
      refine ⟨capture, weighing, fun h => (by cases h), fun h => (by cases h), fun x u _ visit tare => ?_⟩
      rw [visit, Option.bind_some, tare, Option.any_some, onePassHolds_iff] at passes
      rw [if_neg passes]
      exact ⟨state, passage, (congrArg Journal.pending journal).trans pending, table⟩

/-- Settles O37: the owner's part over the record written (`exec_append_recorded`), one lemma for each kind of
record. -/
theorem completionsReachOwners : Obligations.CompletionsReachOwners := by
  intro s a i going current r is quiet settled orphaned
  obtain ⟨ps, nw, x, line, told⟩ := exec_append_recorded going current
  change exec .appendComplete s = .next (ownerDone a.request.requester r (s.recorded ps nw x)) at line
  refine ⟨fun init en => stampLast_append _ _ _, _, line, fun m ⟨owner, body⟩ => ?clock,
    fun b ⟨owner, body⟩ => ?calib, fun c ⟨owner, body⟩ kind => ?abandoned,
    fun d c ⟨owner, body⟩ kind => ?settle, fun d v k g n ⟨owner, body⟩ own state => ?next,
    fun d v k g n ⟨owner, body⟩ => ⟨fun still => ?stageTold, fun orphan => ?stageOrphan,
      fun rq init en own state request stages => ?last⟩,
    fun d v ro g n ss ⟨owner, body⟩ => ⟨fun still => ?weighTold, fun orphan => ?weighOrphan⟩,
    fun d v ro g n ss e ⟨owner, body⟩ own state committing approach some_ noPass => ?weigh⟩
  case clock =>
    intro due moved heard
    rw [ownerDone_clock owner body]
    obtain ⟨clock, faults, visits, reports⟩ := clockDone_spec m (s.recorded ps nw x)
    have same := clockTold_congr m (t := s.recorded ps nw x) (s := s) rfl rfl
    refine ⟨clock, faults.trans same.1, visits, fun still => reports.trans ?_⟩
    refine tellOverstays_congr _ (same.2 (told still)) ?_
    obtain ⟨f, rep, out⟩ := clockTold_frame m (s.recorded ps nw x)
    obtain ⟨f', rep', out'⟩ := clockTold_frame m s
    rw [out]
    exact (congrArg State.clock out').symm
  case calib =>
    rw [ownerDone_calib owner body]
    exact calibWritten_spec (s.recorded ps nw x)
  case abandoned =>
    rw [ownerDone_abandoned owner body]
    obtain ⟨queue, closing, visits, accounts, tares, decks, reports⟩ :=
      abandonedDone_spec kind r (s.recorded ps nw x)
    exact ⟨queue, closing, visits, accounts, tares, decks, fun still =>
      reports.trans (offer_reports_congr _ _ _ (told still) rfl)⟩
  case settle =>
    intro q
    rw [ownerDone_settle owner body]
    have deck : (s.recorded ps nw x).deck d = s.deck d := rfl
    obtain ⟨k, en, f, rep, tables⟩ := settleDone_tables d r c (s.recorded ps nw x)
    have tares := (updateTare_congr c (t := s.recorded ps nw x) (s := s) rfl rfl).1
    refine ⟨by rw [tables]; rfl, by rw [tables]; rfl, fun two => ?_, fun one => ?_, fun none => ?_,
      fun kg n update => ?_, fun still => ?_, fun orphan => ?_, fun e own approach => ?_, fun room => ?_⟩
    · rw [tables]
      exact if_neg (by rw [two]; decide)
    · rw [tables]
      exact if_pos one
    · rw [tables]
      refine tares.trans ?_
      unfold updateTare
      rw [none]
    · rw [tables]
      dsimp only
      rw [tares]
      exact updateTare_places update
    · intro s1 s2 s3 s4
      have shape : s4 = settlementTold d r c s := by
        have first : s1 = accountTold c s := by
          simp only [s1, accountTold] <;> cases s.account? c.account <;> rfl
        have second : s2 = updateTare c s1 := by
          simp only [s2, updateTare] <;> cases c.tareUpdate <;> rfl
        simp only [s4, s3, settlementTold, second, first]
        rfl
      have base : (settleBase d r c (s.recorded ps nw x)).reports = s4.reports := by
        rw [shape]
        exact settleBase_reports (told still) rfl rfl rfl rfl
      refine ⟨fun orphan => ?_, ?_⟩
      · rw [settleDone_orphan (s := s.recorded ps nw x) orphan]
        exact base
      · obtain ⟨rest, more⟩ := settleDone_reported d r c (s.recorded ps nw x)
        exact ⟨rest, by rw [more, base]⟩
    · rw [settleDone_orphan (s := s.recorded ps nw x) orphan, settleBase_deck]
      exact if_pos orphan
    · exact settleDone_sequencer own approach
    · rw [settleDone_printer]
      exact congrArg Printer.queue (if_pos room)
  case next =>
    rw [ownerDone_stage owner body, stageDone_next (s := s.recorded ps nw x) own state,
      State.modCapture_deck, stageReport, offer_deck]
    rfl
  case stageTold =>
    rw [ownerDone_stage owner body, stageDone_reports]
    exact offer_reports_congr _ _ _ (told still) rfl
  case stageOrphan =>
    rw [ownerDone_stage owner body, stageDone_orphaned (s := s.recorded ps nw x) orphan]
    exact orphanDone_orphaned _ _ _ (s.recorded ps nw x) d
  case last =>
    intro stamped
    have sequenced : stampLast r.seq (s.deck d).capture.stages = stamped := by
      rw [stages]
      exact stampLast_append _ _ _
    rw [ownerDone_stage owner body, stageDone_last (s := s.recorded ps nw x) own state request]
    refine ⟨?_, ?_⟩
    · change (((stageReport d r.seq v k n (s.recorded ps nw x)).modCapture d fun c =>
        { c with stages := stampLast r.seq c.stages }).deck d).capture = _
      rw [State.modCapture_deck, stageReport, offer_deck]
      exact congrArg (fun z => { (s.deck d).capture with stages := z }) sequenced
    · change (stageReport d r.seq v k n (s.recorded ps nw x)).journal.pending ++ [{
        requester := .capture d, deck := some d, attempt := 1
        body := .weigh (s.deck d).capture.weighValue rq.role rq.tag rq.visit
          ((stampLast r.seq (s.deck d).capture.stages).filterMap (·.seq)) }] = _
      rw [sequenced, stageReport, offer_journal]
      rfl
  case weighTold =>
    obtain ⟨rest, more⟩ := weighDone_reported (d := d) r.seq r.stamp.count n v ro (!ss.isEmpty)
      (s.recorded ps nw x)
    have word : yn (!ss.isEmpty) = if ss = [] then "N" else "Y" := by cases ss <;> rfl
    refine ⟨rest, ?_⟩
    rw [ownerDone_weigh owner body, more, word]
    exact congrArg (fun z : Reports => z.queue ++ rest) (offer_reports_congr _ _ _ (told still) rfl)
  case weighOrphan =>
    rw [ownerDone_weigh owner body, weighDone_orphaned (s := s.recorded ps nw x) orphan]
    exact orphanDone_orphaned _ _ _ (s.recorded ps nw x) d
  case weigh =>
    rw [ownerDone_weigh owner body, weighDone_handed (s := s.recorded ps nw x) own state]
    obtain ⟨rep, frame⟩ := captured_frame d r.seq v ro n (!ss.isEmpty) (s.recorded ps nw x)
    generalize captured d r.seq v ro n (!ss.isEmpty) (s.recorded ps nw x) = k at frame ⊢
    have unit : k.deck d = { s.deck d with capture := (s.deck d).capture.toIdle false } := by
      rw [frame]
      exact PerDeck.get_set _ _ _
    have visits : k.visits = s.visits := by rw [frame]; rfl
    have pending : k.journal.pending = s.journal.pending := by rw [frame]; rfl
    obtain ⟨capture, rest⟩ := handOver_spec (w := ⟨v, r.seq, d, r.stamp.count, !ss.isEmpty⟩)
      (show (k.deck d).seq = (s.deck d).seq by rw [unit]) (by rw [unit]) visits pending committing approach some_
      noPass
    refine ⟨?_, rest⟩
    rw [capture, unit]
    rfl

end Sys2Proof.Machine
end
